-- ==== Sys2Proof/Word.lean ====
section
/-! DEFINITION. The word types of the LZ2048: register words are 32 bits, SRAM cells are bytes. -/
namespace Sys2Proof

/-- A cell of shared SRAM, the smallest unit the spec addresses. -/
abbrev Byte := BitVec 8

/-- A register word; every register of the map is 32 bits wide (R437). -/
abbrev Word := BitVec 32

end Sys2Proof
end

