-- ==== Sys2Proof/Types.lean ====
section
/-! DEFINITION. The plain data types that commands and the state share: initiators, variants, temperature measurements. -/
namespace Sys2Proof

/-- The ordering variant of the part (R1, Table 00-1). -/
inductive Variant where
  | aq | is | dv
deriving DecidableEq, Repr

/-- DEV.DEVICE_ID.VARIANT (Table 00-1). -/
def Variant.code : Variant → Nat
  | .aq => 1
  | .is => 2
  | .dv => 3

/-- What the temperature converter measures of a sensor (R394, R396): an on-die sensor's reading in 0.1 °C, none where it is open or
shorted; a remote diode's forward voltage at 10 µA in µV, with the reading in 0.1 °C that the three currents give; a thermistor's
resistance in mΩ. -/
inductive Measured where
  | die (t10 : Option Int)
  | diode (uv : Nat) (t10 : Int)
  | thermistor (mohm : Nat)
deriving DecidableEq, Repr

/-- The four initiators on the register fabric (R437). -/
inductive Initiator where
  | control | management | dma | jtag
deriving DecidableEq, Repr

/-- An access to the histogram or zoom window (R92, R95): 32 bits wide or else 16, and the word where it is a write. -/
structure WindowOp where
  wide : Bool
  word : Option Word
deriving DecidableEq, Repr

/-- The number of an initiator's own mailbox in a page (R440). -/
def Initiator.index : Initiator → Nat
  | .control => 0
  | .management => 1
  | .dma => 2
  | .jtag => 3

end Sys2Proof
end

