-- ==== Sys2Proof/Syntax.lean ====
section
/-! DEFINITION. The commands of the block, one constructor per row of the table of operations and events. The first operand `t` is the
model time at which the command happens, in LSB of device time (log entry 6). A command is what an initiator, a pin, a link
partner or one of the block's own engines does; every constructor's comment gives its row, its rule and its operands after `t`. -/
namespace Sys2Proof

/-- The commands. -/
inductive Instr where
  /-- XSPI_READ (R435): n words from an address on. -/
  | xspiRead (t addr n : Nat)
  /-- XSPI_PAGE_PROGRAM (R435): words to an address on. -/
  | xspiPageProgram (t addr : Nat) (ws : List Word)
  /-- XSPI_READ_STATUS_REGISTER (R435): the port returns 0. -/
  | xspiReadStatus (t : Nat)
  /-- XSPI_WRITE_ENABLE (R435): accepted without effect. -/
  | xspiWriteEnable (t : Nat)
  /-- XSPI_SOFTWARE_RESET (R435): the port alone is reset. -/
  | xspiSoftwareReset (t : Nat)
  /-- XSPI_BAD_COMMAND (R435): any other command, or a transfer that ends inside a word. -/
  | xspiBadCommand (t : Nat)
  /-- MGMT_I2C_WRITE (R436): words to an address on. -/
  | mgmtWrite (t addr : Nat) (ws : List Word)
  /-- MGMT_I2C_READ (R436): n words from an address on. -/
  | mgmtRead (t addr n : Nat)
  /-- SETDASA (R436): the dynamic address. -/
  | setdasa (t a7 : Nat)
  /-- ENTDAA (R436): the dynamic address. -/
  | entdaa (t a7 : Nat)
  /-- RSTDAA (R436): back to I2C. -/
  | rstdaa (t : Nat)
  /-- REGISTER_WRITE (R33): initiator, address, word. -/
  | registerWrite (t : Nat) (ini : Initiator) (addr : Nat) (w : Word)
  /-- RC_REGISTER_READ (R73): initiator, address. -/
  | rcRegisterRead (t : Nat) (ini : Initiator) (addr : Nat)
  /-- EVENT_PENDING_CLEAR (R439): initiator, page, bits. -/
  | eventPendingClear (t : Nat) (ini : Initiator) (p : Nat) (w : Word)
  /-- PAGE_LOCK_SET (R442): initiator, page. -/
  | pageLockSet (t : Nat) (ini : Initiator) (p : Nat)
  /-- MBX_SELECT_WRITE (R440): initiator, page, selection. -/
  | mbxSelectWrite (t : Nat) (ini : Initiator) (p : Nat) (w : Word)
  /-- MBX_SNAPSHOT (R440): whose mailbox, of which page. -/
  | mbxSnapshot (t : Nat) (ini : Initiator) (p : Nat)
  /-- BIT_ALIAS_WRITE (R441): initiator, address in the window, word. -/
  | bitAliasWrite (t : Nat) (ini : Initiator) (addr : Nat) (w : Word)
  /-- POWER_ON (R457): levels of PWRGOOD and RESET_L. -/
  | powerOn (t : Nat) (pwrgood resetL : Bool)
  /-- RESET_L_ASSERT (R457): RESET_L is low. -/
  | resetLAssert (t : Nat)
  /-- RESET_L_RELEASE (R457): RESET_L is high. -/
  | resetLRelease (t : Nat)
  /-- PWRGOOD_FALL (R457): PWRGOOD is low. -/
  | pwrgoodFall (t : Nat)
  /-- PWRGOOD_RISE (R457): PWRGOOD is high. -/
  | pwrgoodRise (t : Nat)
  /-- BROWNOUT (R456): rail. -/
  | brownout (t r : Nat)
  /-- SUPPLY_OUT_OF_WINDOW (R456): rail. -/
  | supplyOutOfWindow (t r : Nat)
  /-- SUPPLY_RESTORED (R456): every rail in its window. -/
  | supplyRestored (t : Nat)
  /-- SOFT_RESET (R457): initiator. -/
  | softReset (t : Nat) (ini : Initiator)
  /-- BOOT_ENTRY (R463): 50 us after every cause. -/
  | bootEntry (t : Nat)
  /-- REQUEST_STANDBY (R463): initiator. -/
  | requestStandby (t : Nat) (ini : Initiator)
  /-- REQUEST_ARMED (R463): initiator. -/
  | requestArmed (t : Nat) (ini : Initiator)
  /-- REQUEST_SCANNING (R463): initiator. -/
  | requestScanning (t : Nat) (ini : Initiator)
  /-- REQUEST_SAFE_HOLD (R463): initiator. -/
  | requestSafeHold (t : Nat) (ini : Initiator)
  /-- STATE_REQUEST_OTHER (R463): initiator, any other code. -/
  | stateRequestOther (t : Nat) (ini : Initiator) (req : Nat)
  /-- TIMING_PLL_LOCK (R459): the PLL locks. -/
  | timingPllLock (t : Nat)
  /-- TIMING_PLL_UNLOCK (R460): the PLL loses lock. -/
  | timingPllUnlock (t : Nat)
  /-- LANE_PLL_LOCK (R459): the lane PLL locks. -/
  | lanePllLock (t : Nat)
  /-- AUX_PLL_LOCK (R459): the auxiliary PLL locks. -/
  | auxPllLock (t : Nat)
  /-- GATE_CTRL_WRITE (R466): initiator, word. -/
  | gateCtrlWrite (t : Nat) (ini : Initiator) (w : Word)
  /-- DOMAIN_GATED (R467): the domain in progress. -/
  | domainGated (t : Nat)
  /-- DOMAIN_RESTORED (R470): the domain in progress. -/
  | domainRestored (t : Nat)
  /-- DOMAIN_SWITCH_TIMEOUT (R466): the domain in progress. -/
  | domainSwitchTimeout (t : Nat)
  /-- SYNC_TIME_FRAME_SEND (R143): at a TIME period. -/
  | syncTimeFrameSend (t : Nat)
  /-- SYNC_IN_EDGE (R143): a rising edge. -/
  | syncInEdge (t : Nat)
  /-- SYNC_TIME_FRAME_RECEIVE (R144): leader time of the marker, CRC right. -/
  | syncTimeFrameReceive (t tm : Nat) (crcOk : Bool)
  /-- SYNC_EVENT_FRAME_RECEIVE (R143): payload, CRC right. -/
  | syncEventFrameReceive (t f : Nat) (crcOk : Bool)
  /-- SYNC_FRAME_MISSED (R144): an expected frame. -/
  | syncFrameMissed (t : Nat)
  /-- DTB_LOAD (R145): initiator, word. -/
  | dtbLoad (t : Nat) (ini : Initiator) (w : Word)
  /-- DTB_RESYNC (R144): initiator, word. -/
  | dtbResync (t : Nat) (ini : Initiator) (w : Word)
  /-- DEVICE_TIME_SATURATE (R141): at the end of the range. -/
  | deviceTimeSaturate (t : Nat)
  /-- CELL_ARM (R43): bank. -/
  | cellArm (t bank : Nat)
  /-- CELL_AVALANCHE (R37): cell of the line, raw code of a conversion it starts, level of BLANK_L low at the period end. -/
  | cellAvalanche (t cell raw : Nat) (endLow : Bool)
  /-- TIMESTAMP_RELEASE (R70): channel. -/
  | timestampRelease (t ch : Nat)
  /-- HISTOGRAM_INCREMENT (R85): channel. -/
  | histogramIncrement (t ch : Nat)
  /-- BLANK_L_FALL (R44): first sampled low. -/
  | blankLFall (t : Nat)
  /-- BLANK_LONG (R46): terrace. -/
  | blankLong (t tr : Nat)
  /-- LATCH_CLR (R39): initiator, terrace. -/
  | latchClr (t : Nat) (ini : Initiator) (tr : Nat)
  /-- ROUTE_WRITE (R55): initiator, terrace, register, word. -/
  | routeWrite (t : Nat) (ini : Initiator) (tr n : Nat) (w : Word)
  /-- HOP_EXECUTE (R53): channel. -/
  | hopExecute (t ch : Nat)
  /-- START_PULSE (R67): terrace, raw code. -/
  | startPulse (t tr raw : Nat)
  /-- START_WINDOW_CLOSE (R68): bank. -/
  | startWindowClose (t bank : Nat)
  /-- SCALE_LOOP_REFERENCE (R63): terrace, raw code. -/
  | scaleLoopReference (t tr raw : Nat)
  /-- CAL_TABLE_COMMIT (R66): initiator, bed, channels. -/
  | calTableCommit (t : Nat) (ini : Initiator) (bed : Nat) (w : Word)
  /-- REF_CAL_COMMIT (R66): initiator, terrace, word. -/
  | refCalCommit (t : Nat) (ini : Initiator) (tr : Nat) (w : Word)
  /-- SLOT_TRIGGER (R27): the plan read back: missing, or segment, code and width. -/
  | slotTrigger (t : Nat) (rbMissing : Bool) (rb : List (Nat × Nat × Nat))
  /-- TIMED_TRIGGER_EXPIRY (R189): the plan read back: missing, or segment, code and width. -/
  | timedTriggerExpiry (t : Nat) (rbMissing : Bool) (rb : List (Nat × Nat × Nat))
  /-- DITHER_SEQUENCE_DONE (R121): the computation ends. -/
  | ditherSequenceDone (t : Nat)
  /-- ZTAB_FETCH_DONE (R90): terrace. -/
  | ztabFetchDone (t tr : Nat)
  /-- LONG_BUFFER_RELEASE (R83): terrace. -/
  | longBufferRelease (t tr : Nat)
  /-- SHOT_START (R29): the next shot. -/
  | shotStart (t : Nat)
  /-- BANK_FIRE (R183): sense voltages of the columns and anode voltage, in uV. -/
  | bankFire (t : Nat) (isense : List Nat) (vf : Nat)
  /-- RANGE_GATE_OPEN (R42): bank. -/
  | rangeGateOpen (t bank : Nat)
  /-- RANGE_GATE_CLOSE (R42): bank. -/
  | rangeGateClose (t bank : Nat)
  /-- GTH_VERDICT_PASS (R208): the next pass. -/
  | gthVerdictPass (t : Nat)
  /-- GTH_STALE (R212): no angle sample. -/
  | gthStale (t : Nat)
  /-- GTH_SCAN_RETURN (R213): the scanning table returns. -/
  | gthScanReturn (t : Nat)
  /-- GTH_CHARGE_CHECK (R215): every 10 us. -/
  | gthChargeCheck (t : Nat)
  /-- EMIT_EN_FALL (R217): how long the pin stays low, in LSB. -/
  | emitEnFall (t low : Nat)
  /-- EMIT_EN_STABLE (R217): high for 1 us. -/
  | emitEnStable (t : Nat)
  /-- GTH_BUDGET_WRITE (R211): initiator, offset of a one-way field, word. -/
  | gthBudgetWrite (t : Nat) (ini : Initiator) (off : Nat) (w : Word)
  /-- PATTERN_LOAD (R180): initiator, word. -/
  | patternLoad (t : Nat) (ini : Initiator) (w : Word)
  /-- PATTERN_LOAD_DONE (R180): the copy ends. -/
  | patternLoadDone (t : Nat)
  /-- PATTERN_READY_WRITE (R180): initiator, word. -/
  | patternReadyWrite (t : Nat) (ini : Initiator) (w : Word)
  /-- SYNC_SWAP (R190): the oldest request. -/
  | syncSwap (t : Nat)
  /-- BND_DISABLE (R195): initiator, word. -/
  | bndDisable (t : Nat) (ini : Initiator) (w : Word)
  /-- BND_TRIGGER_SOURCE_WRITE (R196): initiator, word. -/
  | bndTriggerSourceWrite (t : Nat) (ini : Initiator) (w : Word)
  /-- PROBE_FIRE (R193): sense voltage and anode voltage, in uV. -/
  | probeFire (t vs vf : Nat)
  /-- PROBE_LATE (R193): segment. -/
  | probeLate (t seg : Nat)
  /-- SEG_FAULT_CLEAR (R192): initiator, upper half, bits. -/
  | segFaultClear (t : Nat) (ini : Initiator) (hi : Bool) (w : Word)
  /-- LOOP_SAMPLE_TIME (R227): loop. -/
  | loopSampleTime (t l : Nat)
  /-- LOOP_UPDATE (R229): the engine serves the next loop. -/
  | loopUpdate (t : Nat)
  /-- PWM_PERIOD_START (R239): loop. -/
  | pwmPeriodStart (t l : Nat)
  /-- FTN_ENABLE_WRITE (R231): initiator, loop, word. -/
  | ftnEnableWrite (t : Nat) (ini : Initiator) (l : Nat) (w : Word)
  /-- FTN_CLOSE_WRITE (R231): initiator, loop, word. -/
  | ftnCloseWrite (t : Nat) (ini : Initiator) (l : Nat) (w : Word)
  /-- FTN_SP_WRITE (R236): initiator, loop, word. -/
  | ftnSpWrite (t : Nat) (ini : Initiator) (l : Nat) (w : Word)
  /-- SAR_CONVERSION_DONE (R255): converter, the sampled voltages in nV, each with the excitation in uV. -/
  | sarConversionDone (t sar : Nat) (samples : List (Int × Nat))
  /-- SAR_ROUTINE_DUE (R256): converter. -/
  | sarRoutineDue (t sar : Nat)
  /-- SINC_OUTPUT (R251): modulator, filter output. -/
  | sincOutput (t m : Nat) (v : Int)
  /-- NOTCH_WINDOW_END (R253): modulator. -/
  | notchWindowEnd (t m : Nat)
  /-- CLAMP_CONDUCTION (R245): input, conduction begins or ends. -/
  | clampConduction (t inp : Nat) (begins : Bool)
  /-- WIRE_CHECK_START (R249): input. -/
  | wireCheckStart (t inp : Nat)
  /-- WIRE_CHECK_DONE (R249): the response in ohm. -/
  | wireCheckDone (t z : Nat)
  /-- EXC_WRITE (R248): initiator, bridge, word. -/
  | excWrite (t : Nat) (ini : Initiator) (n : Nat) (w : Word)
  /-- PMP_DISABLE (R261): initiator, word. -/
  | pmpDisable (t : Nat) (ini : Initiator) (w : Word)
  /-- SD_ENABLE_WRITE (R261): initiator, modulator, word. -/
  | sdEnableWrite (t : Nat) (ini : Initiator) (m : Nat) (w : Word)
  /-- CSC_SERVICE_POINT (R270): channel. -/
  | cscServicePoint (t c : Nat)
  /-- CSC_OUTPUT_RELEASE (R270): channel. -/
  | cscOutputRelease (t c : Nat)
  /-- CSC_ENABLE_WRITE (R280): initiator, word. -/
  | cscEnableWrite (t : Nat) (ini : Initiator) (w : Word)
  /-- CSC_CHANNEL_CONFIG_WRITE (R280): initiator, channel, word. -/
  | cscChannelConfigWrite (t : Nat) (ini : Initiator) (c : Nat) (w : Word)
  /-- TIMEOUT_TRIGGER (R286): trigger unit. -/
  | timeoutTrigger (t x : Nat)
  /-- BLV_ARM (R289): initiator, word. -/
  | blvArm (t : Nat) (ini : Initiator) (w : Word)
  /-- BLV_ABORT (R289): initiator, word. -/
  | blvAbort (t : Nat) (ini : Initiator) (w : Word)
  /-- BLV_FORCE (R287): initiator, word. -/
  | blvForce (t : Nat) (ini : Initiator) (w : Word)
  /-- BLV_TIMEOUT_END (R289): 27.49 s after the trigger. -/
  | blvTimeoutEnd (t : Nat)
  /-- BLV_MASK_TEST_DONE (R292): the test ends. -/
  | blvMaskTestDone (t : Nat)
  /-- BLV_DUMP_DONE (R291): the image leaves. -/
  | blvDumpDone (t : Nat)
  /-- BLV_READ_DATA (R291): initiator. -/
  | blvReadData (t : Nat) (ini : Initiator)
  /-- SCAN_WORD (R125): channel. -/
  | scanWord (t ch : Nat)
  /-- CHANNEL_EXTRACTION (R110): channel. -/
  | channelExtraction (t ch : Nat)
  /-- SLOT_MARKER_DELIVERY (R311): terrace. -/
  | slotMarkerDelivery (t tr : Nat)
  /-- ECHO_RECORD_DELIVERY (R119): channel. -/
  | echoRecordDelivery (t ch : Nat)
  /-- GZB_DISABLE (R126): initiator, terrace, word. -/
  | gzbDisable (t : Nat) (ini : Initiator) (tr : Nat) (w : Word)
  /-- GZB_LISTEN_WRITE (R123): initiator, word. -/
  | gzbListenWrite (t : Nat) (ini : Initiator) (w : Word)
  /-- DITHER_WRITE (R121): initiator, the salt, word. -/
  | ditherWrite (t : Nat) (ini : Initiator) (salt : Bool) (w : Word)
  /-- ORG_CLEAR (R98): initiator, terrace. -/
  | orgClear (t : Nat) (ini : Initiator) (tr : Nat)
  /-- ORG_DISABLE (R99): initiator, terrace, word. -/
  | orgDisable (t : Nat) (ini : Initiator) (tr : Nat) (w : Word)
  /-- ORG_MODE_WRITE (R98): initiator, terrace, word. -/
  | orgModeWrite (t : Nat) (ini : Initiator) (tr : Nat) (w : Word)
  /-- ORG_WINDOW_ACCESS (R92, R93): address, width and word. -/
  | orgWindowAccess (t addr : Nat) (op : WindowOp)
  /-- ZOOM_WINDOW_ACCESS (R95): address, width and word. -/
  | zoomWindowAccess (t addr : Nat) (op : WindowOp)
  /-- SLOT_HEADER_COMMIT (R167): the oldest slot. -/
  | slotHeaderCommit (t : Nat)
  /-- PACKET_SEND (R164): the oldest packet. -/
  | packetSend (t : Nat)
  /-- MARKER_SEND (R448): the oldest marker. -/
  | markerSend (t : Nat)
  /-- AM_COLUMN_SEND (R155): every 4,096th column. -/
  | amColumnSend (t : Nat)
  /-- CDR_LOCK (R157): lane. -/
  | cdrLock (t lane : Nat)
  /-- BLOCK_LOCK_ACQUIRE (R157): lane. -/
  | blockLockAcquire (t lane : Nat)
  /-- INVALID_HEADER_RECEIVE (R157): lane. -/
  | invalidHeaderReceive (t lane : Nat)
  /-- AM_BLOCK_RECEIVE (R157): lane, LANE_ID, AM_STATUS of the far end. -/
  | amBlockReceive (t lane id status : Nat)
  /-- AM_LOCK_LOSS (R157): lane. -/
  | amLockLoss (t lane : Nat)
  /-- LOS_ASSERT (R159): lane. -/
  | losAssert (t lane : Nat)
  /-- LOS_CLEAR (R159): lane. -/
  | losClear (t lane : Nat)
  /-- LOSS_OF_LOCK (R159): lane. -/
  | lossOfLock (t lane : Nat)
  /-- XOFF_RECEIVE (R169): an XOFF block. -/
  | xoffReceive (t : Nat)
  /-- XON_RECEIVE (R169): an XON block, an XOFF in the same column. -/
  | xonReceive (t : Nat) (xoffToo : Bool)
  /-- XOFF_LONG (R169): a long hold. -/
  | xoffLong (t : Nat)
  /-- PSTATE_WRITE (R161): initiator, lane or 10 for the link, word. -/
  | pstateWrite (t : Nat) (ini : Initiator) (n : Nat) (w : Word)
  /-- LOOPBACK_WRITE (R162): initiator, word. -/
  | loopbackWrite (t : Nat) (ini : Initiator) (w : Word)
  /-- PRBS_WRITE (R163): initiator, lane, word. -/
  | prbsWrite (t : Nat) (ini : Initiator) (lane : Nat) (w : Word)
  /-- PRBS_BIT_ERROR (R163): lane. -/
  | prbsBitError (t lane : Nat)
  /-- SGMII_CONTROL_WORD (R171): lane; link up, 1000 Mb/s, full duplex. -/
  | sgmiiControlWord (t lane : Nat) (up gig full : Bool)
  /-- DMA_ENABLE (R328): initiator, channel, word. -/
  | dmaEnable (t : Nat) (ini : Initiator) (n : Nat) (w : Word)
  /-- DMA_DISABLE (R337): initiator, channel, word. -/
  | dmaDisable (t : Nat) (ini : Initiator) (n : Nat) (w : Word)
  /-- DMA_COMMON_DISABLE (R342): initiator. -/
  | dmaCommonDisable (t : Nat) (ini : Initiator)
  /-- DMA_DESCRIPTOR_FETCH (R325): channel. -/
  | dmaDescriptorFetch (t n : Nat)
  /-- DMA_BEAT_ISSUE (R328): the channel whose turn it is. -/
  | dmaBeatIssue (t : Nat)
  /-- DMA_WRITE_RESPONSE (R329): channel. -/
  | dmaWriteResponse (t n : Nat)
  /-- DMA_ERROR_RESPONSE (R335): channel, to a fetch. -/
  | dmaErrorResponse (t n : Nat) (fetch : Bool)
  /-- DMA_RING_RESET (R334): initiator, channel, RING_BASE or RING_CFG, word. -/
  | dmaRingReset (t : Nat) (ini : Initiator) (n : Nat) (base : Bool) (w : Word)
  /-- DMA_RD_PTR_WRITE (R332): initiator, channel, word. -/
  | dmaRdPtrWrite (t : Nat) (ini : Initiator) (n : Nat) (w : Word)
  /-- CHANNEL_A_VERDICT (R348): the oldest slot. -/
  | channelAVerdict (t : Nat)
  /-- VERDICT_LATENCY_EXPIRY (R351): 1.3 ms after the trigger. -/
  | verdictLatencyExpiry (t : Nat)
  /-- CHANNEL_B_TIMEOUT (R351): 500 us after channel A. -/
  | channelBTimeout (t : Nat)
  /-- OUTPUT_MESSAGE_TIMEOUT (R351): 2 ms without a message. -/
  | outputMessageTimeout (t : Nat)
  /-- FS_CRC_RECHECK (R344): once a second. -/
  | fsCrcRecheck (t : Nat)
  /-- COVERAGE_EXPIRY (R352): cell of the field set. -/
  | coverageExpiry (t fcell : Nat)
  /-- OSSD_TEST_WINDOW_START (R355): output. -/
  | ossdTestWindowStart (t o : Nat)
  /-- OSSD_TEST_WINDOW_END (R355): output. -/
  | ossdTestWindowEnd (t o : Nat)
  /-- OSSD_READBACK_CHANGE (R355): output, its level. -/
  | ossdReadbackChange (t o : Nat) (level : Bool)
  /-- TPO_PULSE_START (R358): test pulse output. -/
  | tpoPulseStart (t o : Nat)
  /-- TPO_PULSE_END (R358): test pulse output; levels of the inputs before, in and after the pulse. -/
  | tpoPulseEnd (t o before during after : Nat)
  /-- SIN_FILTER_CHANGE (R359): input, its filtered state. -/
  | sinFilterChange (t n : Nat) (level : Bool)
  /-- LODGE_MS_TICK (R360): every 1 ms. -/
  | lodgeMsTick (t : Nat)
  /-- SIN_DISC_FAULT (R360): pair of inputs. -/
  | sinDiscFault (t n : Nat)
  /-- LODGE_KIND3_ENTRY (R350): every 1 ms and at a change. -/
  | lodgeKind3Entry (t : Nat)
  /-- RESTART_DELAY_EXPIRY (R357): after RESTART_MS. -/
  | restartDelayExpiry (t : Nat)
  /-- FS_PREP_DONE (R363): the preparation ends. -/
  | fsPrepDone (t : Nat)
  /-- FS_OVERLAP_END (R363): the overlap ends. -/
  | fsOverlapEnd (t : Nat)
  /-- STATUS_PDU_SEND (R365): every 10 ms. -/
  | statusPduSend (t : Nat)
  /-- COMMAND_PDU_RECEIVE (R368): lane B, the frame. -/
  | commandPduReceive (t : Nat) (b : Bool) (frame : List Nat)
  /-- COMMAND_PAIR_TIMEOUT (R368): 20 ms without a partner. -/
  | commandPairTimeout (t : Nat)
  /-- NET_WATCHDOG_EXPIRY (R369): no acceptance for WD_MS. -/
  | netWatchdogExpiry (t : Nat)
  /-- LDG_FAULT_CLEAR (R353): initiator, bits. -/
  | ldgFaultClear (t : Nat) (ini : Initiator) (w : Word)
  /-- CAL_START (R390): initiator, word. -/
  | calStart (t : Nat) (ini : Initiator) (w : Word)
  /-- CAL_AUTO_START (R390): the interval has passed. -/
  | calAutoStart (t : Nat)
  /-- CAL_RUN_END (R385): a run ends. -/
  | calRunEnd (t : Nat)
  /-- CAL_ABORT (R389): initiator, word. -/
  | calAbort (t : Nat) (ini : Initiator) (w : Word)
  /-- THERMAL_CONVERSION_DONE (R395): sensor, what the converter measured of it. -/
  | thermalConversionDone (t s_ : Nat) (x : Measured)
  /-- READING_STALE (R395): sensor. -/
  | readingStale (t s_ : Nat)
  /-- OTP_PROGRAM_GO (R407): initiator, word. -/
  | otpProgramGo (t : Nat) (ini : Initiator) (w : Word)
  /-- OTP_PROGRAM_DONE (R407): the word reads back as programmed. -/
  | otpProgramDone (t : Nat) (ok : Bool)
  /-- OTP_READ_DATA (R412): initiator. -/
  | otpReadData (t : Nat) (ini : Initiator)
  /-- SEC_BOOT_GO (R420): initiator. -/
  | secBootGo (t : Nat) (ini : Initiator)
  /-- TOKEN_DEBUG_UNLOCK (R424): initiator. -/
  | tokenDebugUnlock (t : Nat) (ini : Initiator)
  /-- TOKEN_INSTALL_CUSTOMER (R423): initiator. -/
  | tokenInstallCustomer (t : Nat) (ini : Initiator)
  /-- TOKEN_REVOKE (R423): initiator. -/
  | tokenRevoke (t : Nat) (ini : Initiator)
  /-- TOKEN_RAISE_SVN (R423): initiator. -/
  | tokenRaiseSvn (t : Nat) (ini : Initiator)
  /-- TOKEN_UNKNOWN_OP (R422): initiator. -/
  | tokenUnknownOp (t : Nat) (ini : Initiator)
  /-- ATTESTATION_GO (R431): initiator. -/
  | attestationGo (t : Nat) (ini : Initiator)
  /-- RESERVATION_OPEN (R428): the next block. -/
  | reservationOpen (t : Nat)
  /-- ATTESTATION_DONE (R430): the report is signed. -/
  | attestationDone (t : Nat)
  /-- SEC_REPORT_READ (R431): initiator. -/
  | secReportRead (t : Nat) (ini : Initiator)
  /-- LOG_POP_WRITE (R449): initiator, sequence number. -/
  | logPopWrite (t : Nat) (ini : Initiator) (seq : Word)
  /-- LOG_CLEAR (R452): initiator. -/
  | logClear (t : Nat) (ini : Initiator)
  /-- SOFT_EVENT (R452): initiator. -/
  | softEvent (t : Nat) (ini : Initiator)
  /-- EVENT_COUNTER_LOAD (R447): initiator, counter, value. -/
  | eventCounterLoad (t : Nat) (ini : Initiator) (n : Nat) (w : Word)
  /-- PGL_RUN_START (R318): initiator, core, word. -/
  | pglRunStart (t : Nat) (ini : Initiator) (k : Nat) (w : Word)
  /-- PGL_RUN_STOP (R318): initiator, core, word. -/
  | pglRunStop (t : Nat) (ini : Initiator) (k : Nat) (w : Word)
  /-- PGL_MODE_WRITE (R309): initiator, core, word. -/
  | pglModeWrite (t : Nat) (ini : Initiator) (k : Nat) (w : Word)
  /-- PGL_LOAD (R320): initiator, terrace. -/
  | pglLoad (t : Nat) (ini : Initiator) (tr : Nat)
  /-- PGL_LOAD_DONE (R320): terrace. -/
  | pglLoadDone (t tr : Nat)
  /-- PGL_MEMORY_ACCESS (R302): initiator, core, word, value of a write. -/
  | pglMemoryAccess (t : Nat) (ini : Initiator) (k word : Nat) (d24 : Option (BitVec 24))
  /-- CODE_WINDOW_WRITE (R302): address, word. -/
  | codeWindowWrite (t addr : Nat) (w : Word)
  /-- NOP (R307): core. -/
  | pglNop (t k : Nat)
  /-- HALT (R307): core. -/
  | pglHalt (t k : Nat)
  /-- TRAP (R307): core. -/
  | pglTrap (t k : Nat)
  /-- MOV (R307): core. -/
  | pglMov (t k : Nat)
  /-- LDI (R307): core. -/
  | pglLdi (t k : Nat)
  /-- LD (R307): core. -/
  | pglLd (t k : Nat)
  /-- ST (R307): core. -/
  | pglSt (t k : Nat)
  /-- LDST (R307): core. -/
  | pglLdst (t k : Nat)
  /-- GETT (R307): core. -/
  | pglGett (t k : Nat)
  /-- ADD (R303): core. -/
  | pglAdd (t k : Nat)
  /-- SUB (R303): core. -/
  | pglSub (t k : Nat)
  /-- AND (R303): core. -/
  | pglAnd (t k : Nat)
  /-- OR (R303): core. -/
  | pglOr (t k : Nat)
  /-- XOR (R303): core. -/
  | pglXor (t k : Nat)
  /-- SHL (R303): core. -/
  | pglShl (t k : Nat)
  /-- SHR (R303): core. -/
  | pglShr (t k : Nat)
  /-- CMP (R303): core. -/
  | pglCmp (t k : Nat)
  /-- MAX (R307): core. -/
  | pglMax (t k : Nat)
  /-- MIN (R307): core. -/
  | pglMin (t k : Nat)
  /-- ABS (R303): core. -/
  | pglAbs (t k : Nat)
  /-- MPY (R304): core. -/
  | pglMpy (t k : Nat)
  /-- MAC (R304): core. -/
  | pglMac (t k : Nat)
  /-- MSU (R304): core. -/
  | pglMsu (t k : Nat)
  /-- AADD (R304): core. -/
  | pglAadd (t k : Nat)
  /-- LDA (R305): core. -/
  | pglLda (t k : Nat)
  /-- STA (R305): core. -/
  | pglSta (t k : Nat)
  /-- DSTEP (R306): core. -/
  | pglDstep (t k : Nat)
  /-- CLRF (R307): core. -/
  | pglClrf (t k : Nat)
  /-- BR (R307): core. -/
  | pglBr (t k : Nat)
  /-- CALL (R307): core. -/
  | pglCall (t k : Nat)
  /-- RET (R307): core. -/
  | pglRet (t k : Nat)
  /-- LBR (R300): core. -/
  | pglLbr (t k : Nat)
  /-- ADV (R300): core. -/
  | pglAdv (t k : Nat)
  /-- POP (R312): core. -/
  | pglPop (t k : Nat)
  /-- POP_RESUME (R308): core. -/
  | pglPopResume (t k : Nat)
  /-- PUSHO (R315): core. -/
  | pglPusho (t k : Nat)
  /-- SEND (R315): core. -/
  | pglSend (t k : Nat)
  /-- SEND_RESUME (R308): core. -/
  | pglSendResume (t k : Nat)
  /-- LSEND (R316): core. -/
  | pglLsend (t k : Nat)
  /-- ZLD (R314): core. -/
  | pglZld (t k : Nat)
  /-- ZLD_WRITEBACK (R308): core. -/
  | pglZldWriteback (t k : Nat)
  /-- BRPT (R310): core. -/
  | pglBrpt (t k : Nat)
  /-- ILLEGAL_OPCODE (R307): core. -/
  | pglIllegalOpcode (t k : Nat)
  /-- TAP_RESET (R490): to Test-Logic-Reset. -/
  | tapReset (t : Nat)
  /-- JTAG_BYPASS (R492): instruction code. -/
  | jtagBypass (t code : Nat)
  /-- JTAG_IDCODE (R491): IDCODE. -/
  | jtagIdcode (t : Nat)
  /-- JTAG_SAMPLE_PRELOAD (R493): pins sampled, cells preloaded. -/
  | jtagSamplePreload (t sampled latches : Nat)
  /-- JTAG_EXTEST (R494): pins sampled, cells driven. -/
  | jtagExtest (t sampled latches : Nat)
  /-- JTAG_EXTEST_PULSE (R494): pins sampled, cells driven. -/
  | jtagExtestPulse (t sampled latches : Nat)
  /-- JTAG_EXTEST_TRAIN (R494): pins sampled, cells driven. -/
  | jtagExtestTrain (t sampled latches : Nat)
  /-- JTAG_CLAMP (R494): CLAMP. -/
  | jtagClamp (t : Nat)
  /-- JTAG_HIGHZ (R494): HIGHZ. -/
  | jtagHighz (t : Nat)
  /-- JTAG_DBG_ACCESS (R495): address, word of a write. -/
  | jtagDbgAccess (t addr : Nat) (ow : Option Word)
  /-- DBG_MEM_READ (R498): initiator. -/
  | dbgMemRead (t : Nat) (ini : Initiator)
  /-- BLANK_L_RISE (R44): no longer sampled low. -/
  | blankLRise (t : Nat)
  /-- EMIT_EN_RISE (R217): the pin is high. -/
  | emitEnRise (t : Nat)
  /-- BND_ENABLE (R190): initiator, word. -/
  | bndEnable (t : Nat) (ini : Initiator) (w : Word)
  /-- BROWNOUT_END (R457): rail. -/
  | brownoutEnd (t r : Nat)
  /-- IMAGES_VERIFIED (R420): the verification ends. -/
  | imagesVerified (t : Nat)
  /-- ID_READY (R420): the key is computed. -/
  | idReady (t : Nat)
  /-- BED_TEST_START (R390): the spacing allows it. -/
  | bedTestStart (t : Nat)
  /-- UNKNOWN_CONTROL_BLOCK (R154): lane. -/
  | unknownControlBlock (t lane : Nat)
deriving DecidableEq, Repr

end Sys2Proof
end

