-- ==== Sys2Proof/Decode.lean ====
section
/-! DEFINITION. The command that a word spells. The table of operations and events gives no row any bits: commands reach the block as
transfers on its ports, as changes of its pins and as the times of its engines, never as words of a code. -/
namespace Sys2Proof

/-- The command that the low `nbits` bits of `w` spell: none, since no row has bits. -/
def decodeTableWord (_nbits _w : Nat) : Option Instr := none

end Sys2Proof
end

