-- ==== Sys2Proof/Config.lean ====
section
/-! DEFINITION. What the spec leaves open as a value (`free`), and the fixed unit of time.
The unit of model time is one LSB of device time, 12.5 ps (R12); every duration the spec states
that a meaning uses is a whole number of LSB. -/
namespace Sys2Proof.Config

/-- The n-th value that the spec leaves open. It has no body, so nothing can be proved of its value;
a meaning applies it to the counter `Dev.freeCtr`, which it then advances (log entry 2). -/
opaque free : Nat → Nat

/-- What the factory put into the part, by word of OTP, or by 8,192 plus the register's key for a value that a register takes from
the factory area, whose layout the spec does not give (log entry 2). -/
opaque factory : Nat → Nat

/-- How long Lodge channel A takes to evaluate a record of the echo feed, in LSB: the spec gives its queue and not its pace (R26, R348, log
entry 81). -/
opaque feedTime : Nat

/-- LSB of device time in n ns (12.5 ps each, R12). -/
def ns (n : Nat) : Nat := 80 * n

/-- LSB of device time in n us. -/
def us (n : Nat) : Nat := 80000 * n

/-- LSB of device time in n ms. -/
def ms (n : Nat) : Nat := 80000000 * n

/-- Size of shared SRAM in bytes, 8 MiB (Table 20-1). -/
def sramBytes : Nat := 0x800000

end Sys2Proof.Config
end

