-- ==== Sys2Proof/Machine/RegMap.lean ====
section
/-! DEFINITION. The register map: every register of the spec's register tables with its offset in its
page, its reset value and its access masks (R13, Table 00-5), and one named field per table row.
Chapters 02 to 23, the register-map sections; the access masks and fields are the tables' rows. -/
namespace Sys2Proof.Machine

/-- A field of a register: byte offset in its page, top bit and bottom bit. -/
structure Fld where
  off : Nat
  hi : Nat
  lo : Nat
deriving DecidableEq, Repr

/-- The same field of the register `n` bytes further on (an array of registers). -/
def Fld.plus (f : Fld) (n : Nat) : Fld := { f with off := f.off + n }

/-- A register, or an array of `count` registers `step` bytes apart. Each mask marks the bits with
that access code of Table 00-5; a bit in no mask is RO or reserved. -/
structure RegDef where
  off : Nat
  count : Nat
  step : Nat
  reset : Word
  rw : Word
  rwl : Word
  rwo : Word
  w1c : Word
  w1s : Word
  wo : Word
  rc : Word
deriving DecidableEq, Repr


abbrev MDW_CTRL : Nat := 0x020
abbrev MDW_CTRL_EARLY_ARM : Fld := ⟨0x020, 7, 4⟩
abbrev MDW_CTRL_ARM_MODE : Fld := ⟨0x020, 1, 1⟩
abbrev MDW_CTRL_EN : Fld := ⟨0x020, 0, 0⟩
abbrev MDW_DEAD_TIME : Nat := 0x024
abbrev MDW_DEAD_TIME_DT : Fld := ⟨0x024, 3, 0⟩
abbrev MDW_COINC : Nat := 0x028
abbrev MDW_COINC_WIN : Fld := ⟨0x028, 6, 4⟩
abbrev MDW_COINC_K : Fld := ⟨0x028, 3, 0⟩
abbrev MDW_BLANK_CTRL : Nat := 0x02C
abbrev MDW_BLANK_CTRL_BLANK_MAX : Fld := ⟨0x02C, 31, 16⟩
abbrev MDW_BLANK_CTRL_POST : Fld := ⟨0x02C, 15, 8⟩
abbrev MDW_BLANK_CTRL_EN : Fld := ⟨0x02C, 0, 0⟩
abbrev MDW_BLANK_DISCARD : Nat := 0x030
abbrev MDW_BLANK_TIME : Nat := 0x034
abbrev MDW_LATCHED_CELLS : Nat := 0x038
abbrev MDW_LATCHED_CELLS_COUNT : Fld := ⟨0x038, 15, 0⟩
abbrev MDW_LATCH_LAST : Nat := 0x03C
abbrev MDW_LATCH_LAST_VALID : Fld := ⟨0x03C, 31, 31⟩
abbrev MDW_LATCH_LAST_CELL : Fld := ⟨0x03C, 16, 0⟩
abbrev MDW_LATCH_CLR : Nat := 0x040
abbrev MDW_LATCH_CLR_CLR : Fld := ⟨0x040, 0, 0⟩
abbrev MDW_PIX_EN : Nat := 0x100

abbrev TRL_CTRL : Nat := 0x020
abbrev TRL_CTRL_DIR : Fld := ⟨0x020, 9, 8⟩
abbrev TRL_CTRL_HOP_MAX : Fld := ⟨0x020, 6, 4⟩
abbrev TRL_CTRL_LAG_MODE : Fld := ⟨0x020, 1, 0⟩
abbrev TRL_SC_PITCH : Nat := 0x024
abbrev TRL_SC_PITCH_PITCH : Fld := ⟨0x024, 15, 0⟩
abbrev TRL_OPT_GAIN : Nat := 0x028
abbrev TRL_OPT_GAIN_GAIN : Fld := ⟨0x028, 7, 0⟩
abbrev TRL_OMEGA : Nat := 0x02C
abbrev TRL_OMEGA_SUSPENDED : Fld := ⟨0x02C, 31, 31⟩
abbrev TRL_OMEGA_W_OPT : Fld := ⟨0x02C, 23, 0⟩
abbrev TRL_X0 : Nat := 0x030
abbrev TRL_HOP_TIME : Nat := 0x040
abbrev TRL_HOP_TIME_TIME : Fld := ⟨0x040, 15, 0⟩
abbrev TRL_ROUTE : Nat := 0x100
abbrev TRL_HOP_BLIND_CH : Nat := 0x400
abbrev TRL_HOP_BLIND_CH_COUNT : Fld := ⟨0x400, 15, 0⟩

abbrev SDL_CTRL : Nat := 0x020
abbrev SDL_CTRL_CAL_VIEW : Fld := ⟨0x020, 0, 0⟩
abbrev SDL_CAL_COMMIT : Nat := 0x024
abbrev SDL_CAL_REJECT : Nat := 0x028
abbrev SDL_TAC_OOR : Nat := 0x02C
abbrev SDL_LOCK_STATUS : Nat := 0x030
abbrev SDL_LOCK_STATUS_LOCKED : Fld := ⟨0x030, 31, 31⟩
abbrev SDL_LOCK_STATUS_TRIM : Fld := ⟨0x030, 25, 16⟩
abbrev SDL_LOCK_STATUS_ERR : Fld := ⟨0x030, 15, 0⟩
abbrev SDL_DEAD_CH : Nat := 0x100
abbrev SDL_DEAD_CH_COUNT : Fld := ⟨0x100, 15, 0⟩
abbrev SDL_PRESTART_CH : Nat := 0x180
abbrev SDL_PRESTART_CH_COUNT : Fld := ⟨0x180, 15, 0⟩
abbrev SDL_DROP_CH : Nat := 0x200
abbrev SDL_DROP_CH_COUNT : Fld := ⟨0x200, 15, 0⟩
abbrev SDL_ZERO_CH : Nat := 0x280
abbrev SDL_ZERO_CH_COUNT : Fld := ⟨0x280, 15, 0⟩
abbrev SDL_CAL_TAB : Nat := 0x400

abbrev SDL_START_CTRL : Nat := 0x040
abbrev SDL_START_CTRL_CAL_COMMIT : Fld := ⟨0x040, 31, 31⟩
abbrev SDL_START_CTRL_LOCK_HOLD : Fld := ⟨0x040, 30, 30⟩
abbrev SDL_START_CTRL_EN : Fld := ⟨0x040, 16, 16⟩
abbrev SDL_START_CTRL_START_NOM : Fld := ⟨0x040, 15, 0⟩
abbrev SDL_START_LAST : Nat := 0x044
abbrev SDL_START_LAST_LOST : Fld := ⟨0x044, 31, 31⟩
abbrev SDL_START_LAST_DELAY : Fld := ⟨0x044, 15, 0⟩
abbrev SDL_START_LOST_CNT : Nat := 0x04C
abbrev SDL_START_EXTRA_CNT : Nat := 0x050
abbrev SDL_START_MISS_RUN : Nat := 0x054
abbrev SDL_START_MISS_RUN_RUN_1 : Fld := ⟨0x054, 15, 8⟩
abbrev SDL_START_MISS_RUN_RUN_0 : Fld := ⟨0x054, 7, 0⟩
abbrev SDL_REF_CAL_REJECT : Nat := 0x058
abbrev SDL_REF_CAL_REJECT_REJECT : Fld := ⟨0x058, 0, 0⟩
abbrev SDL_REF_CAL_TAB : Nat := 0xC00

abbrev ORG_CTRL : Nat := 0x020
abbrev ORG_CTRL_KEEP : Fld := ⟨0x020, 6, 6⟩
abbrev ORG_CTRL_ZOOM_MODE : Fld := ⟨0x020, 5, 4⟩
abbrev ORG_CTRL_BIN_W : Fld := ⟨0x020, 3, 2⟩
abbrev ORG_CTRL_MODE : Fld := ⟨0x020, 1, 1⟩
abbrev ORG_CTRL_EN : Fld := ⟨0x020, 0, 0⟩
abbrev ORG_GATE : Nat := 0x024
abbrev ORG_GATE_BINS : Fld := ⟨0x024, 31, 16⟩
abbrev ORG_GATE_OFFSET : Fld := ⟨0x024, 13, 0⟩
abbrev ORG_GATE_STATUS : Nat := 0x028
abbrev ORG_GATE_STATUS_CLIPPED : Fld := ⟨0x028, 31, 31⟩
abbrev ORG_GATE_STATUS_B_EFF : Fld := ⟨0x028, 15, 0⟩
abbrev ORG_SWAP_CNT : Nat := 0x02C
abbrev ORG_WIN_SLOT : Nat := 0x030
abbrev ORG_WIN_STATUS : Nat := 0x034
abbrev ORG_WIN_STATUS_SCANNING : Fld := ⟨0x034, 1, 1⟩
abbrev ORG_WIN_STATUS_VALID : Fld := ⟨0x034, 0, 0⟩
abbrev ORG_WIN_BUSY : Nat := 0x038
abbrev ORG_CLEAR : Nat := 0x03C
abbrev ORG_CLEAR_CLR : Fld := ⟨0x03C, 0, 0⟩
abbrev ORG_ZTAB_BASE : Nat := 0x040
abbrev ORG_ZTAB_BASE_BASE : Fld := ⟨0x040, 22, 13⟩
abbrev ORG_TAP_CTRL : Nat := 0x044
abbrev ORG_TAP_CTRL_EVERY : Fld := ⟨0x044, 7, 0⟩
abbrev ORG_TAP_A : Nat := 0x080
abbrev ORG_TAP_A_EN : Fld := ⟨0x080, 31, 31⟩
abbrev ORG_TAP_A_SRC : Fld := ⟨0x080, 30, 30⟩
abbrev ORG_TAP_A_CH : Fld := ⟨0x080, 8, 0⟩
abbrev ORG_TAP_B : Nat := 0x084
abbrev ORG_TAP_B_FIRST : Fld := ⟨0x084, 29, 16⟩
abbrev ORG_TAP_B_LEN_M1 : Fld := ⟨0x084, 9, 0⟩
abbrev ORG_SAT : Nat := 0x100
abbrev ORG_ZSAT : Nat := 0x140

abbrev GZB_CTRL : Nat := 0x020
abbrev GZB_CTRL_ALIEN_MODE : Fld := ⟨0x020, 13, 13⟩
abbrev GZB_CTRL_WIN_EXCL : Fld := ⟨0x020, 12, 12⟩
abbrev GZB_CTRL_BLANK_COMP : Fld := ⟨0x020, 9, 9⟩
abbrev GZB_CTRL_PILEUP : Fld := ⟨0x020, 8, 8⟩
abbrev GZB_CTRL_MAX_ECHO_M1 : Fld := ⟨0x020, 5, 4⟩
abbrev GZB_CTRL_POLICY : Fld := ⟨0x020, 2, 1⟩
abbrev GZB_CTRL_EN : Fld := ⟨0x020, 0, 0⟩
abbrev GZB_AMB : Nat := 0x024
abbrev GZB_AMB_ALPHA : Fld := ⟨0x024, 15, 8⟩
abbrev GZB_AMB_TRIM : Fld := ⟨0x024, 3, 0⟩
abbrev GZB_FILT_CFG : Nat := 0x028
abbrev GZB_FILT_CFG_TAPS : Fld := ⟨0x028, 3, 0⟩
abbrev GZB_FILT_C_0 : Nat := 0x02C
abbrev GZB_FILT_C_1 : Nat := 0x030
abbrev GZB_THR : Nat := 0x038
abbrev GZB_THR_C : Fld := ⟨0x038, 15, 8⟩
abbrev GZB_THR_K : Fld := ⟨0x038, 7, 0⟩
abbrev GZB_PEAK : Nat := 0x03C
abbrev GZB_PEAK_ZMIN : Fld := ⟨0x03C, 23, 16⟩
abbrev GZB_PEAK_AREA_EXT : Fld := ⟨0x03C, 15, 12⟩
abbrev GZB_PEAK_HALF : Fld := ⟨0x03C, 10, 8⟩
abbrev GZB_PEAK_SEP : Fld := ⟨0x03C, 5, 0⟩
abbrev GZB_SUN : Nat := 0x040
abbrev GZB_SUN_SUN_CH : Fld := ⟨0x040, 31, 16⟩
abbrev GZB_SUN_SUN_RATE : Fld := ⟨0x040, 15, 0⟩
abbrev GZB_VOL : Nat := 0x044
abbrev GZB_VOL_VOL_AMP : Fld := ⟨0x044, 15, 8⟩
abbrev GZB_VOL_VOL_WIDTH : Fld := ⟨0x044, 7, 0⟩
abbrev GZB_BLOOM : Nat := 0x048
abbrev GZB_BLOOM_RATIO : Fld := ⟨0x048, 23, 16⟩
abbrev GZB_BLOOM_DT : Fld := ⟨0x048, 11, 4⟩
abbrev GZB_BLOOM_NB : Fld := ⟨0x048, 2, 0⟩
abbrev GZB_WINDOW : Nat := 0x04C
abbrev GZB_WINDOW_WIN_TOL : Fld := ⟨0x04C, 23, 16⟩
abbrev GZB_WINDOW_WIN_DIST : Fld := ⟨0x04C, 15, 0⟩
abbrev GZB_ALIEN : Nat := 0x050
abbrev GZB_ALIEN_LIFE : Fld := ⟨0x050, 15, 8⟩
abbrev GZB_ALIEN_W : Fld := ⟨0x050, 7, 0⟩
abbrev GZB_STATUS : Nat := 0x054
abbrev GZB_STATUS_MAP_ENTRIES : Fld := ⟨0x054, 27, 16⟩
abbrev GZB_STATUS_SCANNING : Fld := ⟨0x054, 0, 0⟩
abbrev GZB_CAND_OVF : Nat := 0x058
abbrev GZB_ALIEN_CNT : Nat := 0x05C
abbrev GZB_WIN_CNT : Nat := 0x060
abbrev GZB_ABANDON : Nat := 0x064
abbrev GZB_SUN_CH_LAST : Nat := 0x068
abbrev GZB_SUN_CH_LAST_COUNT : Fld := ⟨0x068, 9, 0⟩

abbrev GZB_DITHER : Nat := 0x080
abbrev GZB_DITHER_EN : Fld := ⟨0x080, 31, 31⟩
abbrev GZB_DITHER_DMAX : Fld := ⟨0x080, 7, 0⟩
abbrev GZB_DITHER_SALT : Nat := 0x084
abbrev GZB_LISTEN : Nat := 0x088
abbrev GZB_LISTEN_REPORT : Fld := ⟨0x088, 17, 17⟩
abbrev GZB_LISTEN_KEYED : Fld := ⟨0x088, 16, 16⟩
abbrev GZB_LISTEN_PHASE : Fld := ⟨0x088, 15, 8⟩
abbrev GZB_LISTEN_N : Fld := ⟨0x088, 7, 0⟩
abbrev GZB_SEQ_STATUS : Nat := 0x08C
abbrev GZB_SEQ_STATUS_KEY_OK : Fld := ⟨0x08C, 0, 0⟩

abbrev DTB_CTRL : Nat := 0x020
abbrev DTB_CTRL_RESYNC : Fld := ⟨0x020, 9, 9⟩
abbrev DTB_CTRL_LOAD : Fld := ⟨0x020, 8, 8⟩
abbrev DTB_CTRL_LOOP : Fld := ⟨0x020, 4, 4⟩
abbrev DTB_CTRL_PARK_INDEX : Fld := ⟨0x020, 3, 1⟩
abbrev DTB_CTRL_PARK_EN : Fld := ⟨0x020, 0, 0⟩
abbrev DTB_SYNC_CFG : Nat := 0x024
abbrev DTB_SYNC_CFG_PERIOD_LOG2 : Fld := ⟨0x024, 4, 0⟩
abbrev DTB_CABLE_DELAY : Nat := 0x028
abbrev DTB_CABLE_DELAY_DELAY : Fld := ⟨0x028, 15, 0⟩
abbrev DTB_STATUS : Nat := 0x02C
abbrev DTB_STATUS_MISSED : Fld := ⟨0x02C, 15, 8⟩
abbrev DTB_STATUS_LEADER : Fld := ⟨0x02C, 3, 3⟩
abbrev DTB_STATUS_TIME_SAT : Fld := ⟨0x02C, 2, 2⟩
abbrev DTB_STATUS_ACQUIRED : Fld := ⟨0x02C, 1, 1⟩
abbrev DTB_STATUS_LOCKED : Fld := ⟨0x02C, 0, 0⟩
abbrev DTB_PHASE_ERR : Nat := 0x030
abbrev DTB_PHASE_ERR_E : Fld := ⟨0x030, 15, 0⟩
abbrev DTB_LOOP_DELAY : Nat := 0x034
abbrev DTB_LOOP_DELAY_DELAY : Fld := ⟨0x034, 15, 0⟩
abbrev DTB_LOAD_LO : Nat := 0x038
abbrev DTB_LOAD_HI : Nat := 0x03C
abbrev DTB_CRC_ERR : Nat := 0x040
abbrev DTB_SYNC_LOSS_CNT : Nat := 0x044
abbrev DTB_STEP_CNT : Nat := 0x048

abbrev PRM_LANE_CTRL : Nat := 0x020
abbrev PRM_LANE_CTRL_PRBS : Fld := ⟨0x020, 7, 6⟩
abbrev PRM_LANE_CTRL_RX_INV : Fld := ⟨0x020, 5, 5⟩
abbrev PRM_LANE_CTRL_TX_INV : Fld := ⟨0x020, 4, 4⟩
abbrev PRM_LANE_CTRL_PSTATE : Fld := ⟨0x020, 1, 0⟩
abbrev PRM_LANE_CFG : Nat := 0x024
abbrev PRM_LANE_CFG_TX_SWING : Fld := ⟨0x024, 15, 12⟩
abbrev PRM_LANE_CFG_TX_DEEMPH : Fld := ⟨0x024, 10, 8⟩
abbrev PRM_LANE_CFG_LOS_THR : Fld := ⟨0x024, 5, 4⟩
abbrev PRM_LANE_CFG_CTLE : Fld := ⟨0x024, 3, 0⟩
abbrev PRM_LANE_STATUS : Nat := 0x028
abbrev PRM_LANE_STATUS_AM_LANE : Fld := ⟨0x028, 23, 16⟩
abbrev PRM_LANE_STATUS_SKEW : Fld := ⟨0x028, 13, 8⟩
abbrev PRM_LANE_STATUS_LOS : Fld := ⟨0x028, 7, 7⟩
abbrev PRM_LANE_STATUS_CDR_LOCK : Fld := ⟨0x028, 6, 6⟩
abbrev PRM_LANE_STATUS_BLOCK_LOCK : Fld := ⟨0x028, 5, 5⟩
abbrev PRM_LANE_STATUS_AM_LOCK : Fld := ⟨0x028, 4, 4⟩
abbrev PRM_LANE_STATUS_FAR_ALIGNED : Fld := ⟨0x028, 3, 3⟩
abbrev PRM_LOS_CNT : Nat := 0x02C
abbrev PRM_LOL_CNT : Nat := 0x030
abbrev PRM_HDR_ERR : Nat := 0x034
abbrev PRM_PRBS_ERR : Nat := 0x038

abbrev PRM_LINK_CTRL : Nat := 0x020
abbrev PRM_LINK_CTRL_LOOPBACK : Fld := ⟨0x020, 6, 4⟩
abbrev PRM_LINK_CTRL_PSTATE : Fld := ⟨0x020, 1, 0⟩
abbrev PRM_LINK_CFG : Nat := 0x024
abbrev PRM_LINK_CFG_TAP_RESERVE : Fld := ⟨0x024, 31, 24⟩
abbrev PRM_LINK_CFG_XOFF_WARN : Fld := ⟨0x024, 15, 0⟩
abbrev PRM_LINK_STATUS : Nat := 0x028
abbrev PRM_LINK_STATUS_SKEW_MAX : Fld := ⟨0x028, 13, 8⟩
abbrev PRM_LINK_STATUS_XOFF : Fld := ⟨0x028, 4, 4⟩
abbrev PRM_LINK_STATUS_STATE : Fld := ⟨0x028, 2, 0⟩
abbrev PRM_EGRESS : Nat := 0x02C
abbrev PRM_EGRESS_PEAK : Fld := ⟨0x02C, 29, 16⟩
abbrev PRM_EGRESS_LEVEL : Fld := ⟨0x02C, 13, 0⟩
abbrev PRM_SEQ_NEXT : Nat := 0x030
abbrev PRM_SEQ_NEXT_SEQ : Fld := ⟨0x030, 15, 0⟩
abbrev PRM_PKT_SENT : Nat := 0x040
abbrev PRM_DISCARD_PKT : Nat := 0x044
abbrev PRM_TAP_DROP : Nat := 0x048
abbrev PRM_ABORT_CNT : Nat := 0x04C
abbrev PRM_ALIGN_LOSS_CNT : Nat := 0x050
abbrev PRM_XOFF_CNT : Nat := 0x054

abbrev BND_CTRL : Nat := 0x020
abbrev BND_CTRL_SWAP_MODE : Fld := ⟨0x020, 5, 4⟩
abbrev BND_CTRL_SRC : Fld := ⟨0x020, 3, 3⟩
abbrev BND_CTRL_TRIG_MODE : Fld := ⟨0x020, 2, 1⟩
abbrev BND_CTRL_EN : Fld := ⟨0x020, 0, 0⟩
abbrev BND_BUF : Nat := 0x024
abbrev BND_BUF_N_ACTIVE : Fld := ⟨0x024, 27, 16⟩
abbrev BND_BUF_LOAD : Fld := ⟨0x024, 8, 8⟩
abbrev BND_BUF_INACTIVE_VALID : Fld := ⟨0x024, 5, 5⟩
abbrev BND_BUF_LOAD_ERR : Fld := ⟨0x024, 4, 4⟩
abbrev BND_BUF_LOADING : Fld := ⟨0x024, 3, 3⟩
abbrev BND_BUF_READY : Fld := ⟨0x024, 2, 2⟩
abbrev BND_BUF_ACTIVE_VALID : Fld := ⟨0x024, 1, 1⟩
abbrev BND_BUF_ACTIVE : Fld := ⟨0x024, 0, 0⟩
abbrev BND_LOAD_SRC : Nat := 0x028
abbrev BND_LOAD_SRC_BASE : Fld := ⟨0x028, 22, 12⟩
abbrev BND_LOAD_CRC : Nat := 0x02C
abbrev BND_TIMED_PERIOD : Nat := 0x030
abbrev BND_TIMED_PERIOD_PERIOD : Fld := ⟨0x030, 15, 0⟩
abbrev BND_SYNC_LATENCY : Nat := 0x034
abbrev BND_SYNC_LATENCY_LAT : Fld := ⟨0x034, 15, 0⟩
abbrev BND_BANK_BLANK : Nat := 0x038
abbrev BND_BANK_BLANK_BLANK : Fld := ⟨0x038, 9, 0⟩
abbrev BND_SLOT_NUM : Nat := 0x040
abbrev BND_FRAME : Nat := 0x044
abbrev BND_FRAME_SLOT_IN_FRAME : Fld := ⟨0x044, 27, 16⟩
abbrev BND_FRAME_FRAME_NUM : Fld := ⟨0x044, 15, 0⟩
abbrev BND_LINE : Nat := 0x048
abbrev BND_LINE_REV : Fld := ⟨0x048, 31, 31⟩
abbrev BND_LINE_IN_FRAME : Fld := ⟨0x048, 30, 30⟩
abbrev BND_LINE_LINE : Fld := ⟨0x048, 11, 0⟩
abbrev BND_SLOT_SKIP : Nat := 0x050
abbrev BND_SWAP_MISS : Nat := 0x054
abbrev BND_GRID_ERR : Nat := 0x058

abbrev BND_GSCALE : Nat := 0x020
abbrev BND_GSCALE_GSCALE : Fld := ⟨0x020, 7, 0⟩
abbrev BND_FIRE_TRIM : Nat := 0x024
abbrev BND_SEG_MASK_LO : Nat := 0x030
abbrev BND_SEG_MASK_HI : Nat := 0x034
abbrev BND_SEG_FAULT_LO : Nat := 0x038
abbrev BND_SEG_FAULT_HI : Nat := 0x03C
abbrev BND_DIAG_CFG : Nat := 0x040
abbrev BND_DIAG_CFG_AUTO_MASK : Fld := ⟨0x040, 24, 24⟩
abbrev BND_DIAG_CFG_FAULT_N : Fld := ⟨0x040, 23, 20⟩
abbrev BND_DIAG_CFG_SAMPLE : Fld := ⟨0x040, 19, 16⟩
abbrev BND_DIAG_CFG_HI : Fld := ⟨0x040, 15, 8⟩
abbrev BND_DIAG_CFG_LO : Fld := ⟨0x040, 7, 0⟩
abbrev BND_ISNS_SCALE : Nat := 0x044
abbrev BND_ISNS_SCALE_SCALE : Fld := ⟨0x044, 15, 0⟩
abbrev BND_VF_THR : Nat := 0x048
abbrev BND_VF_THR_VF_OPEN : Fld := ⟨0x048, 27, 16⟩
abbrev BND_VF_THR_VF_SHORT : Fld := ⟨0x048, 11, 0⟩
abbrev BND_PROBE : Nat := 0x04C
abbrev BND_PROBE_EN : Fld := ⟨0x04C, 31, 31⟩
abbrev BND_PROBE_PERIOD : Fld := ⟨0x04C, 25, 16⟩
abbrev BND_PROBE_AMP : Fld := ⟨0x04C, 7, 0⟩
abbrev BND_THERM_MAP : Nat := 0x050
abbrev BND_THERM_MAP_NONE : Fld := ⟨0x050, 31, 24⟩
abbrev BND_THERM_LIM : Nat := 0x054
abbrev BND_THERM_LIM_T_MAX : Fld := ⟨0x054, 31, 16⟩
abbrev BND_THERM_LIM_T_DERATE : Fld := ⟨0x054, 15, 0⟩
abbrev BND_DERATE : Nat := 0x058
abbrev BND_DERATE_HYST : Fld := ⟨0x058, 23, 16⟩
abbrev BND_DERATE_DERATE_MIN : Fld := ⟨0x058, 15, 8⟩
abbrev BND_DERATE_SLOPE : Fld := ⟨0x058, 7, 0⟩
abbrev BND_DERATE_STATUS : Nat := 0x05C
abbrev BND_DERATE_STATUS_F_MIN : Fld := ⟨0x05C, 15, 8⟩
abbrev BND_DERATE_STATUS_OFF : Fld := ⟨0x05C, 7, 0⟩
abbrev BND_WITHHELD : Nat := 0x060
abbrev BND_PROBE_CNT : Nat := 0x064
abbrev BND_PROBE_CANCEL : Nat := 0x068
abbrev BND_SEG_STATE : Nat := 0x080

abbrev GTH_CFG : Nat := 0x020
abbrev GTH_CFG_DUMP_ON_EN : Fld := ⟨0x020, 8, 8⟩
abbrev GTH_CFG_VSNS : Fld := ⟨0x020, 5, 4⟩
abbrev GTH_CFG_SRC : Fld := ⟨0x020, 0, 0⟩
abbrev GTH_STATUS : Nat := 0x024
abbrev GTH_STATUS_USER_TABLES : Fld := ⟨0x024, 16, 16⟩
abbrev GTH_STATUS_TEMP_OUT : Fld := ⟨0x024, 11, 11⟩
abbrev GTH_STATUS_DUMP : Fld := ⟨0x024, 10, 10⟩
abbrev GTH_STATUS_FIRE_EN : Fld := ⟨0x024, 9, 9⟩
abbrev GTH_STATUS_EMIT_EN : Fld := ⟨0x024, 8, 8⟩
abbrev GTH_STATUS_STALE : Fld := ⟨0x024, 4, 4⟩
abbrev GTH_STATUS_HOLD : Fld := ⟨0x024, 3, 3⟩
abbrev GTH_STATUS_FB_LOST : Fld := ⟨0x024, 2, 2⟩
abbrev GTH_STATUS_SLOW : Fld := ⟨0x024, 1, 1⟩
abbrev GTH_STATUS_STATIC : Fld := ⟨0x024, 0, 0⟩
abbrev GTH_OMEGA_MIN : Nat := 0x028
abbrev GTH_OMEGA_MIN_OMEGA_MIN : Fld := ⟨0x028, 23, 0⟩
abbrev GTH_STATIC_HOLD : Nat := 0x02C
abbrev GTH_STATIC_HOLD_HOLD : Fld := ⟨0x02C, 9, 0⟩
abbrev GTH_VLIM : Nat := 0x030
abbrev GTH_VLIM_VHYST : Fld := ⟨0x030, 31, 16⟩
abbrev GTH_VLIM_VLIM : Fld := ⟨0x030, 15, 0⟩
abbrev GTH_PRED : Nat := 0x034
abbrev GTH_PRED_MARGIN : Fld := ⟨0x034, 15, 8⟩
abbrev GTH_PRED_TAIL : Fld := ⟨0x034, 7, 0⟩
abbrev GTH_BUD_SCAN_SEG : Nat := 0x040
abbrev GTH_BUD_SCAN_GRP : Nat := 0x054
abbrev GTH_BUD_STAT_SEG : Nat := 0x068
abbrev GTH_BUD_STAT_GRP : Nat := 0x07C
abbrev GTH_INHIBIT_CNT : Nat := 0x090
abbrev GTH_RELAX_REJECT : Nat := 0x094
abbrev GTH_MISSING_CNT : Nat := 0x098
abbrev GTH_DUMP_CNT : Nat := 0x09C
abbrev GTH_LATE_CNT : Nat := 0x0A0
abbrev GTH_PLAN_MISMATCH : Nat := 0x0A4
abbrev GTH_STATIC_CNT : Nat := 0x0A8
abbrev GTH_WIN_HIT : Nat := 0x0B0
abbrev GTH_INHIBIT_LAST : Nat := 0x0C4
abbrev GTH_INHIBIT_LAST_CAUSE : Fld := ⟨0x0C4, 31, 29⟩
abbrev GTH_INHIBIT_LAST_WINDOW : Fld := ⟨0x0C4, 18, 16⟩
abbrev GTH_INHIBIT_LAST_SEG : Fld := ⟨0x0C4, 5, 0⟩
abbrev GTH_EFF : Nat := 0x100
abbrev GTH_EFF_SE : Fld := ⟨0x100, 31, 16⟩
abbrev GTH_EFF_ITH : Fld := ⟨0x100, 15, 0⟩

abbrev FTN_CTRL : Nat := 0x020
abbrev FTN_CTRL_PWM_POL : Fld := ⟨0x020, 6, 6⟩
abbrev FTN_CTRL_OUT_SEL : Fld := ⟨0x020, 5, 4⟩
abbrev FTN_CTRL_CLOSE : Fld := ⟨0x020, 1, 1⟩
abbrev FTN_CTRL_EN : Fld := ⟨0x020, 0, 0⟩
abbrev FTN_STATE : Nat := 0x024
abbrev FTN_STATE_CLOSE_REJ : Fld := ⟨0x024, 8, 8⟩
abbrev FTN_STATE_I_CLAMPED : Fld := ⟨0x024, 7, 7⟩
abbrev FTN_STATE_RAMPING : Fld := ⟨0x024, 6, 6⟩
abbrev FTN_STATE_SP_CLAMPED : Fld := ⟨0x024, 5, 5⟩
abbrev FTN_STATE_FB_LOST : Fld := ⟨0x024, 4, 4⟩
abbrev FTN_STATE_STATE : Fld := ⟨0x024, 1, 0⟩
abbrev FTN_SRC : Nat := 0x028
abbrev FTN_SRC_ANG_SEP : Fld := ⟨0x028, 15, 15⟩
abbrev FTN_SRC_ANG_SAR : Fld := ⟨0x028, 14, 13⟩
abbrev FTN_SRC_ANG_IN : Fld := ⟨0x028, 12, 8⟩
abbrev FTN_SRC_FB_TS : Fld := ⟨0x028, 7, 7⟩
abbrev FTN_SRC_FB_SAR : Fld := ⟨0x028, 6, 5⟩
abbrev FTN_SRC_FB_IN : Fld := ⟨0x028, 4, 0⟩
abbrev FTN_PERIOD : Nat := 0x02C
abbrev FTN_PERIOD_PERIOD : Fld := ⟨0x02C, 13, 0⟩
abbrev FTN_GAIN_PI : Nat := 0x030
abbrev FTN_GAIN_PI_KI : Fld := ⟨0x030, 31, 16⟩
abbrev FTN_GAIN_PI_KP : Fld := ⟨0x030, 15, 0⟩
abbrev FTN_GAIN_D : Nat := 0x034
abbrev FTN_GAIN_D_DALPHA : Fld := ⟨0x034, 31, 16⟩
abbrev FTN_GAIN_D_KD : Fld := ⟨0x034, 15, 0⟩
abbrev FTN_SHAPE : Nat := 0x038
abbrev FTN_SHAPE_ICLAMP : Fld := ⟨0x038, 31, 16⟩
abbrev FTN_SHAPE_SH : Fld := ⟨0x038, 2, 0⟩
abbrev FTN_OUT_LIM : Nat := 0x03C
abbrev FTN_OUT_LIM_OUT_MAX : Fld := ⟨0x03C, 31, 16⟩
abbrev FTN_OUT_LIM_OUT_MIN : Fld := ⟨0x03C, 15, 0⟩
abbrev FTN_OUT_SAFE : Nat := 0x040
abbrev FTN_OUT_SAFE_VALUE : Fld := ⟨0x040, 15, 0⟩
abbrev FTN_OUT_MAN : Nat := 0x044
abbrev FTN_OUT_MAN_VALUE : Fld := ⟨0x044, 15, 0⟩
abbrev FTN_SP : Nat := 0x048
abbrev FTN_SP_TARGET : Fld := ⟨0x048, 15, 0⟩
abbrev FTN_SP_LIM : Nat := 0x04C
abbrev FTN_SP_LIM_SP_MAX : Fld := ⟨0x04C, 31, 16⟩
abbrev FTN_SP_LIM_SP_MIN : Fld := ⟨0x04C, 15, 0⟩
abbrev FTN_RAMP : Nat := 0x050
abbrev FTN_RAMP_RAMP_DN : Fld := ⟨0x050, 31, 16⟩
abbrev FTN_RAMP_RAMP_UP : Fld := ⟨0x050, 15, 0⟩
abbrev FTN_RANGE : Nat := 0x054
abbrev FTN_RANGE_RNG_HI : Fld := ⟨0x054, 31, 16⟩
abbrev FTN_RANGE_RNG_LO : Fld := ⟨0x054, 15, 0⟩
abbrev FTN_DETECT : Nat := 0x058
abbrev FTN_DETECT_RNG_M : Fld := ⟨0x058, 31, 28⟩
abbrev FTN_DETECT_MISS_MAX : Fld := ⟨0x058, 27, 24⟩
abbrev FTN_DETECT_FRZ_N : Fld := ⟨0x058, 23, 16⟩
abbrev FTN_DETECT_FRZ_M : Fld := ⟨0x058, 15, 0⟩
abbrev FTN_PWM_PERIOD : Nat := 0x05C
abbrev FTN_PWM_PERIOD_PERIOD : Fld := ⟨0x05C, 15, 0⟩
abbrev FTN_MEAS : Nat := 0x070
abbrev FTN_MEAS_CODE : Fld := ⟨0x070, 31, 16⟩
abbrev FTN_MEAS_Y : Fld := ⟨0x070, 15, 0⟩
abbrev FTN_SP_RAMP : Nat := 0x074
abbrev FTN_SP_RAMP_SP_R : Fld := ⟨0x074, 23, 0⟩
abbrev FTN_OUT : Nat := 0x078
abbrev FTN_OUT_U : Fld := ⟨0x078, 15, 0⟩
abbrev FTN_LOSS_CAUSE : Nat := 0x084
abbrev FTN_LOSS_CAUSE_DEVICE : Fld := ⟨0x084, 4, 4⟩
abbrev FTN_LOSS_CAUSE_MISSING : Fld := ⟨0x084, 3, 3⟩
abbrev FTN_LOSS_CAUSE_RANGE : Fld := ⟨0x084, 2, 2⟩
abbrev FTN_LOSS_CAUSE_FROZEN : Fld := ⟨0x084, 1, 1⟩
abbrev FTN_LOSS_CAUSE_SENSOR : Fld := ⟨0x084, 0, 0⟩
abbrev FTN_COEF_IGNORED : Nat := 0x088
abbrev FTN_MISS_CNT : Nat := 0x08C
abbrev FTN_HOLD_CNT : Nat := 0x090

abbrev FTN_ANG_ZERO : Nat := 0x060
abbrev FTN_ANG_ZERO_ZERO : Fld := ⟨0x060, 15, 0⟩
abbrev FTN_ANG_SCALE : Nat := 0x064
abbrev FTN_ANG_SCALE_SCALE : Fld := ⟨0x064, 23, 0⟩
abbrev FTN_OMEGA_CFG : Nat := 0x068
abbrev FTN_OMEGA_CFG_OMEGA_ALPHA : Fld := ⟨0x068, 15, 0⟩
abbrev FTN_ANGLE : Nat := 0x07C
abbrev FTN_OMEGA : Nat := 0x080
abbrev FTN_OMEGA_OMEGA : Fld := ⟨0x080, 23, 0⟩

abbrev PMP_CTRL : Nat := 0x020
abbrev PMP_CTRL_GTH_PHASE : Fld := ⟨0x020, 11, 8⟩
abbrev PMP_CTRL_MARK_SETTLE : Fld := ⟨0x020, 2, 2⟩
abbrev PMP_CTRL_WIRE_EN : Fld := ⟨0x020, 1, 1⟩
abbrev PMP_CTRL_EN : Fld := ⟨0x020, 0, 0⟩
abbrev PMP_STATUS : Nat := 0x024
abbrev PMP_STATUS_BUSY : Fld := ⟨0x024, 5, 0⟩
abbrev PMP_CLAMP : Nat := 0x028
abbrev PMP_CLAMP_IN : Fld := ⟨0x028, 27, 0⟩
abbrev PMP_OVR : Nat := 0x02C
abbrev PMP_OVR_IN : Fld := ⟨0x02C, 27, 0⟩
abbrev PMP_WIRE_FAULT : Nat := 0x030
abbrev PMP_WIRE_FAULT_IN : Fld := ⟨0x030, 27, 0⟩
abbrev PMP_DMA_MAP : Nat := 0x034
abbrev PMP_URGENT_DROP : Nat := 0x040
abbrev PMP_RESULT_DROP : Nat := 0x044
abbrev PMP_SETTLE_CNT : Nat := 0x048
abbrev PMP_TSTALE_CNT : Nat := 0x04C

abbrev PMP_SD_CTRL : Nat := 0x020
abbrev PMP_SD_CTRL_POS : Fld := ⟨0x020, 11, 8⟩
abbrev PMP_SD_CTRL_DISCH : Fld := ⟨0x020, 7, 4⟩
abbrev PMP_SD_CTRL_EN : Fld := ⟨0x020, 0, 0⟩
abbrev PMP_SD_NOTCH : Nat := 0x028
abbrev PMP_SD_NOTCH_NOTCH_T : Fld := ⟨0x028, 16, 0⟩
abbrev PMP_SD_LIST : Nat := 0x100
abbrev PMP_SD_LIST_END : Fld := ⟨0x100, 31, 31⟩
abbrev PMP_SD_LIST_CSC_EN : Fld := ⟨0x100, 24, 24⟩
abbrev PMP_SD_LIST_CSC_CH : Fld := ⟨0x100, 23, 20⟩
abbrev PMP_SD_LIST_LIN_EN : Fld := ⟨0x100, 19, 19⟩
abbrev PMP_SD_LIST_LIN : Fld := ⟨0x100, 18, 16⟩
abbrev PMP_SD_LIST_NRES : Fld := ⟨0x100, 15, 12⟩
abbrev PMP_SD_LIST_NOTCH : Fld := ⟨0x100, 11, 10⟩
abbrev PMP_SD_LIST_DEC : Fld := ⟨0x100, 9, 7⟩
abbrev PMP_SD_LIST_ORDER : Fld := ⟨0x100, 6, 5⟩
abbrev PMP_SD_LIST_IN : Fld := ⟨0x100, 4, 0⟩

abbrev PMP_SAR_CFG : Nat := 0x020
abbrev PMP_SAR_CFG_LIN : Fld := ⟨0x020, 16, 14⟩
abbrev PMP_SAR_CFG_LIN_EN : Fld := ⟨0x020, 13, 13⟩
abbrev PMP_SAR_CFG_GTH_IN : Fld := ⟨0x020, 12, 8⟩
abbrev PMP_SAR_CFG_LOG : Fld := ⟨0x020, 7, 7⟩
abbrev PMP_SAR_CFG_SHIFT : Fld := ⟨0x020, 6, 3⟩
abbrev PMP_SAR_CFG_AVG : Fld := ⟨0x020, 2, 0⟩
abbrev PMP_SAR_ROUTINE : Nat := 0x030
abbrev PMP_SAR_ROUTINE_PERIOD : Fld := ⟨0x030, 31, 16⟩
abbrev PMP_SAR_ROUTINE_IN : Fld := ⟨0x030, 4, 0⟩
abbrev PMP_EXC : Nat := 0x040
abbrev PMP_EXC_SETTLE : Fld := ⟨0x040, 31, 24⟩
abbrev PMP_EXC_CHOP_N : Fld := ⟨0x040, 23, 16⟩
abbrev PMP_EXC_LEVEL : Fld := ⟨0x040, 15, 8⟩
abbrev PMP_EXC_CHOP : Fld := ⟨0x040, 3, 3⟩
abbrev PMP_EXC_RATIO : Fld := ⟨0x040, 2, 2⟩
abbrev PMP_EXC_MODE : Fld := ⟨0x040, 1, 0⟩
abbrev PMP_EXC_STATUS : Nat := 0x050
abbrev PMP_EXC_STATUS_SETTLING : Fld := ⟨0x050, 7, 4⟩
abbrev PMP_EXC_STATUS_NEG : Fld := ⟨0x050, 3, 0⟩

abbrev PMP_IN_CFG : Nat := 0x020
abbrev PMP_IN_CFG_GAIN : Fld := ⟨0x020, 5, 3⟩
abbrev PMP_IN_CFG_WIRE_EN : Fld := ⟨0x020, 2, 2⟩
abbrev PMP_IN_CFG_PULL : Fld := ⟨0x020, 1, 0⟩
abbrev PMP_WIRE_LIM : Nat := 0x090
abbrev PMP_WIRE_LIM_HI : Fld := ⟨0x090, 31, 16⟩
abbrev PMP_WIRE_LIM_LO : Fld := ⟨0x090, 15, 0⟩
abbrev PMP_WIRE_Z : Nat := 0x100
abbrev PMP_WIRE_Z_VALID : Fld := ⟨0x100, 31, 31⟩
abbrev PMP_WIRE_Z_RANGE : Fld := ⟨0x100, 24, 24⟩
abbrev PMP_WIRE_Z_Z : Fld := ⟨0x100, 23, 0⟩
abbrev PMP_LIN_C_00 : Nat := 0x200
abbrev PMP_LIN_C_01 : Nat := 0x204
abbrev PMP_LIN_C_02 : Nat := 0x208
abbrev PMP_LIN_C_10 : Nat := 0x20C
abbrev PMP_LIN_C_11 : Nat := 0x210
abbrev PMP_LIN_C_12 : Nat := 0x214
abbrev PMP_LIN_C_20 : Nat := 0x218
abbrev PMP_LIN_C_21 : Nat := 0x21C
abbrev PMP_LIN_C_22 : Nat := 0x220
abbrev PMP_LIN_C_30 : Nat := 0x224
abbrev PMP_LIN_C_31 : Nat := 0x228
abbrev PMP_LIN_C_32 : Nat := 0x22C
abbrev PMP_LIN_CFG : Nat := 0x230
abbrev PMP_LIN_CFG_TS : Fld := ⟨0x230, 2, 0⟩

abbrev CSC_CTRL : Nat := 0x020
abbrev CSC_CTRL_EN : Fld := ⟨0x020, 0, 0⟩
abbrev CSC_OVR : Nat := 0x028
abbrev CSC_OVR_CH : Fld := ⟨0x028, 15, 0⟩
abbrev CSC_DROP : Nat := 0x02C
abbrev CSC_DROP_CH : Fld := ⟨0x02C, 15, 0⟩
abbrev CSC_ENV_HI : Nat := 0x030
abbrev CSC_ENV_HI_CH : Fld := ⟨0x030, 15, 0⟩
abbrev CSC_SRC_CONFLICT : Nat := 0x034
abbrev CSC_CH_CFG : Nat := 0x100
abbrev CSC_CH_CFG_DMA : Fld := ⟨0x100, 28, 24⟩
abbrev CSC_CH_CFG_SET_LAST : Fld := ⟨0x100, 9, 8⟩
abbrev CSC_CH_CFG_SET_EARLY : Fld := ⟨0x100, 5, 4⟩
abbrev CSC_CH_CFG_NSTG : Fld := ⟨0x100, 3, 1⟩
abbrev CSC_CH_CFG_EN : Fld := ⟨0x100, 0, 0⟩
abbrev CSC_DET_CFG : Nat := 0x104
abbrev CSC_DET_CFG_REL_K : Fld := ⟨0x104, 27, 24⟩
abbrev CSC_DET_CFG_ATT_K : Fld := ⟨0x104, 19, 16⟩
abbrev CSC_DET_CFG_RMS_K : Fld := ⟨0x104, 11, 8⟩
abbrev CSC_DET_CFG_PK_WIN : Fld := ⟨0x104, 3, 0⟩
abbrev CSC_ENV_THR : Nat := 0x108
abbrev CSC_ENV_THR_THR : Fld := ⟨0x108, 23, 0⟩
abbrev CSC_CH_STATUS : Nat := 0x10C
abbrev CSC_CH_STATUS_SRC : Fld := ⟨0x10C, 25, 24⟩
abbrev CSC_CH_STATUS_PRIMED : Fld := ⟨0x10C, 16, 16⟩
abbrev CSC_CH_STATUS_IN : Fld := ⟨0x10C, 4, 0⟩
abbrev CSC_PEAK_MAX : Nat := 0x110
abbrev CSC_PEAK_MAX_VALUE : Fld := ⟨0x110, 23, 0⟩
abbrev CSC_PEAK_MIN : Nat := 0x114
abbrev CSC_PEAK_MIN_VALUE : Fld := ⟨0x114, 23, 0⟩
abbrev CSC_RMS : Nat := 0x118
abbrev CSC_RMS_VALUE : Fld := ⟨0x118, 23, 0⟩
abbrev CSC_ENV : Nat := 0x11C
abbrev CSC_ENV_VALUE : Fld := ⟨0x11C, 23, 0⟩

abbrev BLV_CTRL : Nat := 0x020
abbrev BLV_CTRL_EVT_SEL : Fld := ⟨0x020, 24, 16⟩
abbrev BLV_CTRL_TRIG_EN : Fld := ⟨0x020, 15, 12⟩
abbrev BLV_CTRL_TRIG_EVT : Fld := ⟨0x020, 11, 11⟩
abbrev BLV_CTRL_DEST : Fld := ⟨0x020, 7, 6⟩
abbrev BLV_CTRL_STOP_ON_FAIL : Fld := ⟨0x020, 5, 5⟩
abbrev BLV_CTRL_MASK_EN : Fld := ⟨0x020, 4, 4⟩
abbrev BLV_CTRL_AUTO : Fld := ⟨0x020, 3, 3⟩
abbrev BLV_CTRL_FORCE : Fld := ⟨0x020, 2, 2⟩
abbrev BLV_CTRL_ABORT : Fld := ⟨0x020, 1, 1⟩
abbrev BLV_CTRL_ARM : Fld := ⟨0x020, 0, 0⟩
abbrev BLV_STATUS : Nat := 0x024
abbrev BLV_STATUS_DUMP_ERR : Fld := ⟨0x024, 5, 5⟩
abbrev BLV_STATUS_LAST_FAIL : Fld := ⟨0x024, 4, 4⟩
abbrev BLV_STATUS_STATE : Fld := ⟨0x024, 2, 0⟩
abbrev BLV_CAPTURE_NUM : Nat := 0x028
abbrev BLV_MISSED_CNT : Nat := 0x038
abbrev BLV_TRIG_CNT : Nat := 0x03C
abbrev BLV_DUMP_BASE : Nat := 0x02C
abbrev BLV_DUMP_BASE_BASE : Fld := ⟨0x02C, 22, 12⟩
abbrev BLV_RD_ADDR : Nat := 0x030
abbrev BLV_RD_ADDR_ADDR : Fld := ⟨0x030, 19, 2⟩
abbrev BLV_RD_DATA : Nat := 0x034

abbrev BLV_TRACE : Nat := 0x020
abbrev BLV_TRACE_EN : Fld := ⟨0x020, 31, 31⟩
abbrev BLV_TRACE_MODE : Fld := ⟨0x020, 24, 24⟩
abbrev BLV_TRACE_MMK : Fld := ⟨0x020, 23, 20⟩
abbrev BLV_TRACE_SOURCE : Fld := ⟨0x020, 7, 0⟩
abbrev BLV_POST : Nat := 0x024
abbrev BLV_POST_POST : Fld := ⟨0x024, 16, 0⟩
abbrev BLV_TU_CFG : Nat := 0x080
abbrev BLV_TU_CFG_TYPE : Fld := ⟨0x080, 17, 16⟩
abbrev BLV_TU_CFG_COND : Fld := ⟨0x080, 9, 9⟩
abbrev BLV_TU_CFG_POL : Fld := ⟨0x080, 8, 8⟩
abbrev BLV_TU_CFG_SRC : Fld := ⟨0x080, 7, 0⟩
abbrev BLV_TU_L1 : Nat := 0x084
abbrev BLV_TU_L2 : Nat := 0x088
abbrev BLV_TU_HYST : Nat := 0x08C
abbrev BLV_TU_T1 : Nat := 0x090
abbrev BLV_TU_T2 : Nat := 0x094

abbrev BLV_MASK_CFG : Nat := 0x100
abbrev BLV_MASK_T0 : Nat := 0x104
abbrev BLV_MASK_T1 : Nat := 0x108
abbrev BLV_MASK_LO : Nat := 0x10C
abbrev BLV_MASK_HI : Nat := 0x110

abbrev BLV_MASK_PASS : Nat := 0x020
abbrev BLV_MASK_FAIL : Nat := 0x024
abbrev BLV_SEG_FAIL : Nat := 0x040
abbrev BLV_FAIL_SEG : Nat := 0x028
abbrev BLV_FAIL_SEG_SEG : Fld := ⟨0x028, 15, 0⟩

abbrev PGL_CTRL : Nat := 0x020
abbrev PGL_CTRL_SATST : Fld := ⟨0x020, 4, 4⟩
abbrev PGL_CTRL_MODE : Fld := ⟨0x020, 3, 2⟩
abbrev PGL_CTRL_RUN : Fld := ⟨0x020, 0, 0⟩
abbrev PGL_ENTRY : Nat := 0x024
abbrev PGL_ENTRY_ENTRY : Fld := ⟨0x024, 15, 0⟩
abbrev PGL_STATUS : Nat := 0x028
abbrev PGL_STATUS_IPH : Fld := ⟨0x028, 17, 16⟩
abbrev PGL_STATUS_ZSTALE : Fld := ⟨0x028, 10, 10⟩
abbrev PGL_STATUS_OVF1 : Fld := ⟨0x028, 9, 9⟩
abbrev PGL_STATUS_OVF0 : Fld := ⟨0x028, 8, 8⟩
abbrev PGL_STATUS_STATE : Fld := ⟨0x028, 2, 0⟩
abbrev PGL_PC : Nat := 0x02C
abbrev PGL_PC_PC : Fld := ⟨0x02C, 15, 0⟩
abbrev PGL_TRAP : Nat := 0x030
abbrev PGL_TRAP_VALID : Fld := ⟨0x030, 31, 31⟩
abbrev PGL_TRAP_CAUSE : Fld := ⟨0x030, 23, 16⟩
abbrev PGL_TRAP_PC : Fld := ⟨0x030, 15, 0⟩
abbrev PGL_QUEUE : Nat := 0x034
abbrev PGL_QUEUE_OUT_LEVEL : Fld := ⟨0x034, 26, 16⟩
abbrev PGL_QUEUE_IN_LEVEL : Fld := ⟨0x034, 6, 0⟩
abbrev PGL_SLOT_INSTR_LAST : Nat := 0x038
abbrev PGL_SLOT_INSTR_LAST_COUNT : Fld := ⟨0x038, 23, 0⟩
abbrev PGL_SLOT_INSTR_MAX : Nat := 0x03C
abbrev PGL_SLOT_INSTR_MAX_COUNT : Fld := ⟨0x03C, 23, 0⟩
abbrev PGL_INSTR_CNT : Nat := 0x040
abbrev PGL_DISCARD : Nat := 0x044
abbrev PGL_HOLD_CNT : Nat := 0x048
abbrev PGL_SEND_CNT : Nat := 0x04C
abbrev PGL_ECC_CORR : Nat := 0x050

abbrev PGL_BED_MAP_0 : Nat := 0x080
abbrev PGL_BED_MAP_1 : Nat := 0x084
abbrev PGL_LOAD_SRC : Nat := 0x088
abbrev PGL_LOAD_SRC_BASE : Fld := ⟨0x088, 22, 12⟩
abbrev PGL_LOAD_CTRL : Nat := 0x08C
abbrev PGL_LOAD_CTRL_LOAD : Fld := ⟨0x08C, 0, 0⟩
abbrev PGL_LOAD_STATUS : Nat := 0x090
abbrev PGL_LOAD_STATUS_ERR : Fld := ⟨0x090, 7, 4⟩
abbrev PGL_LOAD_STATUS_SAFETY_VALID : Fld := ⟨0x090, 2, 2⟩
abbrev PGL_LOAD_STATUS_CODE_VALID : Fld := ⟨0x090, 1, 1⟩
abbrev PGL_LOAD_STATUS_BUSY : Fld := ⟨0x090, 0, 0⟩
abbrev PGL_CODE_VERSION : Nat := 0x094
abbrev PGL_UNMAPPED : Nat := 0x098
abbrev PGL_CODE_WR_IGN : Nat := 0x09C
abbrev PGL_RESERVE : Nat := 0x0A0
abbrev PGL_RESERVE_SAFETY : Fld := ⟨0x0A0, 0, 0⟩

abbrev DMA_CTRL : Nat := 0x020
abbrev DMA_CTRL_TRIG_SEL : Fld := ⟨0x020, 17, 9⟩
abbrev DMA_CTRL_EN : Fld := ⟨0x020, 0, 0⟩
abbrev DMA_HEAD : Nat := 0x024
abbrev DMA_HEAD_ADDR : Fld := ⟨0x024, 22, 5⟩
abbrev DMA_STATUS : Nat := 0x028
abbrev DMA_STATUS_TRIG_PENDING : Fld := ⟨0x028, 16, 16⟩
abbrev DMA_STATUS_CAUSE : Fld := ⟨0x028, 10, 8⟩
abbrev DMA_STATUS_STATE : Fld := ⟨0x028, 2, 0⟩
abbrev DMA_CUR_DESC : Nat := 0x02C
abbrev DMA_FAIL_ADDR : Nat := 0x034
abbrev DMA_COUNT_REM : Nat := 0x030
abbrev DMA_COUNT_REM_COUNT : Fld := ⟨0x030, 23, 0⟩
abbrev DMA_RING_BASE : Nat := 0x038
abbrev DMA_RING_BASE_BASE : Fld := ⟨0x038, 22, 5⟩
abbrev DMA_RING_CFG : Nat := 0x03C
abbrev DMA_RING_CFG_LEN_32 : Fld := ⟨0x03C, 23, 5⟩
abbrev DMA_RING_CFG_OVW : Fld := ⟨0x03C, 0, 0⟩
abbrev DMA_WR_PTR : Nat := 0x040
abbrev DMA_WR_PTR_PTR : Fld := ⟨0x040, 22, 0⟩
abbrev DMA_RD_PTR : Nat := 0x044
abbrev DMA_RD_PTR_PTR : Fld := ⟨0x044, 22, 0⟩
abbrev DMA_RETRY_CNT : Nat := 0x048
abbrev DMA_DISCARD : Nat := 0x04C
abbrev DMA_RING_OVW : Nat := 0x050
abbrev DMA_RING_RESET : Nat := 0x054
abbrev DMA_PTR_REJECT : Nat := 0x058

abbrev DMA_COMMON_CTRL : Nat := 0x020
abbrev DMA_COMMON_CTRL_EN : Fld := ⟨0x020, 0, 0⟩
abbrev DMA_HALTED : Nat := 0x024
abbrev DMA_HALTED_CH : Fld := ⟨0x024, 23, 0⟩
abbrev DMA_ACTIVE : Nat := 0x028
abbrev DMA_ACTIVE_CH : Fld := ⟨0x028, 23, 0⟩

abbrev LDG_CTRL : Nat := 0x020
abbrev LDG_CTRL_FIXED_SET : Fld := ⟨0x020, 28, 24⟩
abbrev LDG_CTRL_SEL_SRC : Fld := ⟨0x020, 17, 16⟩
abbrev LDG_CTRL_OBJ_M1 : Fld := ⟨0x020, 14, 12⟩
abbrev LDG_CTRL_B_SRC : Fld := ⟨0x020, 10, 10⟩
abbrev LDG_CTRL_RESTART : Fld := ⟨0x020, 9, 8⟩
abbrev LDG_CTRL_N_M1 : Fld := ⟨0x020, 7, 4⟩
abbrev LDG_CTRL_EN : Fld := ⟨0x020, 0, 0⟩
abbrev LDG_SECTOR_A0 : Nat := 0x024
abbrev LDG_SECTOR_PITCH : Nat := 0x028
abbrev LDG_SCAN_CFG : Nat := 0x02C
abbrev LDG_SCAN_CFG_RESTART_MS : Fld := ⟨0x02C, 31, 16⟩
abbrev LDG_SCAN_CFG_SCAN_MAX : Fld := ⟨0x02C, 15, 0⟩
abbrev LDG_FS_BASE : Nat := 0x030
abbrev LDG_FS_BASE_BASE : Fld := ⟨0x030, 22, 17⟩
abbrev LDG_FS_VALID : Nat := 0x034
abbrev LDG_CONTAM : Nat := 0x038
abbrev LDG_CONTAM_FAULT_PCT : Fld := ⟨0x038, 31, 24⟩
abbrev LDG_CONTAM_WARN_PCT : Fld := ⟨0x038, 23, 16⟩
abbrev LDG_CONTAM_WIN_INT : Fld := ⟨0x038, 15, 0⟩
abbrev LDG_STATUS : Nat := 0x040
abbrev LDG_STATUS_RESTART_WAIT : Fld := ⟨0x040, 16, 16⟩
abbrev LDG_STATUS_CONTAM : Fld := ⟨0x040, 15, 14⟩
abbrev LDG_STATUS_PAIR_ON : Fld := ⟨0x040, 13, 12⟩
abbrev LDG_STATUS_SEL_INVALID : Fld := ⟨0x040, 11, 11⟩
abbrev LDG_STATUS_SWITCHING : Fld := ⟨0x040, 10, 10⟩
abbrev LDG_STATUS_VIOL : Fld := ⟨0x040, 9, 7⟩
abbrev LDG_STATUS_NET_OK : Fld := ⟨0x040, 6, 6⟩
abbrev LDG_STATUS_ACTIVE_SET : Fld := ⟨0x040, 4, 0⟩
abbrev LDG_FAULT : Nat := 0x044
abbrev LDG_FAULT_EXTERNAL : Fld := ⟨0x044, 19, 16⟩
abbrev LDG_FAULT_INTERNAL : Fld := ⟨0x044, 9, 0⟩
abbrev LDG_CFG_CRC : Nat := 0x048
abbrev LDG_WINDOW_DROP : Nat := 0x050
abbrev LDG_OFF_CNT : Nat := 0x054
abbrev LDG_SWITCH_CNT : Nat := 0x058
abbrev LDG_CMP_CNT : Nat := 0x05C

abbrev LDG_FS_CRC_A : Nat := 0x100
abbrev LDG_FS_CRC_B0 : Nat := 0x180
abbrev LDG_FS_CRC_B1 : Nat := 0x200

abbrev LDG_NET_CFG : Nat := 0x020
abbrev LDG_NET_CFG_CONN_ID : Fld := ⟨0x020, 31, 16⟩
abbrev LDG_NET_CFG_WD_MS : Fld := ⟨0x020, 15, 6⟩
abbrev LDG_NET_CFG_EN : Fld := ⟨0x020, 0, 0⟩
abbrev LDG_OWN_MAC_LO : Nat := 0x024
abbrev LDG_OWN_MAC_HI : Nat := 0x028
abbrev LDG_PEER_MAC_LO : Nat := 0x02C
abbrev LDG_PEER_MAC_HI : Nat := 0x030
abbrev LDG_NET_STATUS : Nat := 0x034
abbrev LDG_NET_STATUS_B_LINK : Fld := ⟨0x034, 2, 2⟩
abbrev LDG_NET_STATUS_A_LINK : Fld := ⟨0x034, 1, 1⟩
abbrev LDG_NET_STATUS_NET_OK : Fld := ⟨0x034, 0, 0⟩
abbrev LDG_TX_COUNTER : Nat := 0x038
abbrev LDG_RX_COUNTER : Nat := 0x03C
abbrev LDG_RX_CMD : Nat := 0x040
abbrev LDG_RX_CMD_CMD : Fld := ⟨0x040, 7, 0⟩
abbrev LDG_RX_OK : Nat := 0x044
abbrev LDG_RX_REJ_A : Nat := 0x048
abbrev LDG_RX_REJ_B : Nat := 0x04C
abbrev LDG_RX_MISMATCH : Nat := 0x050
abbrev LDG_WD_CNT : Nat := 0x054

abbrev LDG_SIN_CFG : Nat := 0x020
abbrev LDG_SIN_CFG_DISC : Fld := ⟨0x020, 24, 16⟩
abbrev LDG_SIN_CFG_FILTER : Fld := ⟨0x020, 11, 8⟩
abbrev LDG_SIN_CFG_TPO_B : Fld := ⟨0x020, 6, 5⟩
abbrev LDG_SIN_CFG_TPO_A : Fld := ⟨0x020, 4, 3⟩
abbrev LDG_SIN_CFG_FUNC : Fld := ⟨0x020, 2, 0⟩
abbrev LDG_SIN_STATE : Nat := 0x040
abbrev LDG_SIN_STATE_FAULT : Fld := ⟨0x040, 31, 24⟩
abbrev LDG_SIN_STATE_ACTIVE : Fld := ⟨0x040, 23, 16⟩
abbrev LDG_SIN_STATE_B : Fld := ⟨0x040, 15, 8⟩
abbrev LDG_SIN_STATE_A : Fld := ⟨0x040, 7, 0⟩
abbrev LDG_OSSD_STATUS : Nat := 0x044
abbrev LDG_OSSD_STATUS_TPO_RB : Fld := ⟨0x044, 15, 12⟩
abbrev LDG_OSSD_STATUS_PULSE : Fld := ⟨0x044, 11, 8⟩
abbrev LDG_OSSD_STATUS_RB : Fld := ⟨0x044, 7, 4⟩
abbrev LDG_OSSD_STATUS_CMD : Fld := ⟨0x044, 3, 0⟩
abbrev LDG_CHB_STATUS : Nat := 0x048
abbrev LDG_CHB_STATUS_LAT_MAX : Fld := ⟨0x048, 31, 16⟩
abbrev LDG_CHB_STATUS_LAT_LAST : Fld := ⟨0x048, 15, 0⟩
abbrev LDG_LAST_SLOT : Nat := 0x04C

abbrev CAL_CTRL : Nat := 0x020
abbrev CAL_CTRL_REF_EN : Fld := ⟨0x020, 8, 8⟩
abbrev CAL_CTRL_SRC : Fld := ⟨0x020, 5, 4⟩
abbrev CAL_CTRL_AUTO : Fld := ⟨0x020, 3, 3⟩
abbrev CAL_CTRL_ABORT : Fld := ⟨0x020, 2, 2⟩
abbrev CAL_CTRL_START : Fld := ⟨0x020, 1, 1⟩
abbrev CAL_CTRL_EN : Fld := ⟨0x020, 0, 0⟩
abbrev CAL_CDT_CFG : Nat := 0x024
abbrev CAL_CDT_CFG_BED : Fld := ⟨0x024, 29, 24⟩
abbrev CAL_CDT_CFG_HITS_LOG2 : Fld := ⟨0x024, 19, 16⟩
abbrev CAL_CDT_CFG_TLIM : Fld := ⟨0x024, 11, 0⟩
abbrev CAL_SCHED : Nat := 0x028
abbrev CAL_SCHED_INTERVAL : Fld := ⟨0x028, 15, 0⟩
abbrev CAL_STATUS : Nat := 0x02C
abbrev CAL_STATUS_BED : Fld := ⟨0x02C, 21, 16⟩
abbrev CAL_STATUS_REF_FAIL : Fld := ⟨0x02C, 12, 12⟩
abbrev CAL_STATUS_CAUSE : Fld := ⟨0x02C, 11, 8⟩
abbrev CAL_STATUS_STATE : Fld := ⟨0x02C, 2, 0⟩
abbrev CAL_CH_FAIL : Nat := 0x030
abbrev CAL_COUNT : Nat := 0x034
abbrev CAL_FAIL_CNT : Nat := 0x038
abbrev CAL_HOST_COLLIDE : Nat := 0x03C
abbrev CAL_VBD : Nat := 0x040
abbrev CAL_VBD_VBD : Fld := ⟨0x040, 15, 0⟩
abbrev CAL_BED : Nat := 0x100
abbrev CAL_BED_RS : Fld := ⟨0x100, 31, 16⟩
abbrev CAL_BED_ZB : Fld := ⟨0x100, 15, 0⟩
abbrev CAL_SKEW : Nat := 0x200

abbrev THM_CTRL : Nat := 0x020
abbrev THM_CTRL_DERATE_EN : Fld := ⟨0x020, 2, 2⟩
abbrev THM_CTRL_PARK_EN : Fld := ⟨0x020, 1, 1⟩
abbrev THM_CTRL_SKIP_EN : Fld := ⟨0x020, 0, 0⟩
abbrev THM_THROTTLE_CFG : Nat := 0x024
abbrev THM_THROTTLE_CFG_DERATE : Fld := ⟨0x024, 15, 8⟩
abbrev THM_THROTTLE_CFG_SKIP_M : Fld := ⟨0x024, 3, 0⟩
abbrev THM_PARK_MASK : Nat := 0x028
abbrev THM_STATUS : Nat := 0x02C
abbrev THM_STATUS_OTP_OK : Fld := ⟨0x02C, 3, 3⟩
abbrev THM_STATUS_SHUT : Fld := ⟨0x02C, 2, 2⟩
abbrev THM_STATUS_THROTTLE : Fld := ⟨0x02C, 1, 1⟩
abbrev THM_STATUS_WARN : Fld := ⟨0x02C, 0, 0⟩
abbrev THM_LEVEL : Nat := 0x030
abbrev THM_FAULT : Nat := 0x034
abbrev THM_FAULT_FAULT : Fld := ⟨0x034, 13, 0⟩
abbrev THM_THROTTLE_CNT : Nat := 0x038
abbrev THM_SHUT_CNT : Nat := 0x03C
abbrev THM_TS_CFG : Nat := 0x040
abbrev THM_TS_CFG_ACT_SHUT : Fld := ⟨0x040, 26, 26⟩
abbrev THM_TS_CFG_ACT_THROT : Fld := ⟨0x040, 25, 25⟩
abbrev THM_TS_CFG_ACT_WARN : Fld := ⟨0x040, 24, 24⟩
abbrev THM_TS_CFG_RS_CANCEL : Fld := ⟨0x040, 16, 16⟩
abbrev THM_TS_CFG_IDEAL : Fld := ⟨0x040, 15, 4⟩
abbrev THM_TS_CFG_TYPE : Fld := ⟨0x040, 1, 1⟩
abbrev THM_TS_CFG_EN : Fld := ⟨0x040, 0, 0⟩
abbrev THM_NTC : Nat := 0x060
abbrev THM_NTC_BETA : Fld := ⟨0x060, 31, 16⟩
abbrev THM_NTC_RES25 : Fld := ⟨0x060, 15, 0⟩
abbrev THM_READ : Nat := 0x080
abbrev THM_READ_VALID : Fld := ⟨0x080, 31, 31⟩
abbrev THM_READ_FAULT : Fld := ⟨0x080, 30, 30⟩
abbrev THM_READ_AGE : Fld := ⟨0x080, 23, 16⟩
abbrev THM_READ_T : Fld := ⟨0x080, 15, 0⟩
abbrev THM_LIM_A : Nat := 0x100
abbrev THM_LIM_A_THROTTLE : Fld := ⟨0x100, 31, 16⟩
abbrev THM_LIM_A_WARN : Fld := ⟨0x100, 15, 0⟩
abbrev THM_LIM_B : Nat := 0x104
abbrev THM_LIM_B_HYST : Fld := ⟨0x104, 31, 16⟩
abbrev THM_LIM_B_SHUT : Fld := ⟨0x104, 15, 0⟩
abbrev THM_LIM_B_S8 : Nat := 0x144

abbrev OTP_STATUS : Nat := 0x020
abbrev OTP_STATUS_BUSY : Fld := ⟨0x020, 18, 18⟩
abbrev OTP_STATUS_ABORTED : Fld := ⟨0x020, 17, 17⟩
abbrev OTP_STATUS_GEN_BAD : Fld := ⟨0x020, 16, 16⟩
abbrev OTP_STATUS_OPEN : Fld := ⟨0x020, 14, 12⟩
abbrev OTP_STATUS_SELECTED : Fld := ⟨0x020, 10, 8⟩
abbrev OTP_STATUS_BLANK : Fld := ⟨0x020, 7, 4⟩
abbrev OTP_STATUS_SEALED : Fld := ⟨0x020, 3, 0⟩
abbrev OTP_PROG_ADDR : Nat := 0x024
abbrev OTP_PROG_ADDR_WORD : Fld := ⟨0x024, 12, 0⟩
abbrev OTP_RD_ADDR : Nat := 0x034
abbrev OTP_RD_ADDR_WORD : Fld := ⟨0x034, 12, 0⟩
abbrev OTP_PROG_DATA : Nat := 0x028
abbrev OTP_PROG_CTRL : Nat := 0x02C
abbrev OTP_PROG_CTRL_GO : Fld := ⟨0x02C, 0, 0⟩
abbrev OTP_PROG_STATUS : Nat := 0x030
abbrev OTP_PROG_STATUS_ERR : Fld := ⟨0x030, 3, 0⟩
abbrev OTP_RD_DATA : Nat := 0x038
abbrev OTP_ECC_CORR : Nat := 0x03C
abbrev OTP_PROG_CNT : Nat := 0x040

abbrev SEC_STATUS : Nat := 0x020
abbrev SEC_STATUS_CUST_MODE : Fld := ⟨0x020, 4, 4⟩
abbrev SEC_STATUS_DBG_UNLOCKED : Fld := ⟨0x020, 3, 3⟩
abbrev SEC_STATUS_ID_BAD : Fld := ⟨0x020, 2, 2⟩
abbrev SEC_STATUS_ID_READY : Fld := ⟨0x020, 1, 1⟩
abbrev SEC_STATUS_KEY_OK : Fld := ⟨0x020, 0, 0⟩
abbrev SEC_BOOT_CTRL : Nat := 0x024
abbrev SEC_BOOT_CTRL_GO : Fld := ⟨0x024, 0, 0⟩
abbrev SEC_ATT_CTRL : Nat := 0x070
abbrev SEC_ATT_CTRL_GO : Fld := ⟨0x070, 0, 0⟩
abbrev SEC_TOKEN_CTRL : Nat := 0x094
abbrev SEC_TOKEN_CTRL_GO : Fld := ⟨0x094, 0, 0⟩
abbrev SEC_BOOT_STATUS : Nat := 0x028
abbrev SEC_BOOT_STATUS_IMAGE : Fld := ⟨0x028, 10, 8⟩
abbrev SEC_BOOT_STATUS_ERR : Fld := ⟨0x028, 7, 4⟩
abbrev SEC_BOOT_STATUS_STEP : Fld := ⟨0x028, 2, 0⟩
abbrev SEC_IMG_MGMT : Nat := 0x030
abbrev SEC_IMG_MGMT_BASE : Fld := ⟨0x030, 22, 12⟩
abbrev SEC_IMG_MGMT_EN : Fld := ⟨0x030, 0, 0⟩
abbrev SEC_IMG_PGL : Nat := 0x034
abbrev SEC_IMG_PGL_BASE : Fld := ⟨0x034, 22, 12⟩
abbrev SEC_IMG_PGL_EN : Fld := ⟨0x034, 0, 0⟩
abbrev SEC_IMG_SAFE : Nat := 0x044
abbrev SEC_IMG_SAFE_BASE : Fld := ⟨0x044, 22, 12⟩
abbrev SEC_IMG_SAFE_EN : Fld := ⟨0x044, 0, 0⟩
abbrev SEC_KEYS : Nat := 0x048
abbrev SEC_KEYS_C_MIN_SVN : Fld := ⟨0x048, 29, 24⟩
abbrev SEC_KEYS_V_MIN_SVN : Fld := ⟨0x048, 21, 16⟩
abbrev SEC_KEYS_C_LIVE : Fld := ⟨0x048, 15, 8⟩
abbrev SEC_KEYS_V_LIVE : Fld := ⟨0x048, 7, 0⟩
abbrev SEC_VERIFY_LAST : Nat := 0x04C
abbrev SEC_VERIFY_LAST_CODE : Fld := ⟨0x04C, 3, 0⟩
abbrev SEC_NONCE : Nat := 0x050
abbrev SEC_ATT_STATUS : Nat := 0x074
abbrev SEC_ATT_STATUS_SEQ : Fld := ⟨0x074, 31, 16⟩
abbrev SEC_ATT_STATUS_ERR : Fld := ⟨0x074, 7, 4⟩
abbrev SEC_ATT_STATUS_VALID : Fld := ⟨0x074, 1, 1⟩
abbrev SEC_ATT_STATUS_BUSY : Fld := ⟨0x074, 0, 0⟩
abbrev SEC_RPT_ADDR : Nat := 0x078
abbrev SEC_RPT_ADDR_ADDR : Fld := ⟨0x078, 10, 0⟩
abbrev SEC_RPT_DATA : Nat := 0x07C
abbrev SEC_CHALLENGE : Nat := 0x080
abbrev SEC_TOKEN_ADDR : Nat := 0x090
abbrev SEC_TOKEN_ADDR_ADDR : Fld := ⟨0x090, 22, 3⟩
abbrev SEC_TOKEN_STATUS : Nat := 0x098
abbrev SEC_TOKEN_STATUS_ERR : Fld := ⟨0x098, 11, 8⟩
abbrev SEC_TOKEN_STATUS_OP : Fld := ⟨0x098, 7, 1⟩
abbrev SEC_TOKEN_STATUS_BUSY : Fld := ⟨0x098, 0, 0⟩
abbrev SEC_ID_NEXT : Nat := 0x09C
abbrev SEC_ID_NEXT_OPEN : Fld := ⟨0x09C, 31, 31⟩
abbrev SEC_ID_NEXT_Q : Fld := ⟨0x09C, 24, 0⟩
abbrev SEC_ID_BLOCKS : Nat := 0x0A0
abbrev SEC_ID_BLOCKS_FREE : Fld := ⟨0x0A0, 16, 0⟩
abbrev SEC_ATT_CNT : Nat := 0x0A4
abbrev SEC_TOKEN_REJ_CNT : Nat := 0x0A8
abbrev SEC_ID_PUB : Nat := 0x0C0

abbrev DEV_DEVICE_ID : Nat := 0x020
abbrev DEV_DEVICE_ID_PART : Fld := ⟨0x020, 31, 16⟩
abbrev DEV_DEVICE_ID_STEPPING : Fld := ⟨0x020, 15, 8⟩
abbrev DEV_DEVICE_ID_VARIANT : Fld := ⟨0x020, 3, 0⟩
abbrev DEV_STATE : Nat := 0x024
abbrev DEV_STATE_STATE : Fld := ⟨0x024, 2, 0⟩
abbrev DEV_FAULT_CAUSE : Nat := 0x028
abbrev DEV_FAULT_CAUSE_PWR : Fld := ⟨0x028, 3, 3⟩
abbrev DEV_FAULT_CAUSE_OTP_FACTORY : Fld := ⟨0x028, 2, 2⟩
abbrev DEV_FAULT_CAUSE_SAFETY_IMAGE : Fld := ⟨0x028, 1, 1⟩
abbrev DEV_FAULT_CAUSE_LDG : Fld := ⟨0x028, 0, 0⟩
abbrev DEV_PORT_STATUS : Nat := 0x02C
abbrev DEV_PORT_STATUS_DYN_ADDR : Fld := ⟨0x02C, 7, 1⟩
abbrev DEV_PORT_STATUS_I3C : Fld := ⟨0x02C, 0, 0⟩
abbrev DEV_BAD_ADDR : Nat := 0x030
abbrev DEV_BAD_CMD : Nat := 0x034
abbrev DEV_SCRATCH : Nat := 0x038

abbrev EVM_PIN_CFG : Nat := 0x020
abbrev EVM_PIN_CFG_OD : Fld := ⟨0x020, 3, 0⟩
abbrev EVM_PIN_STATUS : Nat := 0x024
abbrev EVM_PIN_STATUS_ASSERT : Fld := ⟨0x024, 3, 0⟩
abbrev EVM_SOFT : Nat := 0x028
abbrev EVM_SOFT_PULSE : Fld := ⟨0x028, 0, 0⟩
abbrev EVM_LOG_LEVEL : Nat := 0x02C
abbrev EVM_LOG_LEVEL_LEVEL : Fld := ⟨0x02C, 10, 0⟩
abbrev EVM_LOG_POP : Nat := 0x030
abbrev EVM_LOG_OVF : Nat := 0x034
abbrev EVM_PULSE_MERGE : Nat := 0x038
abbrev EVM_LOG_CTRL : Nat := 0x03C
abbrev EVM_LOG_CTRL_CLEAR : Fld := ⟨0x03C, 0, 0⟩
abbrev EVM_SUMMARY : Nat := 0x040
abbrev EVM_CNT_SEL : Nat := 0x080
abbrev EVM_CNT_SEL_EN : Fld := ⟨0x080, 31, 31⟩
abbrev EVM_CNT_SEL_SRC : Fld := ⟨0x080, 8, 0⟩
abbrev EVM_CNT : Nat := 0x0C0
abbrev EVM_ROUTE : Nat := 0x100
abbrev EVM_ROUTE_MARK : Fld := ⟨0x100, 4, 4⟩
abbrev EVM_ROUTE_LOG : Fld := ⟨0x100, 3, 3⟩
abbrev EVM_ROUTE_PIN_EN : Fld := ⟨0x100, 2, 2⟩
abbrev EVM_ROUTE_PIN : Fld := ⟨0x100, 1, 0⟩
abbrev EVM_ROUTE_256 : Nat := 0x500
abbrev EVM_ROUTE_280 : Nat := 0x560

abbrev PWR_STATE_REQ : Nat := 0x020
abbrev PWR_STATE_REQ_REQ : Fld := ⟨0x020, 2, 0⟩
abbrev PWR_REQ_STATUS : Nat := 0x024
abbrev PWR_REQ_STATUS_ERR : Fld := ⟨0x024, 7, 4⟩
abbrev PWR_REQ_STATUS_LAST : Fld := ⟨0x024, 2, 0⟩
abbrev PWR_STATUS : Nat := 0x028
abbrev PWR_STATUS_PWRGOOD : Fld := ⟨0x028, 8, 8⟩
abbrev PWR_STATUS_TIME_DISC : Fld := ⟨0x028, 4, 4⟩
abbrev PWR_STATUS_SUPPLY_OK : Fld := ⟨0x028, 3, 3⟩
abbrev PWR_STATUS_AUX_PLL_LOCKED : Fld := ⟨0x028, 2, 2⟩
abbrev PWR_STATUS_LANE_PLL_LOCKED : Fld := ⟨0x028, 1, 1⟩
abbrev PWR_STATUS_PLL_LOCKED : Fld := ⟨0x028, 0, 0⟩
abbrev PWR_SUPPLY_FLAG : Nat := 0x02C
abbrev PWR_SUPPLY_FLAG_OUT : Fld := ⟨0x02C, 7, 0⟩
abbrev PWR_GATE_CTRL : Nat := 0x030
abbrev PWR_GATE_CTRL_LANE : Fld := ⟨0x030, 16, 16⟩
abbrev PWR_GATE_CTRL_PGL : Fld := ⟨0x030, 11, 8⟩
abbrev PWR_GATE_CTRL_TERRACE : Fld := ⟨0x030, 3, 0⟩
abbrev PWR_GATE_STATUS : Nat := 0x034
abbrev PWR_GATE_STATUS_BUSY : Fld := ⟨0x034, 31, 31⟩
abbrev PWR_GATE_STATUS_LANE : Fld := ⟨0x034, 16, 16⟩
abbrev PWR_GATE_STATUS_PGL : Fld := ⟨0x034, 11, 8⟩
abbrev PWR_GATE_STATUS_TERRACE : Fld := ⟨0x034, 3, 0⟩
abbrev PWR_GATE_ERR : Nat := 0x038
abbrev PWR_GATE_ERR_ERR : Fld := ⟨0x038, 7, 4⟩
abbrev PWR_GATE_ERR_DOMAIN : Fld := ⟨0x038, 3, 0⟩
abbrev PWR_RESET_CAUSE : Nat := 0x03C
abbrev PWR_RESET_CAUSE_CAUSE : Fld := ⟨0x03C, 3, 0⟩
abbrev PWR_RESET_CTRL : Nat := 0x040
abbrev PWR_RESET_CTRL_KEY : Fld := ⟨0x040, 31, 16⟩
abbrev PWR_RESET_CTRL_GO : Fld := ⟨0x040, 0, 0⟩
abbrev PWR_UNLOCK_CNT : Nat := 0x044
abbrev PWR_SUPPLY_CNT : Nat := 0x048
abbrev PWR_GATE_CNT : Nat := 0x04C
abbrev PWR_LANE_DISCARD : Nat := 0x050

abbrev DBG_STATUS : Nat := 0x020
abbrev DBG_STATUS_TAP_RESET : Fld := ⟨0x020, 8, 8⟩
abbrev DBG_STATUS_UNLOCK : Fld := ⟨0x020, 2, 0⟩
abbrev DBG_ATEST_SEL : Nat := 0x024
abbrev DBG_DTEST : Nat := 0x040
abbrev DBG_DTEST_EN : Fld := ⟨0x040, 31, 31⟩
abbrev DBG_DTEST_KIND : Fld := ⟨0x040, 9, 9⟩
abbrev DBG_DTEST_SEL : Fld := ⟨0x040, 8, 0⟩
abbrev DBG_MEM_ADDR : Nat := 0x080
abbrev DBG_MEM_DATA : Nat := 0x084
abbrev DBG_LOCKED_CNT : Nat := 0x088

/-- Registers of group `mdw` (02_meadow_trellis.md). -/
def regsMdw : List RegDef :=
  [ ⟨MDW_CTRL, 1, 4, 0x22, 0xF3, 0, 0, 0, 0, 0, 0⟩,
    ⟨MDW_DEAD_TIME, 1, 4, 0x4, 0xF, 0, 0, 0, 0, 0, 0⟩,
    ⟨MDW_COINC, 1, 4, 0x21, 0x7F, 0, 0, 0, 0, 0, 0⟩,
    ⟨MDW_BLANK_CTRL, 1, 4, 0, 0xFFFFFF01, 0, 0, 0, 0, 0, 0⟩,
    ⟨MDW_BLANK_DISCARD, 1, 4, 0, 0, 0, 0, 0, 0, 0, 0⟩,
    ⟨MDW_BLANK_TIME, 1, 4, 0, 0, 0, 0, 0, 0, 0, 0⟩,
    ⟨MDW_LATCHED_CELLS, 1, 4, 0, 0, 0, 0, 0, 0, 0, 0⟩,
    ⟨MDW_LATCH_LAST, 1, 4, 0, 0, 0, 0, 0, 0, 0, 0⟩,
    ⟨MDW_LATCH_CLR, 1, 4, 0, 0, 0, 0, 0, 0, 0x1, 0⟩,
    ⟨MDW_PIX_EN, 64, 4, 0xFFFFFFFF, 0xFFFFFFFF, 0, 0, 0, 0, 0, 0⟩ ]

/-- Registers of group `trl` (02_meadow_trellis.md). -/
def regsTrl : List RegDef :=
  [ ⟨TRL_CTRL, 1, 4, 0x40, 0x373, 0, 0, 0, 0, 0, 0⟩,
    ⟨TRL_SC_PITCH, 1, 4, 0x320, 0xFFFF, 0, 0, 0, 0, 0, 0⟩,
    ⟨TRL_OPT_GAIN, 1, 4, 0x20, 0xFF, 0, 0, 0, 0, 0, 0⟩,
    ⟨TRL_OMEGA, 1, 4, 0, 0, 0, 0, 0, 0, 0, 0⟩,
    ⟨TRL_X0, 4, 4, 0x80808080, 0xFFFFFFFF, 0, 0, 0, 0, 0, 0⟩,
    ⟨TRL_HOP_TIME, 4, 4, 0xFFFF, 0xFFFF, 0, 0, 0, 0, 0, 0⟩,
    ⟨TRL_ROUTE, 64, 4, 0, 0xFFFFFFFF, 0, 0, 0, 0, 0, 0⟩,
    ⟨TRL_HOP_BLIND_CH, 512, 4, 0, 0, 0, 0, 0, 0, 0, 0xFFFF⟩ ]

/-- Registers of group `sdl` (03_sundial_timing.md). -/
def regsSdl : List RegDef :=
  [ ⟨SDL_CTRL, 1, 4, 0, 0x1, 0, 0, 0, 0, 0, 0⟩,
    ⟨SDL_CAL_COMMIT, 1, 4, 0, 0, 0, 0, 0, 0, 0xFFFFFFFF, 0⟩,
    ⟨SDL_CAL_REJECT, 1, 4, 0, 0, 0, 0, 0, 0, 0, 0⟩,
    ⟨SDL_TAC_OOR, 1, 4, 0, 0, 0, 0, 0, 0, 0, 0⟩,
    ⟨SDL_LOCK_STATUS, 1, 4, 0, 0, 0, 0, 0, 0, 0, 0⟩,
    ⟨SDL_DEAD_CH, 32, 4, 0, 0, 0, 0, 0, 0, 0, 0xFFFF⟩,
    ⟨SDL_PRESTART_CH, 32, 4, 0, 0, 0, 0, 0, 0, 0, 0xFFFF⟩,
    ⟨SDL_DROP_CH, 32, 4, 0, 0, 0, 0, 0, 0, 0, 0xFFFF⟩,
    ⟨SDL_ZERO_CH, 32, 4, 0, 0, 0, 0, 0, 0, 0, 0xFFFF⟩,
    ⟨SDL_CAL_TAB, 512, 4, 0x7D7D7D7D, 0xFFFFFFFF, 0, 0, 0, 0, 0, 0⟩ ]

/-- Registers of group `sdlRef` (03_sundial_timing.md). -/
def regsSdlRef : List RegDef :=
  [ ⟨SDL_START_CTRL, 1, 4, 0x101E0, 0x4001FFFF, 0, 0, 0, 0, 0x80000000, 0⟩,
    ⟨SDL_START_LAST, 2, 4, 0, 0, 0, 0, 0, 0, 0, 0⟩,
    ⟨SDL_START_LOST_CNT, 1, 4, 0, 0, 0, 0, 0, 0, 0, 0⟩,
    ⟨SDL_START_EXTRA_CNT, 1, 4, 0, 0, 0, 0, 0, 0, 0, 0⟩,
    ⟨SDL_START_MISS_RUN, 1, 4, 0, 0, 0, 0, 0, 0, 0, 0⟩,
    ⟨SDL_REF_CAL_REJECT, 1, 4, 0, 0, 0, 0, 0, 0, 0, 0⟩,
    ⟨SDL_REF_CAL_TAB, 16, 4, 0x7D7D7D7D, 0xFFFFFFFF, 0, 0, 0, 0, 0, 0⟩ ]

/-- Registers of group `org` (04_orangery_histograms.md). -/
def regsOrg : List RegDef :=
  [ ⟨ORG_CTRL, 1, 4, 0x4, 0x7F, 0, 0, 0, 0, 0, 0⟩,
    ⟨ORG_GATE, 1, 4, 0x20000000, 0xFFFF3FFF, 0, 0, 0, 0, 0, 0⟩,
    ⟨ORG_GATE_STATUS, 1, 4, 0x2000, 0, 0, 0, 0, 0, 0, 0⟩,
    ⟨ORG_SWAP_CNT, 1, 4, 0, 0, 0, 0, 0, 0, 0, 0⟩,
    ⟨ORG_WIN_SLOT, 1, 4, 0, 0, 0, 0, 0, 0, 0, 0⟩,
    ⟨ORG_WIN_STATUS, 1, 4, 0, 0, 0, 0, 0, 0, 0, 0⟩,
    ⟨ORG_WIN_BUSY, 1, 4, 0, 0, 0, 0, 0, 0, 0, 0⟩,
    ⟨ORG_CLEAR, 1, 4, 0, 0, 0, 0, 0, 0, 0x1, 0⟩,
    ⟨ORG_ZTAB_BASE, 1, 4, 0, 0x7FE000, 0, 0, 0, 0, 0, 0⟩,
    ⟨ORG_TAP_CTRL, 1, 4, 0, 0xFF, 0, 0, 0, 0, 0, 0⟩,
    ⟨ORG_TAP_A, 16, 8, 0, 0xC00001FF, 0, 0, 0, 0, 0, 0⟩,
    ⟨ORG_TAP_B, 16, 8, 0, 0x3FFF03FF, 0, 0, 0, 0, 0, 0⟩,
    ⟨ORG_SAT, 16, 4, 0, 0, 0, 0, 0xFFFFFFFF, 0, 0, 0⟩,
    ⟨ORG_ZSAT, 16, 4, 0, 0, 0, 0, 0xFFFFFFFF, 0, 0, 0⟩ ]

/-- Registers of group `gzb` (05_gazebo_echoes.md). -/
def regsGzb : List RegDef :=
  [ ⟨GZB_CTRL, 1, 4, 0x330, 0x3337, 0, 0, 0, 0, 0, 0⟩,
    ⟨GZB_AMB, 1, 4, 0x1004, 0xFF0F, 0, 0, 0, 0, 0, 0⟩,
    ⟨GZB_FILT_CFG, 1, 4, 0x3, 0xF, 0, 0, 0, 0, 0, 0⟩,
    ⟨GZB_FILT_C_0, 1, 4, 0x408040, 0xFFFFFFFF, 0, 0, 0, 0, 0, 0⟩,
    ⟨GZB_FILT_C_1, 2, 4, 0, 0xFFFFFFFF, 0, 0, 0, 0, 0, 0⟩,
    ⟨GZB_THR, 1, 4, 0x840, 0xFFFF, 0, 0, 0, 0, 0, 0⟩,
    ⟨GZB_PEAK, 1, 4, 0x22308, 0xFFF73F, 0, 0, 0, 0, 0, 0⟩,
    ⟨GZB_SUN, 1, 4, 0x400140, 0xFFFFFFFF, 0, 0, 0, 0, 0, 0⟩,
    ⟨GZB_VOL, 1, 4, 0x100C, 0xFFFF, 0, 0, 0, 0, 0, 0⟩,
    ⟨GZB_BLOOM, 1, 4, 0x400042, 0xFF0FF7, 0, 0, 0, 0, 0, 0⟩,
    ⟨GZB_WINDOW, 1, 4, 0x140000, 0xFFFFFF, 0, 0, 0, 0, 0, 0⟩,
    ⟨GZB_ALIEN, 1, 4, 0x4, 0xFFFF, 0, 0, 0, 0, 0, 0⟩,
    ⟨GZB_STATUS, 1, 4, 0, 0, 0, 0, 0, 0, 0, 0⟩,
    ⟨GZB_CAND_OVF, 1, 4, 0, 0, 0, 0, 0, 0, 0, 0⟩,
    ⟨GZB_ALIEN_CNT, 1, 4, 0, 0, 0, 0, 0, 0, 0, 0⟩,
    ⟨GZB_WIN_CNT, 1, 4, 0, 0, 0, 0, 0, 0, 0, 0⟩,
    ⟨GZB_ABANDON, 1, 4, 0, 0, 0, 0, 0, 0, 0, 0⟩,
    ⟨GZB_SUN_CH_LAST, 1, 4, 0, 0, 0, 0, 0, 0, 0, 0⟩ ]

/-- Registers of group `gzb54` (05_gazebo_echoes.md). -/
def regsGzb54 : List RegDef :=
  [ ⟨GZB_DITHER, 1, 4, 0, 0x800000FF, 0, 0, 0, 0, 0, 0⟩,
    ⟨GZB_DITHER_SALT, 1, 4, 0, 0xFFFFFFFF, 0, 0, 0, 0, 0, 0⟩,
    ⟨GZB_LISTEN, 1, 4, 0, 0x3FFFF, 0, 0, 0, 0, 0, 0⟩,
    ⟨GZB_SEQ_STATUS, 1, 4, 0, 0, 0, 0, 0, 0, 0, 0⟩ ]

/-- Registers of group `dtb` (06_points_time.md). -/
def regsDtb : List RegDef :=
  [ ⟨DTB_CTRL, 1, 4, 0, 0x1F, 0, 0, 0, 0, 0x300, 0⟩,
    ⟨DTB_SYNC_CFG, 1, 4, 0x14, 0x1F, 0, 0, 0, 0, 0, 0⟩,
    ⟨DTB_CABLE_DELAY, 1, 4, 0, 0xFFFF, 0, 0, 0, 0, 0, 0⟩,
    ⟨DTB_STATUS, 1, 4, 0x1, 0, 0, 0, 0, 0, 0, 0⟩,
    ⟨DTB_PHASE_ERR, 1, 4, 0, 0, 0, 0, 0, 0, 0, 0⟩,
    ⟨DTB_LOOP_DELAY, 1, 4, 0, 0, 0, 0, 0, 0, 0, 0⟩,
    ⟨DTB_LOAD_LO, 1, 4, 0, 0xFFFFFFFF, 0, 0, 0, 0, 0, 0⟩,
    ⟨DTB_LOAD_HI, 1, 4, 0, 0xFFFFFFFF, 0, 0, 0, 0, 0, 0⟩,
    ⟨DTB_CRC_ERR, 1, 4, 0, 0, 0, 0, 0, 0, 0, 0⟩,
    ⟨DTB_SYNC_LOSS_CNT, 1, 4, 0, 0, 0, 0, 0, 0, 0, 0⟩,
    ⟨DTB_STEP_CNT, 1, 4, 0, 0, 0, 0, 0, 0, 0, 0⟩ ]

/-- Registers of group `prmLane` (07_promenade_lanes.md). -/
def regsPrmLane : List RegDef :=
  [ ⟨PRM_LANE_CTRL, 1, 4, 0, 0xF3, 0, 0, 0, 0, 0, 0⟩,
    ⟨PRM_LANE_CFG, 1, 4, 0x8310, 0xF73F, 0, 0, 0, 0, 0, 0⟩,
    ⟨PRM_LANE_STATUS, 1, 4, 0, 0, 0, 0, 0, 0, 0, 0⟩,
    ⟨PRM_LOS_CNT, 1, 4, 0, 0, 0, 0, 0, 0, 0, 0⟩,
    ⟨PRM_LOL_CNT, 1, 4, 0, 0, 0, 0, 0, 0, 0, 0⟩,
    ⟨PRM_HDR_ERR, 1, 4, 0, 0, 0, 0, 0, 0, 0, 0⟩,
    ⟨PRM_PRBS_ERR, 1, 4, 0, 0, 0, 0, 0, 0, 0, 0⟩ ]

/-- Registers of group `prmLink` (07_promenade_lanes.md). -/
def regsPrmLink : List RegDef :=
  [ ⟨PRM_LINK_CTRL, 1, 4, 0, 0x73, 0, 0, 0, 0, 0, 0⟩,
    ⟨PRM_LINK_CFG, 1, 4, 0xA00003E8, 0xFF00FFFF, 0, 0, 0, 0, 0, 0⟩,
    ⟨PRM_LINK_STATUS, 1, 4, 0, 0, 0, 0, 0, 0, 0, 0⟩,
    ⟨PRM_EGRESS, 1, 4, 0, 0, 0, 0, 0, 0, 0, 0x3FFF0000⟩,
    ⟨PRM_SEQ_NEXT, 1, 4, 0, 0, 0, 0, 0, 0, 0, 0⟩,
    ⟨PRM_PKT_SENT, 1, 4, 0, 0, 0, 0, 0, 0, 0, 0⟩,
    ⟨PRM_DISCARD_PKT, 1, 4, 0, 0, 0, 0, 0, 0, 0, 0⟩,
    ⟨PRM_TAP_DROP, 1, 4, 0, 0, 0, 0, 0, 0, 0, 0⟩,
    ⟨PRM_ABORT_CNT, 1, 4, 0, 0, 0, 0, 0, 0, 0, 0⟩,
    ⟨PRM_ALIGN_LOSS_CNT, 1, 4, 0, 0, 0, 0, 0, 0, 0, 0⟩,
    ⟨PRM_XOFF_CNT, 1, 4, 0, 0, 0, 0, 0, 0, 0, 0⟩ ]

/-- Registers of group `bndSeq` (08_bandstand_emitter.md). -/
def regsBndSeq : List RegDef :=
  [ ⟨BND_CTRL, 1, 4, 0, 0x3F, 0, 0, 0, 0, 0, 0⟩,
    ⟨BND_BUF, 1, 4, 0, 0x4, 0, 0, 0, 0, 0x100, 0⟩,
    ⟨BND_LOAD_SRC, 1, 4, 0, 0x7FF000, 0, 0, 0, 0, 0, 0⟩,
    ⟨BND_LOAD_CRC, 1, 4, 0, 0, 0, 0, 0, 0, 0, 0⟩,
    ⟨BND_TIMED_PERIOD, 1, 4, 0, 0xFFFF, 0, 0, 0, 0, 0, 0⟩,
    ⟨BND_SYNC_LATENCY, 1, 4, 0x14, 0xFFFF, 0, 0, 0, 0, 0, 0⟩,
    ⟨BND_BANK_BLANK, 1, 4, 0x64, 0x3FF, 0, 0, 0, 0, 0, 0⟩,
    ⟨BND_SLOT_NUM, 1, 4, 0, 0, 0, 0, 0, 0, 0, 0⟩,
    ⟨BND_FRAME, 1, 4, 0, 0, 0, 0, 0, 0, 0, 0⟩,
    ⟨BND_LINE, 1, 4, 0, 0, 0, 0, 0, 0, 0, 0⟩,
    ⟨BND_SLOT_SKIP, 1, 4, 0, 0, 0, 0, 0, 0, 0, 0⟩,
    ⟨BND_SWAP_MISS, 1, 4, 0, 0, 0, 0, 0, 0, 0, 0⟩,
    ⟨BND_GRID_ERR, 1, 4, 0, 0, 0, 0, 0, 0, 0, 0⟩ ]

/-- Registers of group `bndDrv` (08_bandstand_emitter.md). -/
def regsBndDrv : List RegDef :=
  [ ⟨BND_GSCALE, 1, 4, 0, 0xFF, 0, 0, 0, 0, 0, 0⟩,
    ⟨BND_FIRE_TRIM, 2, 4, 0, 0xFFFFFFFF, 0, 0, 0, 0, 0, 0⟩,
    ⟨BND_SEG_MASK_LO, 1, 4, 0, 0xFFFFFFFF, 0, 0, 0, 0, 0, 0⟩,
    ⟨BND_SEG_MASK_HI, 1, 4, 0, 0xFFFFFFFF, 0, 0, 0, 0, 0, 0⟩,
    ⟨BND_SEG_FAULT_LO, 1, 4, 0, 0, 0, 0, 0xFFFFFFFF, 0, 0, 0⟩,
    ⟨BND_SEG_FAULT_HI, 1, 4, 0, 0, 0, 0, 0xFFFFFFFF, 0, 0, 0⟩,
    ⟨BND_DIAG_CFG, 1, 4, 0x1435020, 0x1FFFFFF, 0, 0, 0, 0, 0, 0⟩,
    ⟨BND_ISNS_SCALE, 1, 4, 0x3200, 0xFFFF, 0, 0, 0, 0, 0, 0⟩,
    ⟨BND_VF_THR, 1, 4, 0x5DC00C8, 0xFFF0FFF, 0, 0, 0, 0, 0, 0⟩,
    ⟨BND_PROBE, 1, 4, 0x3E80064, 0x83FF00FF, 0, 0, 0, 0, 0, 0⟩,
    ⟨BND_THERM_MAP, 1, 4, 0, 0, 0xFFFFFFFF, 0, 0, 0, 0, 0⟩,
    ⟨BND_THERM_LIM, 1, 4, 0x41A0352, 0xFFFFFFFF, 0, 0, 0, 0, 0, 0⟩,
    ⟨BND_DERATE, 1, 4, 0x144008, 0xFFFFFF, 0, 0, 0, 0, 0, 0⟩,
    ⟨BND_DERATE_STATUS, 1, 4, 0, 0, 0, 0, 0, 0, 0, 0⟩,
    ⟨BND_WITHHELD, 1, 4, 0, 0, 0, 0, 0, 0, 0, 0⟩,
    ⟨BND_PROBE_CNT, 1, 4, 0, 0, 0, 0, 0, 0, 0, 0⟩,
    ⟨BND_PROBE_CANCEL, 1, 4, 0, 0, 0, 0, 0, 0, 0, 0⟩,
    ⟨BND_SEG_STATE, 8, 4, 0, 0, 0, 0, 0, 0, 0, 0⟩ ]

/-- Registers of group `gth` (09_gatehouse.md). -/
def regsGth : List RegDef :=
  [ ⟨GTH_CFG, 1, 4, 0, 0, 0x131, 0, 0, 0, 0, 0⟩,
    ⟨GTH_STATUS, 1, 4, 0x1, 0, 0, 0, 0, 0, 0, 0⟩,
    ⟨GTH_OMEGA_MIN, 1, 4, 0, 0xFFFFFF, 0, 0, 0, 0, 0, 0⟩,
    ⟨GTH_STATIC_HOLD, 1, 4, 0x64, 0, 0x3FF, 0, 0, 0, 0, 0⟩,
    ⟨GTH_VLIM, 1, 4, 0, 0xFFFF, 0xFFFF0000, 0, 0, 0, 0, 0⟩,
    ⟨GTH_PRED, 1, 4, 0, 0, 0, 0, 0, 0, 0, 0⟩,
    ⟨GTH_BUD_SCAN_SEG, 5, 4, 0, 0xFFFFFFFF, 0, 0, 0, 0, 0, 0⟩,
    ⟨GTH_BUD_SCAN_GRP, 5, 4, 0, 0xFFFFFFFF, 0, 0, 0, 0, 0, 0⟩,
    ⟨GTH_BUD_STAT_SEG, 5, 4, 0, 0xFFFFFFFF, 0, 0, 0, 0, 0, 0⟩,
    ⟨GTH_BUD_STAT_GRP, 5, 4, 0, 0xFFFFFFFF, 0, 0, 0, 0, 0, 0⟩,
    ⟨GTH_INHIBIT_CNT, 1, 4, 0, 0, 0, 0, 0, 0, 0, 0⟩,
    ⟨GTH_RELAX_REJECT, 1, 4, 0, 0, 0, 0, 0, 0, 0, 0⟩,
    ⟨GTH_MISSING_CNT, 1, 4, 0, 0, 0, 0, 0, 0, 0, 0⟩,
    ⟨GTH_DUMP_CNT, 1, 4, 0, 0, 0, 0, 0, 0, 0, 0⟩,
    ⟨GTH_LATE_CNT, 1, 4, 0, 0, 0, 0, 0, 0, 0, 0⟩,
    ⟨GTH_PLAN_MISMATCH, 1, 4, 0, 0, 0, 0, 0, 0, 0, 0⟩,
    ⟨GTH_STATIC_CNT, 1, 4, 0, 0, 0, 0, 0, 0, 0, 0⟩,
    ⟨GTH_WIN_HIT, 5, 4, 0, 0, 0, 0, 0, 0, 0, 0⟩,
    ⟨GTH_INHIBIT_LAST, 1, 4, 0, 0, 0, 0, 0, 0, 0, 0⟩,
    ⟨GTH_EFF, 64, 4, 0, 0, 0, 0, 0, 0, 0, 0⟩ ]

/-- Registers of group `ftn` (10_fountain_loops.md). -/
def regsFtn : List RegDef :=
  [ ⟨FTN_CTRL, 1, 4, 0, 0x3, 0, 0x70, 0, 0, 0, 0⟩,
    ⟨FTN_STATE, 1, 4, 0, 0, 0, 0, 0, 0, 0, 0⟩,
    ⟨FTN_SRC, 1, 4, 0, 0, 0, 0xFFFF, 0, 0, 0, 0⟩,
    ⟨FTN_PERIOD, 1, 4, 0x3E8, 0, 0, 0x3FFF, 0, 0, 0, 0⟩,
    ⟨FTN_GAIN_PI, 1, 4, 0, 0, 0, 0xFFFFFFFF, 0, 0, 0, 0⟩,
    ⟨FTN_GAIN_D, 1, 4, 0, 0, 0, 0xFFFFFFFF, 0, 0, 0, 0⟩,
    ⟨FTN_SHAPE, 1, 4, 0, 0, 0, 0xFFFF0007, 0, 0, 0, 0⟩,
    ⟨FTN_OUT_LIM, 1, 4, 0x7FFF0000, 0, 0, 0xFFFFFFFF, 0, 0, 0, 0⟩,
    ⟨FTN_OUT_SAFE, 1, 4, 0, 0, 0, 0xFFFF, 0, 0, 0, 0⟩,
    ⟨FTN_OUT_MAN, 1, 4, 0, 0xFFFF, 0, 0, 0, 0, 0, 0⟩,
    ⟨FTN_SP, 1, 4, 0, 0xFFFF, 0, 0, 0, 0, 0, 0⟩,
    ⟨FTN_SP_LIM, 1, 4, 0x7FFF8000, 0, 0, 0xFFFFFFFF, 0, 0, 0, 0⟩,
    ⟨FTN_RAMP, 1, 4, 0x10001, 0, 0, 0xFFFFFFFF, 0, 0, 0, 0⟩,
    ⟨FTN_RANGE, 1, 4, 0x7FFF8000, 0, 0, 0xFFFFFFFF, 0, 0, 0, 0⟩,
    ⟨FTN_DETECT, 1, 4, 0x13000000, 0, 0, 0xFFFFFFFF, 0, 0, 0, 0⟩,
    ⟨FTN_PWM_PERIOD, 1, 4, 0xC35, 0, 0, 0xFFFF, 0, 0, 0, 0⟩,
    ⟨FTN_MEAS, 1, 4, 0, 0, 0, 0, 0, 0, 0, 0⟩,
    ⟨FTN_SP_RAMP, 1, 4, 0, 0, 0, 0, 0, 0, 0, 0⟩,
    ⟨FTN_OUT, 1, 4, 0, 0, 0, 0, 0, 0, 0, 0⟩,
    ⟨FTN_LOSS_CAUSE, 1, 4, 0, 0, 0, 0, 0x1F, 0, 0, 0⟩,
    ⟨FTN_COEF_IGNORED, 1, 4, 0, 0, 0, 0, 0, 0, 0, 0⟩,
    ⟨FTN_MISS_CNT, 1, 4, 0, 0, 0, 0, 0, 0, 0, 0⟩,
    ⟨FTN_HOLD_CNT, 1, 4, 0, 0, 0, 0, 0, 0, 0, 0⟩ ]

/-- Registers of group `ftnAng` (10_fountain_loops.md). -/
def regsFtnAng : List RegDef :=
  [ ⟨FTN_ANG_ZERO, 1, 4, 0x8000, 0, 0, 0xFFFF, 0, 0, 0, 0⟩,
    ⟨FTN_ANG_SCALE, 1, 4, 0, 0, 0, 0xFFFFFF, 0, 0, 0, 0⟩,
    ⟨FTN_OMEGA_CFG, 1, 4, 0x2000, 0, 0, 0xFFFF, 0, 0, 0, 0⟩,
    ⟨FTN_ANGLE, 1, 4, 0, 0, 0, 0, 0, 0, 0, 0⟩,
    ⟨FTN_OMEGA, 1, 4, 0, 0, 0, 0, 0, 0, 0, 0⟩ ]

/-- Registers of group `pmp0` (11_pumphouse_analog.md). -/
def regsPmp0 : List RegDef :=
  [ ⟨PMP_CTRL, 1, 4, 0x4, 0x7, 0xF00, 0, 0, 0, 0, 0⟩,
    ⟨PMP_STATUS, 1, 4, 0, 0, 0, 0, 0, 0, 0, 0⟩,
    ⟨PMP_CLAMP, 1, 4, 0, 0, 0, 0, 0xFFFFFFF, 0, 0, 0⟩,
    ⟨PMP_OVR, 1, 4, 0, 0, 0, 0, 0xFFFFFFF, 0, 0, 0⟩,
    ⟨PMP_WIRE_FAULT, 1, 4, 0, 0, 0, 0, 0, 0, 0, 0⟩,
    ⟨PMP_DMA_MAP, 1, 4, 0x3FFFFFFF, 0x3FFFFFFF, 0, 0, 0, 0, 0, 0⟩,
    ⟨PMP_URGENT_DROP, 1, 4, 0, 0, 0, 0, 0, 0, 0, 0⟩,
    ⟨PMP_RESULT_DROP, 1, 4, 0, 0, 0, 0, 0, 0, 0, 0⟩,
    ⟨PMP_SETTLE_CNT, 1, 4, 0, 0, 0, 0, 0, 0, 0, 0⟩,
    ⟨PMP_TSTALE_CNT, 1, 4, 0, 0, 0, 0, 0, 0, 0, 0⟩ ]

/-- Registers of group `pmp1` (11_pumphouse_analog.md). -/
def regsPmp1 : List RegDef :=
  [ ⟨PMP_SD_CTRL, 2, 4, 0x30, 0xF1, 0, 0, 0, 0, 0, 0⟩,
    ⟨PMP_SD_NOTCH, 2, 4, 0x3E8, 0x1FFFF, 0, 0, 0, 0, 0, 0⟩,
    ⟨PMP_SD_LIST, 32, 4, 0x80000000, 0x81FFFFFF, 0, 0, 0, 0, 0, 0⟩ ]

/-- Registers of group `pmp2` (11_pumphouse_analog.md). -/
def regsPmp2 : List RegDef :=
  [ ⟨PMP_SAR_CFG, 4, 4, 0x8, 0x1E080, 0x1F7F, 0, 0, 0, 0, 0⟩,
    ⟨PMP_SAR_ROUTINE, 4, 4, 0, 0xFFFF001F, 0, 0, 0, 0, 0, 0⟩,
    ⟨PMP_EXC, 4, 4, 0, 0, 0xFFFFFF0F, 0, 0, 0, 0, 0⟩,
    ⟨PMP_EXC_STATUS, 1, 4, 0, 0, 0, 0, 0, 0, 0, 0⟩ ]

/-- Registers of group `pmp3` (11_pumphouse_analog.md). -/
def regsPmp3 : List RegDef :=
  [ ⟨PMP_IN_CFG, 28, 4, 0, 0x4, 0x3B, 0, 0, 0, 0, 0⟩,
    ⟨PMP_WIRE_LIM, 28, 4, 0xFFFF000A, 0xFFFFFFFF, 0, 0, 0, 0, 0, 0⟩,
    ⟨PMP_WIRE_Z, 28, 4, 0, 0, 0, 0, 0, 0, 0, 0⟩,
    ⟨PMP_LIN_C_00, 8, 64, 0, 0xFFFFFFFF, 0, 0, 0, 0, 0, 0⟩,
    ⟨PMP_LIN_C_01, 8, 64, 0, 0xFFFFFFFF, 0, 0, 0, 0, 0, 0⟩,
    ⟨PMP_LIN_C_02, 8, 64, 0, 0xFFFFFFFF, 0, 0, 0, 0, 0, 0⟩,
    ⟨PMP_LIN_C_10, 8, 64, 0x1000000, 0xFFFFFFFF, 0, 0, 0, 0, 0, 0⟩,
    ⟨PMP_LIN_C_11, 8, 64, 0, 0xFFFFFFFF, 0, 0, 0, 0, 0, 0⟩,
    ⟨PMP_LIN_C_12, 8, 64, 0, 0xFFFFFFFF, 0, 0, 0, 0, 0, 0⟩,
    ⟨PMP_LIN_C_20, 8, 64, 0, 0xFFFFFFFF, 0, 0, 0, 0, 0, 0⟩,
    ⟨PMP_LIN_C_21, 8, 64, 0, 0xFFFFFFFF, 0, 0, 0, 0, 0, 0⟩,
    ⟨PMP_LIN_C_22, 8, 64, 0, 0xFFFFFFFF, 0, 0, 0, 0, 0, 0⟩,
    ⟨PMP_LIN_C_30, 8, 64, 0, 0xFFFFFFFF, 0, 0, 0, 0, 0, 0⟩,
    ⟨PMP_LIN_C_31, 8, 64, 0, 0xFFFFFFFF, 0, 0, 0, 0, 0, 0⟩,
    ⟨PMP_LIN_C_32, 8, 64, 0, 0xFFFFFFFF, 0, 0, 0, 0, 0, 0⟩,
    ⟨PMP_LIN_CFG, 8, 64, 0, 0x7, 0, 0, 0, 0, 0, 0⟩ ]

/-- Registers of group `csc` (12_cascade_filters.md). -/
def regsCsc : List RegDef :=
  [ ⟨CSC_CTRL, 1, 4, 0, 0x1, 0, 0, 0, 0, 0, 0⟩,
    ⟨CSC_OVR, 1, 4, 0, 0, 0, 0, 0xFFFF, 0, 0, 0⟩,
    ⟨CSC_DROP, 1, 4, 0, 0, 0, 0, 0xFFFF, 0, 0, 0⟩,
    ⟨CSC_ENV_HI, 1, 4, 0, 0, 0, 0, 0xFFFF, 0, 0, 0⟩,
    ⟨CSC_SRC_CONFLICT, 1, 4, 0, 0, 0, 0, 0, 0, 0, 0⟩,
    ⟨CSC_CH_CFG, 16, 32, 0x1F000000, 0x1F00033F, 0, 0, 0, 0, 0, 0⟩,
    ⟨CSC_DET_CFG, 16, 32, 0x8000608, 0xF0F0F0F, 0, 0, 0, 0, 0, 0⟩,
    ⟨CSC_ENV_THR, 16, 32, 0x7FFFFF, 0xFFFFFF, 0, 0, 0, 0, 0, 0⟩,
    ⟨CSC_CH_STATUS, 16, 32, 0, 0, 0, 0, 0, 0, 0, 0⟩,
    ⟨CSC_PEAK_MAX, 16, 32, 0, 0, 0, 0, 0, 0, 0, 0⟩,
    ⟨CSC_PEAK_MIN, 16, 32, 0, 0, 0, 0, 0, 0, 0, 0⟩,
    ⟨CSC_RMS, 16, 32, 0, 0, 0, 0, 0, 0, 0, 0⟩,
    ⟨CSC_ENV, 16, 32, 0, 0, 0, 0, 0, 0, 0, 0⟩ ]

/-- Registers of group `blv0` (13_belvedere_capture.md). -/
def regsBlv0 : List RegDef :=
  [ ⟨BLV_CTRL, 1, 4, 0, 0x1FFF8F8, 0, 0, 0, 0x7, 0, 0⟩,
    ⟨BLV_STATUS, 1, 4, 0, 0, 0, 0, 0, 0, 0, 0⟩,
    ⟨BLV_CAPTURE_NUM, 1, 4, 0, 0, 0, 0, 0, 0, 0, 0⟩,
    ⟨BLV_MISSED_CNT, 1, 4, 0, 0, 0, 0, 0, 0, 0, 0⟩,
    ⟨BLV_TRIG_CNT, 1, 4, 0, 0, 0, 0, 0, 0, 0, 0⟩,
    ⟨BLV_DUMP_BASE, 1, 4, 0, 0x7FF000, 0, 0, 0, 0, 0, 0⟩,
    ⟨BLV_RD_ADDR, 1, 4, 0, 0xFFFFC, 0, 0, 0, 0, 0, 0⟩,
    ⟨BLV_RD_DATA, 1, 4, 0, 0, 0, 0, 0, 0, 0, 0⟩ ]

/-- Registers of group `blv1` (13_belvedere_capture.md). -/
def regsBlv1 : List RegDef :=
  [ ⟨BLV_TRACE, 4, 8, 0, 0x81F000FF, 0, 0, 0, 0, 0, 0⟩,
    ⟨BLV_POST, 4, 8, 0, 0x1FFFF, 0, 0, 0, 0, 0, 0⟩,
    ⟨BLV_TU_CFG, 4, 32, 0, 0x303FF, 0, 0, 0, 0, 0, 0⟩,
    ⟨BLV_TU_L1, 4, 32, 0, 0xFFFFFF, 0, 0, 0, 0, 0, 0⟩,
    ⟨BLV_TU_L2, 4, 32, 0, 0xFFFFFF, 0, 0, 0, 0, 0, 0⟩,
    ⟨BLV_TU_HYST, 4, 32, 0, 0x7FFFFF, 0, 0, 0, 0, 0, 0⟩,
    ⟨BLV_TU_T1, 4, 32, 0, 0xFFFFFFFF, 0, 0, 0, 0, 0, 0⟩,
    ⟨BLV_TU_T2, 4, 32, 0, 0xFFFFFFFF, 0, 0, 0, 0, 0, 0⟩ ]

/-- Registers of group `blv2` (13_belvedere_capture.md). -/
def regsBlv2 : List RegDef :=
  [ ⟨BLV_MASK_CFG, 16, 32, 0, 0x80000003, 0, 0, 0, 0, 0, 0⟩,
    ⟨BLV_MASK_T0, 16, 32, 0, 0xFFFFFFFF, 0, 0, 0, 0, 0, 0⟩,
    ⟨BLV_MASK_T1, 16, 32, 0, 0xFFFFFFFF, 0, 0, 0, 0, 0, 0⟩,
    ⟨BLV_MASK_LO, 16, 32, 0, 0xFFFFFF, 0, 0, 0, 0, 0, 0⟩,
    ⟨BLV_MASK_HI, 16, 32, 0, 0xFFFFFF, 0, 0, 0, 0, 0, 0⟩ ]

/-- Registers of group `blv3` (13_belvedere_capture.md). -/
def regsBlv3 : List RegDef :=
  [ ⟨BLV_MASK_PASS, 1, 4, 0, 0, 0, 0, 0, 0, 0, 0⟩,
    ⟨BLV_MASK_FAIL, 1, 4, 0, 0, 0, 0, 0, 0, 0, 0⟩,
    ⟨BLV_SEG_FAIL, 16, 4, 0, 0, 0, 0, 0, 0, 0, 0⟩,
    ⟨BLV_FAIL_SEG, 1, 4, 0, 0, 0, 0, 0, 0, 0, 0⟩ ]

/-- Registers of group `pgl` (14_pergola_dsp.md). -/
def regsPgl : List RegDef :=
  [ ⟨PGL_CTRL, 1, 4, 0, 0x1D, 0, 0, 0, 0, 0, 0⟩,
    ⟨PGL_ENTRY, 1, 4, 0, 0xFFFF, 0, 0, 0, 0, 0, 0⟩,
    ⟨PGL_STATUS, 1, 4, 0x1, 0, 0, 0, 0x700, 0, 0, 0⟩,
    ⟨PGL_PC, 1, 4, 0, 0, 0, 0, 0, 0, 0, 0⟩,
    ⟨PGL_TRAP, 1, 4, 0, 0, 0, 0, 0, 0, 0, 0⟩,
    ⟨PGL_QUEUE, 1, 4, 0, 0, 0, 0, 0, 0, 0, 0⟩,
    ⟨PGL_SLOT_INSTR_LAST, 1, 4, 0, 0, 0, 0, 0, 0, 0, 0⟩,
    ⟨PGL_SLOT_INSTR_MAX, 1, 4, 0, 0, 0, 0, 0, 0, 0, 0xFFFFFF⟩,
    ⟨PGL_INSTR_CNT, 1, 4, 0, 0, 0, 0, 0, 0, 0, 0⟩,
    ⟨PGL_DISCARD, 1, 4, 0, 0, 0, 0, 0, 0, 0, 0⟩,
    ⟨PGL_HOLD_CNT, 1, 4, 0, 0, 0, 0, 0, 0, 0, 0⟩,
    ⟨PGL_SEND_CNT, 1, 4, 0, 0, 0, 0, 0, 0, 0, 0⟩,
    ⟨PGL_ECC_CORR, 1, 4, 0, 0, 0, 0, 0, 0, 0, 0⟩ ]

/-- Registers of group `pglFirst` (14_pergola_dsp.md). -/
def regsPglFirst : List RegDef :=
  [ ⟨PGL_BED_MAP_0, 1, 4, 0x6D2240, 0xFFFFFF, 0, 0, 0, 0, 0, 0⟩,
    ⟨PGL_BED_MAP_1, 1, 4, 0xFF6B64, 0xFFFFFF, 0, 0, 0, 0, 0, 0⟩,
    ⟨PGL_LOAD_SRC, 1, 4, 0, 0x7FF000, 0, 0, 0, 0, 0, 0⟩,
    ⟨PGL_LOAD_CTRL, 1, 4, 0, 0, 0, 0, 0, 0, 0x1, 0⟩,
    ⟨PGL_LOAD_STATUS, 1, 4, 0, 0, 0, 0, 0, 0, 0, 0⟩,
    ⟨PGL_CODE_VERSION, 1, 4, 0, 0, 0, 0, 0, 0, 0, 0⟩,
    ⟨PGL_UNMAPPED, 1, 4, 0, 0, 0, 0, 0, 0, 0, 0⟩,
    ⟨PGL_CODE_WR_IGN, 1, 4, 0, 0, 0, 0, 0, 0, 0, 0⟩,
    ⟨PGL_RESERVE, 1, 4, 0, 0, 0, 0, 0, 0, 0, 0⟩ ]

/-- Registers of group `dma` (15_dma.md). -/
def regsDma : List RegDef :=
  [ ⟨DMA_CTRL, 1, 4, 0, 0x3FE01, 0, 0, 0, 0, 0, 0⟩,
    ⟨DMA_HEAD, 1, 4, 0, 0x7FFFE0, 0, 0, 0, 0, 0, 0⟩,
    ⟨DMA_STATUS, 1, 4, 0, 0, 0, 0, 0, 0, 0, 0⟩,
    ⟨DMA_CUR_DESC, 1, 4, 0, 0, 0, 0, 0, 0, 0, 0⟩,
    ⟨DMA_FAIL_ADDR, 1, 4, 0, 0, 0, 0, 0, 0, 0, 0⟩,
    ⟨DMA_COUNT_REM, 1, 4, 0, 0, 0, 0, 0, 0, 0, 0⟩,
    ⟨DMA_RING_BASE, 1, 4, 0, 0x7FFFE0, 0, 0, 0, 0, 0, 0⟩,
    ⟨DMA_RING_CFG, 1, 4, 0x1000, 0xFFFFE1, 0, 0, 0, 0, 0, 0⟩,
    ⟨DMA_WR_PTR, 1, 4, 0, 0, 0, 0, 0, 0, 0, 0⟩,
    ⟨DMA_RD_PTR, 1, 4, 0, 0x7FFFFF, 0, 0, 0, 0, 0, 0⟩,
    ⟨DMA_RETRY_CNT, 1, 4, 0, 0, 0, 0, 0, 0, 0, 0⟩,
    ⟨DMA_DISCARD, 1, 4, 0, 0, 0, 0, 0, 0, 0, 0⟩,
    ⟨DMA_RING_OVW, 1, 4, 0, 0, 0, 0, 0, 0, 0, 0⟩,
    ⟨DMA_RING_RESET, 1, 4, 0, 0, 0, 0, 0, 0, 0, 0⟩,
    ⟨DMA_PTR_REJECT, 1, 4, 0, 0, 0, 0, 0, 0, 0, 0⟩ ]

/-- Registers of group `dmaCommon` (15_dma.md). -/
def regsDmaCommon : List RegDef :=
  [ ⟨DMA_COMMON_CTRL, 1, 4, 0x1, 0x1, 0, 0, 0, 0, 0, 0⟩,
    ⟨DMA_HALTED, 1, 4, 0, 0, 0, 0, 0, 0, 0, 0⟩,
    ⟨DMA_ACTIVE, 1, 4, 0, 0, 0, 0, 0, 0, 0, 0⟩ ]

/-- Registers of group `ldg0` (16_lodge_safety.md). -/
def regsLdg0 : List RegDef :=
  [ ⟨LDG_CTRL, 1, 4, 0x10, 0, 0x1F0377F1, 0, 0, 0, 0, 0⟩,
    ⟨LDG_SECTOR_A0, 1, 4, 0, 0, 0xFFFFFFFF, 0, 0, 0, 0, 0⟩,
    ⟨LDG_SECTOR_PITCH, 1, 4, 0, 0, 0xFFFFFFFF, 0, 0, 0, 0, 0⟩,
    ⟨LDG_SCAN_CFG, 1, 4, 0x1F40190, 0, 0xFFFFFFFF, 0, 0, 0, 0, 0⟩,
    ⟨LDG_FS_BASE, 1, 4, 0, 0, 0x7E0000, 0, 0, 0, 0, 0⟩,
    ⟨LDG_FS_VALID, 1, 4, 0, 0, 0xFFFFFFFF, 0, 0, 0, 0, 0⟩,
    ⟨LDG_CONTAM, 1, 4, 0x32140100, 0, 0xFFFFFFFF, 0, 0, 0, 0, 0⟩,
    ⟨LDG_STATUS, 1, 4, 0, 0, 0, 0, 0, 0, 0, 0⟩,
    ⟨LDG_FAULT, 1, 4, 0, 0, 0, 0, 0xF0000, 0, 0, 0⟩,
    ⟨LDG_CFG_CRC, 1, 4, 0, 0, 0, 0, 0, 0, 0, 0⟩,
    ⟨LDG_WINDOW_DROP, 1, 4, 0, 0, 0, 0, 0, 0, 0, 0⟩,
    ⟨LDG_OFF_CNT, 1, 4, 0, 0, 0, 0, 0, 0, 0, 0⟩,
    ⟨LDG_SWITCH_CNT, 1, 4, 0, 0, 0, 0, 0, 0, 0, 0⟩,
    ⟨LDG_CMP_CNT, 1, 4, 0, 0, 0, 0, 0, 0, 0, 0⟩ ]

/-- Registers of group `ldg1` (16_lodge_safety.md). -/
def regsLdg1 : List RegDef :=
  [ ⟨LDG_FS_CRC_A, 32, 4, 0, 0, 0xFFFFFFFF, 0, 0, 0, 0, 0⟩,
    ⟨LDG_FS_CRC_B0, 32, 4, 0, 0, 0xFFFFFFFF, 0, 0, 0, 0, 0⟩,
    ⟨LDG_FS_CRC_B1, 32, 4, 0, 0, 0xFFFFFFFF, 0, 0, 0, 0, 0⟩ ]

/-- Registers of group `ldg2` (16_lodge_safety.md). -/
def regsLdg2 : List RegDef :=
  [ ⟨LDG_NET_CFG, 1, 4, 0xC80, 0, 0xFFFFFFC1, 0, 0, 0, 0, 0⟩,
    ⟨LDG_OWN_MAC_LO, 1, 4, 0, 0, 0xFFFFFFFF, 0, 0, 0, 0, 0⟩,
    ⟨LDG_OWN_MAC_HI, 1, 4, 0, 0, 0xFFFFFFFF, 0, 0, 0, 0, 0⟩,
    ⟨LDG_PEER_MAC_LO, 1, 4, 0, 0, 0xFFFFFFFF, 0, 0, 0, 0, 0⟩,
    ⟨LDG_PEER_MAC_HI, 1, 4, 0, 0, 0xFFFFFFFF, 0, 0, 0, 0, 0⟩,
    ⟨LDG_NET_STATUS, 1, 4, 0, 0, 0, 0, 0, 0, 0, 0⟩,
    ⟨LDG_TX_COUNTER, 1, 4, 0, 0, 0, 0, 0, 0, 0, 0⟩,
    ⟨LDG_RX_COUNTER, 1, 4, 0, 0, 0, 0, 0, 0, 0, 0⟩,
    ⟨LDG_RX_CMD, 1, 4, 0, 0, 0, 0, 0, 0, 0, 0⟩,
    ⟨LDG_RX_OK, 1, 4, 0, 0, 0, 0, 0, 0, 0, 0⟩,
    ⟨LDG_RX_REJ_A, 1, 4, 0, 0, 0, 0, 0, 0, 0, 0⟩,
    ⟨LDG_RX_REJ_B, 1, 4, 0, 0, 0, 0, 0, 0, 0, 0⟩,
    ⟨LDG_RX_MISMATCH, 1, 4, 0, 0, 0, 0, 0, 0, 0, 0⟩,
    ⟨LDG_WD_CNT, 1, 4, 0, 0, 0, 0, 0, 0, 0, 0⟩ ]

/-- Registers of group `ldg3` (16_lodge_safety.md). -/
def regsLdg3 : List RegDef :=
  [ ⟨LDG_SIN_CFG, 8, 4, 0x140320, 0, 0x1FF0F7F, 0, 0, 0, 0, 0⟩,
    ⟨LDG_SIN_STATE, 1, 4, 0, 0, 0, 0, 0, 0, 0, 0⟩,
    ⟨LDG_OSSD_STATUS, 1, 4, 0, 0, 0, 0, 0, 0, 0, 0⟩,
    ⟨LDG_CHB_STATUS, 1, 4, 0, 0, 0, 0, 0, 0, 0, 0xFFFF0000⟩,
    ⟨LDG_LAST_SLOT, 1, 4, 0, 0, 0, 0, 0, 0, 0, 0⟩ ]

/-- Registers of group `cal` (17_calibration.md). -/
def regsCal : List RegDef :=
  [ ⟨CAL_CTRL, 1, 4, 0, 0x139, 0, 0, 0, 0x6, 0, 0⟩,
    ⟨CAL_CDT_CFG, 1, 4, 0x7003C, 0x3F0F0FFF, 0, 0, 0, 0, 0, 0⟩,
    ⟨CAL_SCHED, 1, 4, 0x1F4, 0xFFFF, 0, 0, 0, 0, 0, 0⟩,
    ⟨CAL_STATUS, 1, 4, 0, 0, 0, 0, 0, 0, 0, 0⟩,
    ⟨CAL_CH_FAIL, 1, 4, 0, 0, 0, 0, 0, 0, 0, 0⟩,
    ⟨CAL_COUNT, 1, 4, 0, 0, 0, 0, 0, 0, 0, 0⟩,
    ⟨CAL_FAIL_CNT, 1, 4, 0, 0, 0, 0, 0, 0, 0, 0⟩,
    ⟨CAL_HOST_COLLIDE, 1, 4, 0, 0, 0, 0, 0, 0, 0, 0⟩,
    ⟨CAL_VBD, 4, 4, 0, 0, 0, 0, 0, 0, 0, 0⟩,
    ⟨CAL_BED, 64, 4, 0, 0, 0, 0, 0, 0, 0, 0⟩,
    ⟨CAL_SKEW, 512, 4, 0, 0, 0, 0, 0, 0, 0, 0⟩ ]

/-- Registers of group `thm` (18_thermal_otp.md). -/
def regsThm : List RegDef :=
  [ ⟨THM_CTRL, 1, 4, 0x6, 0x7, 0, 0, 0, 0, 0, 0⟩,
    ⟨THM_THROTTLE_CFG, 1, 4, 0xC000, 0xFF0F, 0, 0, 0, 0, 0, 0⟩,
    ⟨THM_PARK_MASK, 1, 4, 0xFF000000, 0xFFFFFFFF, 0, 0, 0, 0, 0, 0⟩,
    ⟨THM_STATUS, 1, 4, 0, 0, 0, 0, 0, 0, 0, 0⟩,
    ⟨THM_LEVEL, 1, 4, 0, 0, 0, 0, 0, 0, 0, 0⟩,
    ⟨THM_FAULT, 1, 4, 0, 0, 0, 0, 0, 0, 0, 0⟩,
    ⟨THM_THROTTLE_CNT, 1, 4, 0, 0, 0, 0, 0, 0, 0, 0⟩,
    ⟨THM_SHUT_CNT, 1, 4, 0, 0, 0, 0, 0, 0, 0, 0⟩,
    ⟨THM_TS_CFG, 8, 4, 0x10210, 0x7000000, 0x1FFF3, 0, 0, 0, 0, 0⟩,
    ⟨THM_NTC, 8, 4, 0xF6E03E8, 0, 0xFFFFFFFF, 0, 0, 0, 0, 0⟩,
    ⟨THM_READ, 14, 4, 0, 0, 0, 0, 0, 0, 0, 0⟩,
    ⟨THM_LIM_A, 14, 8, 0x4B0044C, 0xFFFFFFFF, 0, 0, 0, 0, 0, 0⟩,
    ⟨THM_LIM_B, 8, 8, 0x1E0514, 0xFFFFFFFF, 0, 0, 0, 0, 0, 0⟩,
    ⟨THM_LIM_B_S8, 6, 8, 0x1E0514, 0xFFFF0000, 0xFFFF, 0, 0, 0, 0, 0⟩ ]

/-- Registers of group `otp` (18_thermal_otp.md). -/
def regsOtp : List RegDef :=
  [ ⟨OTP_STATUS, 1, 4, 0, 0, 0, 0, 0, 0, 0, 0⟩,
    ⟨OTP_PROG_ADDR, 1, 4, 0, 0x1FFF, 0, 0, 0, 0, 0, 0⟩,
    ⟨OTP_RD_ADDR, 1, 4, 0, 0x1FFF, 0, 0, 0, 0, 0, 0⟩,
    ⟨OTP_PROG_DATA, 1, 4, 0, 0xFFFFFFFF, 0, 0, 0, 0, 0, 0⟩,
    ⟨OTP_PROG_CTRL, 1, 4, 0, 0, 0, 0, 0, 0, 0x1, 0⟩,
    ⟨OTP_PROG_STATUS, 1, 4, 0, 0, 0, 0, 0, 0, 0, 0⟩,
    ⟨OTP_RD_DATA, 1, 4, 0, 0, 0, 0, 0, 0, 0, 0⟩,
    ⟨OTP_ECC_CORR, 1, 4, 0, 0, 0, 0, 0, 0, 0, 0⟩,
    ⟨OTP_PROG_CNT, 1, 4, 0, 0, 0, 0, 0, 0, 0, 0⟩ ]

/-- Registers of group `sec` (19_security.md). -/
def regsSec : List RegDef :=
  [ ⟨SEC_STATUS, 1, 4, 0, 0, 0, 0, 0, 0, 0, 0⟩,
    ⟨SEC_BOOT_CTRL, 1, 4, 0, 0, 0, 0, 0, 0x1, 0, 0⟩,
    ⟨SEC_ATT_CTRL, 1, 4, 0, 0, 0, 0, 0, 0x1, 0, 0⟩,
    ⟨SEC_TOKEN_CTRL, 1, 4, 0, 0, 0, 0, 0, 0x1, 0, 0⟩,
    ⟨SEC_BOOT_STATUS, 1, 4, 0, 0, 0, 0, 0, 0, 0, 0⟩,
    ⟨SEC_IMG_MGMT, 1, 4, 0, 0x7FF001, 0, 0, 0, 0, 0, 0⟩,
    ⟨SEC_IMG_PGL, 4, 4, 0, 0x7FF001, 0, 0, 0, 0, 0, 0⟩,
    ⟨SEC_IMG_SAFE, 1, 4, 0, 0x7FF001, 0, 0, 0, 0, 0, 0⟩,
    ⟨SEC_KEYS, 1, 4, 0, 0, 0, 0, 0, 0, 0, 0⟩,
    ⟨SEC_VERIFY_LAST, 1, 4, 0, 0, 0, 0, 0, 0, 0, 0⟩,
    ⟨SEC_NONCE, 8, 4, 0, 0xFFFFFFFF, 0, 0, 0, 0, 0, 0⟩,
    ⟨SEC_ATT_STATUS, 1, 4, 0, 0, 0, 0, 0, 0, 0, 0⟩,
    ⟨SEC_RPT_ADDR, 1, 4, 0, 0x7FF, 0, 0, 0, 0, 0, 0⟩,
    ⟨SEC_RPT_DATA, 1, 4, 0, 0, 0, 0, 0, 0, 0, 0⟩,
    ⟨SEC_CHALLENGE, 4, 4, 0, 0, 0, 0, 0, 0, 0, 0⟩,
    ⟨SEC_TOKEN_ADDR, 1, 4, 0, 0x7FFFF8, 0, 0, 0, 0, 0, 0⟩,
    ⟨SEC_TOKEN_STATUS, 1, 4, 0, 0, 0, 0, 0, 0, 0, 0⟩,
    ⟨SEC_ID_NEXT, 1, 4, 0, 0, 0, 0, 0, 0, 0, 0⟩,
    ⟨SEC_ID_BLOCKS, 1, 4, 0, 0, 0, 0, 0, 0, 0, 0⟩,
    ⟨SEC_ATT_CNT, 1, 4, 0, 0, 0, 0, 0, 0, 0, 0⟩,
    ⟨SEC_TOKEN_REJ_CNT, 1, 4, 0, 0, 0, 0, 0, 0, 0, 0⟩,
    ⟨SEC_ID_PUB, 15, 4, 0, 0, 0, 0, 0, 0, 0, 0⟩ ]

/-- Registers of group `dev` (20_registers_events.md). -/
def regsDev : List RegDef :=
  [ ⟨DEV_DEVICE_ID, 1, 4, 0x2048B000, 0, 0, 0, 0, 0, 0, 0⟩,
    ⟨DEV_STATE, 1, 4, 0x2, 0, 0, 0, 0, 0, 0, 0⟩,
    ⟨DEV_FAULT_CAUSE, 1, 4, 0, 0, 0, 0, 0, 0, 0, 0⟩,
    ⟨DEV_PORT_STATUS, 1, 4, 0, 0, 0, 0, 0, 0, 0, 0⟩,
    ⟨DEV_BAD_ADDR, 1, 4, 0, 0, 0, 0, 0, 0, 0, 0⟩,
    ⟨DEV_BAD_CMD, 1, 4, 0, 0, 0, 0, 0, 0, 0, 0⟩,
    ⟨DEV_SCRATCH, 1, 4, 0, 0xFFFFFFFF, 0, 0, 0, 0, 0, 0⟩ ]

/-- Registers of group `evm` (20_registers_events.md). -/
def regsEvm : List RegDef :=
  [ ⟨EVM_PIN_CFG, 1, 4, 0, 0xF, 0, 0, 0, 0, 0, 0⟩,
    ⟨EVM_PIN_STATUS, 1, 4, 0, 0, 0, 0, 0, 0, 0, 0⟩,
    ⟨EVM_SOFT, 1, 4, 0, 0, 0, 0, 0, 0x1, 0, 0⟩,
    ⟨EVM_LOG_LEVEL, 1, 4, 0, 0, 0, 0, 0, 0, 0, 0⟩,
    ⟨EVM_LOG_POP, 1, 4, 0, 0, 0, 0, 0, 0, 0xFFFFFFFF, 0⟩,
    ⟨EVM_LOG_OVF, 1, 4, 0, 0, 0, 0, 0, 0, 0, 0⟩,
    ⟨EVM_PULSE_MERGE, 1, 4, 0, 0, 0, 0, 0, 0, 0, 0⟩,
    ⟨EVM_LOG_CTRL, 1, 4, 0, 0, 0, 0, 0, 0x1, 0, 0⟩,
    ⟨EVM_SUMMARY, 9, 4, 0, 0, 0, 0, 0, 0, 0, 0⟩,
    ⟨EVM_CNT_SEL, 16, 4, 0, 0x800001FF, 0, 0, 0, 0, 0, 0⟩,
    ⟨EVM_CNT, 16, 4, 0, 0xFFFFFFFF, 0, 0, 0, 0, 0, 0⟩,
    ⟨EVM_ROUTE, 256, 4, 0x8, 0x1F, 0, 0, 0, 0, 0, 0⟩,
    ⟨EVM_ROUTE_256, 24, 4, 0, 0x13, 0, 0, 0, 0, 0, 0⟩,
    ⟨EVM_ROUTE_280, 8, 4, 0x8, 0x1F, 0, 0, 0, 0, 0, 0⟩ ]

/-- Registers of group `pwr` (21_power_startup.md). -/
def regsPwr : List RegDef :=
  [ ⟨PWR_STATE_REQ, 1, 4, 0, 0, 0, 0, 0, 0, 0x7, 0⟩,
    ⟨PWR_REQ_STATUS, 1, 4, 0, 0, 0, 0, 0, 0, 0, 0⟩,
    ⟨PWR_STATUS, 1, 4, 0x108, 0, 0, 0, 0x10, 0, 0, 0⟩,
    ⟨PWR_SUPPLY_FLAG, 1, 4, 0, 0, 0, 0, 0xFF, 0, 0, 0⟩,
    ⟨PWR_GATE_CTRL, 1, 4, 0, 0x10F0F, 0, 0, 0, 0, 0, 0⟩,
    ⟨PWR_GATE_STATUS, 1, 4, 0, 0, 0, 0, 0, 0, 0, 0⟩,
    ⟨PWR_GATE_ERR, 1, 4, 0, 0, 0, 0, 0, 0, 0, 0⟩,
    ⟨PWR_RESET_CAUSE, 1, 4, 0x1, 0, 0, 0, 0, 0, 0, 0⟩,
    ⟨PWR_RESET_CTRL, 1, 4, 0, 0, 0, 0, 0, 0, 0xFFFF0001, 0⟩,
    ⟨PWR_UNLOCK_CNT, 1, 4, 0, 0, 0, 0, 0, 0, 0, 0⟩,
    ⟨PWR_SUPPLY_CNT, 1, 4, 0, 0, 0, 0, 0, 0, 0, 0⟩,
    ⟨PWR_GATE_CNT, 1, 4, 0, 0, 0, 0, 0, 0, 0, 0⟩,
    ⟨PWR_LANE_DISCARD, 1, 4, 0, 0, 0, 0, 0, 0, 0, 0⟩ ]

/-- Registers of group `dbg` (23_debug_test.md). -/
def regsDbg : List RegDef :=
  [ ⟨DBG_STATUS, 1, 4, 0x100, 0, 0, 0, 0, 0, 0, 0⟩,
    ⟨DBG_ATEST_SEL, 1, 4, 0, 0xFFFFFFFF, 0, 0, 0, 0, 0, 0⟩,
    ⟨DBG_DTEST, 16, 4, 0, 0x800003FF, 0, 0, 0, 0, 0, 0⟩,
    ⟨DBG_MEM_ADDR, 1, 4, 0, 0xFFFFFFFF, 0, 0, 0, 0, 0, 0⟩,
    ⟨DBG_MEM_DATA, 1, 4, 0, 0, 0, 0, 0, 0, 0, 0⟩,
    ⟨DBG_LOCKED_CNT, 1, 4, 0, 0, 0, 0, 0, 0, 0, 0⟩ ]

/-- The default of EVM.ROUTE_n (R450, Table 20-4): logged and on EVT0_L, on EVT1_L, or not routed;
sources 256 to 279 have no page bits and are 0. -/
def routeReset (n : Nat) : Word :=
  if 256 ≤ n && n < 280 then 0
  else if [1, 2, 6, 7, 15, 29, 30, 209, 216, 217].contains n
      || (32 ≤ n && n < 64 && n % 8 == 6)
      || (160 ≤ n && n < 192 && n % 4 == 0) then 0xC
  else if [11, 14, 20, 21, 24, 25, 27, 28, 199, 200, 201, 202, 204, 207, 213, 214, 220,
           235, 240, 254, 280].contains n
      || (32 ≤ n && n < 64 && n % 8 == 7)
      || (96 ≤ n && n < 128 && n % 8 == 4)
      || (128 ≤ n && n < 160 && (n % 8 == 0 || n % 8 == 6))
      || (227 ≤ n && n ≤ 232) then 0xD
  else 8

/-- The registers that page `p` defines beside the common ones (Table 20-2, R129, R242, R323, R78). -/
def pageRegs (p : Nat) : List RegDef :=
  if p == 0x00 then regsDev
  else if p == 0x01 then regsPwr
  else if p == 0x02 then regsEvm
  else if p == 0x03 then regsDtb
  else if p == 0x04 then regsSec
  else if p == 0x05 then regsOtp
  else if p == 0x06 then regsThm
  else if p == 0x07 then regsCal
  else if p < 0x0C then regsMdw
  else if p < 0x10 then regsTrl
  else if p < 0x50 then if p % 16 == 0 then regsSdl ++ regsSdlRef else regsSdl
  else if p < 0x54 then regsOrg
  else if p < 0x58 then if p == 0x54 then regsGzb ++ regsGzb54 else regsGzb
  else if p < 0x78 then if p % 8 == 0 then regsPgl ++ regsPglFirst else regsPgl
  else if p < 0x82 then regsPrmLane
  else if p == 0x82 then regsPrmLink
  else if p == 0x83 then regsBndSeq
  else if p == 0x84 then regsBndDrv
  else if p == 0x85 then regsGth
  else if p < 0x8E then if p < 0x88 then regsFtn ++ regsFtnAng else regsFtn
  else if p == 0x8E then regsPmp0
  else if p == 0x8F then regsPmp1
  else if p == 0x90 then regsPmp2
  else if p == 0x91 then regsPmp3
  else if p == 0x92 then regsCsc
  else if p == 0x93 then regsBlv0
  else if p == 0x94 then regsBlv1
  else if p == 0x95 then regsBlv2
  else if p == 0x96 then regsBlv3
  else if p < 0xAF then regsDma
  else if p == 0xAF then regsDmaCommon
  else if p == 0xB0 then regsLdg0
  else if p == 0xB1 then regsLdg1
  else if p == 0xB2 then regsLdg2
  else if p == 0xB3 then regsLdg3
  else if p == 0xB4 then regsDbg
  else []

/-- Whether register definition `r` covers byte offset `off`. -/
def RegDef.covers (r : RegDef) (off : Nat) : Bool :=
  r.off ≤ off && (off - r.off) % r.step == 0 && (off - r.off) / r.step < r.count

/-- The definition that covers `off` in a page's list. -/
def findReg : List RegDef → Nat → Option RegDef
  | [], _ => none
  | r :: rs, off => if r.covers off then some r else findReg rs off

/-- The definition of the register at byte offset `off` of page `p`, the page's own registers only. -/
def regDef (p off : Nat) : Option RegDef := findReg (pageRegs p) off

/-- The common registers that hold state (Register interface and event sources, Pages). -/
abbrev EVENT_RAW : Nat := 0x00C
abbrev EVENT_MASK : Nat := 0x010
abbrev EVENT_PENDING : Nat := 0x014
abbrev PAGE_LOCK : Nat := 0x018
abbrev MBX_SELECT : Nat := 0xF00
abbrev MBX_CTRL : Nat := 0xF04
abbrev MBX_DATA : Nat := 0xF08

/-- What the register at `off` of page `p` holds after reset: its table's reset value, the variant's
value where the table gives one per variant, 0 where it is loaded from OTP at boot (log entry 5). -/
def resetReg (v : Variant) (p off : Nat) : Word :=
  if off == EVENT_MASK then 0xFFFFFFFF
  else if p == 0x00 && off == DEV_DEVICE_ID then 0x2048B000 ||| BitVec.ofNat 32 v.code
  else if p == 0x02 && 0x100 ≤ off && off < 0x580 && off % 4 == 0 then routeReset ((off - 0x100) / 4)
  else if (p == 0x80 || p == 0x81) && off == PRM_LANE_CTRL && v != .is then 0x2
  else if p == 0x70 && off == PGL_RESERVE && v == .is then 1
  else if p == 0xB4 && off == DBG_STATUS && v == .dv then 0x107
  else if p == 0x04 && off == SEC_STATUS && v == .dv then 0x8
  else match regDef p off with
    | some r => r.reset
    | none => 0

/-- Key of the register at `off` of page `p` in the register file: its offset from 0x4000_0000. -/
def regKey (p off : Nat) : Nat := p * 0x1000 + off

/-- What a key of the register file that holds no entry reads as. -/
def resetKey (v : Variant) (k : Nat) : Word := resetReg v (k / 0x1000) (k % 0x1000)

/-- Block code of a page (Table 20-2). -/
def pageBlock (p : Nat) : Nat :=
  if p < 0x08 then p + 1
  else if p < 0x0C then 0x10 else if p < 0x10 then 0x11 else if p < 0x50 then 0x12
  else if p < 0x54 then 0x13 else if p < 0x58 then 0x14 else if p < 0x78 then 0x15
  else if p < 0x83 then 0x16 else if p < 0x85 then 0x20 else if p == 0x85 then 0x21
  else if p < 0x8E then 0x22 else if p < 0x92 then 0x30 else if p == 0x92 then 0x31
  else if p < 0x97 then 0x32 else if p < 0xB0 then 0x33 else if p < 0xB4 then 0x23 else 0x3F

/-- Instance of a page within its block (Table 20-2). -/
def pageInstance (p : Nat) : Nat :=
  if p < 0x08 then 0
  else if p < 0x0C then p - 0x08 else if p < 0x10 then p - 0x0C else if p < 0x50 then p - 0x10
  else if p < 0x54 then p - 0x50 else if p < 0x58 then p - 0x54 else if p < 0x78 then p - 0x58
  else if p < 0x83 then p - 0x78 else if p < 0x85 then p - 0x83 else if p == 0x85 then 0
  else if p < 0x8E then p - 0x86 else if p < 0x92 then p - 0x8E else if p == 0x92 then 0
  else if p < 0x97 then p - 0x93 else if p < 0xB0 then p - 0x97 else if p < 0xB4 then p - 0xB0 else 0

/-- The power domain whose gating makes page `p` unpowered (Table 20-2): 0 to 3 a terrace, 4 to 7 a
Pergola group, 8 the lane cluster, none for a page that is never gated. -/
def pageDomain (p : Nat) : Option Nat :=
  if p < 0x08 then none
  else if p < 0x0C then some (p - 0x08) else if p < 0x10 then some (p - 0x0C)
  else if p < 0x50 then some ((p - 0x10) / 16) else if p < 0x54 then some (p - 0x50)
  else if p < 0x58 then some (p - 0x54) else if p < 0x78 then some (4 + (p - 0x58) / 8)
  else if p < 0x83 then some 8 else none

/-- The data-plane pages, writes to which set CFG_TOUCHED (R35). -/
def isDataPlane (p : Nat) : Bool := 0x08 ≤ p && p ≤ 0x77

/-- Offsets 0x080 to 0x08C of page 0x54, which no gating touches (R129, R443). -/
def isUngatedOffset (p off : Nat) : Bool := p == 0x54 && 0x080 ≤ off && off ≤ 0x08C

end Sys2Proof.Machine
end

