-- ==== Sys2Proof/Machine/SMap.lean ====
section
/-! DEFINITION. Sparse maps from a natural-number key, in one canonical form: keys strictly rising
and no entry equal to what an unlisted key reads as. Every large array of the machine (the register
file, shared SRAM, histogram and zoom counters, Pergola memories, OTP) is held in this form, so that
equal contents are equal data. -/
namespace Sys2Proof.Machine

/-- A sparse map: key and value pairs. -/
abbrev SMap (α : Type) := List (Nat × α)

/-- What key `k` reads as; an unlisted key reads as `dv`. -/
def SMap.get {α : Type} (dv : α) : SMap α → Nat → α
  | [], _ => dv
  | (k', v) :: m, k => if k = k' then v else SMap.get dv m k

/-- Remove what is listed for key `k`. -/
def SMap.erase {α : Type} : SMap α → Nat → SMap α
  | [], _ => []
  | (k', v) :: m, k => if k' = k then SMap.erase m k else (k', v) :: SMap.erase m k

/-- Insert or replace the entry of key `k`, keeping the keys in rising order. -/
def SMap.insert {α : Type} : SMap α → Nat → α → SMap α
  | [], k, v => [(k, v)]
  | (k', v') :: m, k, v =>
    if k < k' then (k, v) :: (k', v') :: m
    else if k = k' then (k, v) :: m
    else (k', v') :: SMap.insert m k v

/-- Write `v` at `k`; writing what the unlisted key reads as removes the entry. -/
def SMap.put {α : Type} [DecidableEq α] (dv : α) (m : SMap α) (k : Nat) (v : α) : SMap α :=
  if v = dv then SMap.erase m k else SMap.insert m k v

/-- Remove every entry whose key `p` selects (a clear of a whole region). -/
def SMap.drop {α : Type} (m : SMap α) (p : Nat → Bool) : SMap α :=
  m.filter (fun e => !p e.1)

/-- Every key of the map is greater than `k`. -/
def SMap.above {α : Type} (k : Nat) : SMap α → Bool
  | [] => true
  | (k', _) :: m => k < k' && SMap.above k m

/-- The canonical form: keys strictly rising, no entry equal to what its unlisted key reads as. -/
def SMap.wf {α : Type} [DecidableEq α] (dv : Nat → α) : SMap α → Bool
  | [] => true
  | (k, v) :: m => SMap.above k m && v != dv k && SMap.wf dv m

end Sys2Proof.Machine
end

