-- ==== Sys2Proof/Machine/State.lean ====
section
/-! DEFINITION. The state of the LZ2048: every register, FIFO, buffer, counter, mode and pin the spec
gives the block, as plain data, with the queue of commands that wait. Registers live in ONE sparse map,
`Dev.regs`, keyed by byte offset from 0x4000_0000; a field below holds only state that no register shows.
Times are in LSB of 12.5 ps. A per-instance array is a sparse map from the instance number whose
unlisted entries read as the default record. -/
namespace Sys2Proof.Machine
/-! ### Event matrix, ports and mailboxes (Register interface and event sources) -/

/-- One entry of the event log (R449): sequence number, device time of the raise, source, page, bit. -/
structure LogEntry where
  seq : Nat
  time : Nat
  src : Nat
  page : Nat
  bit : Nat
deriving DecidableEq, Repr

/-- A Promenade marker that waits for egress space (R448): source, slot number and device time of the pulse. -/
structure Marker where
  src : Nat
  slot : Nat
  time : Nat
deriving DecidableEq, Repr

/-- The event matrix beside its registers: the log, oldest entry first; the next sequence number;
the sources that have pulsed in the present step (R444); the marker queue, 16 deep, and the pulses
that wait unaccepted behind it (R446, R448). -/
structure Evm where
  log : List LogEntry := []
  seq : Nat := 0
  pulsed : List Nat := []
  markers : List Marker := []
  waiting : List Marker := []
deriving DecidableEq, Repr

/-- One initiator's mailbox in one page (R440); `due`: a selection waits for its snapshot. -/
structure Mailbox where
  sel : Nat := 0
  due : Bool := false
  valid : Bool := false
  data : List Word := []
deriving DecidableEq, Repr

/-- What the ports show outside: the words that the last read on each port returned, and the host
ports' own state (R435, R436). `readOut` is the model's own record of an output. -/
structure Ports where
  ctrlOut : List Word := []
  mgmtOut : List Word := []
deriving DecidableEq, Repr

/-! ### Detector tier and routing (Meadow, Trellis) -/

/-- One SPAD cell: when its dead time ends, its run of avalanches right after dead time (R39), latched off. -/
structure Cell where
  deadEnd : Nat := 0
  run : Nat := 0
  latched : Bool := false
deriving DecidableEq, Repr

/-- Blanking state of one terrace (R44, R46): since when the present low interval is timed with EN = 1, whether
MDW_BLANK_LONG was raised for it; the start of the first coarse period that the present low interval touches; the low intervals
that are over, oldest first, each from the start of the first period it touches to the end of the last; EN and POST by the coarse
period from which they apply, newest first; the time not yet carried into BLANK_TIME, and the slot's blanked gate time, in LSB. -/
structure Blank where
  lowSince : Option Nat := none
  longRaised : Bool := false
  openFrom : Option Nat := none
  lows : List (Nat × Nat) := []
  conf : List (Nat × Bool × Nat) := []
  remainder : Nat := 0
  slotSum : Nat := 0
deriving DecidableEq, Repr

/-- Trellis state of one channel inside an open gate: the route after its hops if any moved it,
the blind windows being run (start, old route, new route), whether a hop was clipped in this gate, the
number of hops of the lag table already passed in this gate. -/
structure Hop where
  route : Option Nat := none
  blinds : List (Nat × Nat × Nat) := []
  clipped : Bool := false
  done : Nat := 0
deriving DecidableEq, Repr

/-- A bank gate's settings as Meadow has read them (R42, R43): opening and closing time, gated arming, its lead. -/
structure GateSet where
  opens : Nat
  closes : Nat
  gated : Bool
  lead : Nat
deriving DecidableEq, Repr

/-- One bank of the shot in progress: scheduled; fire command's time and device time and whether it
has passed; whether any segment fired; the gate's settings once they have been read (R42); gate open; settings already read for the next shot; the
arming mode that the latest arming decision took; armed since (R43); the START window open, its accepted delay, the S_b delays
fixed for recent shots by fire device time (R67, R69); per slot: shots whose gate opened, smallest and
largest s, a START_LOST shot. -/
structure Bank where
  sched : Bool := false
  fireAt : Nat := 0
  fireDt : Nat := 0
  passed : Bool := false
  anyFired : Bool := false
  gate : Option GateSet := none
  gateOpen : Bool := false
  gateDone : Bool := false
  early : Option GateSet := none
  gated : Bool := true
  armed : Option Nat := none
  winOpen : Bool := false
  accepted : Option Nat := none
  starts : List (Nat × Nat) := []
  shots : Nat := 0
  sMin : Nat := 0
  sMax : Nat := 0
  lost : Bool := false
deriving DecidableEq, Repr

/-! ### Timing channels (Sundial) -/

/-- A timestamp in the alignment stage (R70): detection time, timestamp, fire command's device time, HALF. -/
structure Stamp where
  at_ : Nat
  ts : Nat
  fireDt : Nat
  half : Nat
deriving DecidableEq, Repr

/-- A queue entry (Table 03-3), with the time of its detection (R99). -/
structure QEntry where
  half : Nat
  zero : Bool
  tof : Nat
  at_ : Nat
deriving DecidableEq, Repr

/-- One event channel: insensitive until, alignment stage, 16-entry queue. -/
structure Chan where
  deadEnd : Nat := 0
  align : List Stamp := []
  queue : List QEntry := []
deriving DecidableEq, Repr

/-- Per-terrace Sundial state: reference channel insensitive until; the slot's sums of DEAD, PRESTART and
DROP (R74); LOCKED for the whole slot; SDL_START_EXTRA raised in this slot; bed events raised in this slot (those of the reference
channel with bed 0's), bit 8 x bed-in-terrace + event bit; scale-loop state: last 256 reference codes' sum and count, trim steps allowed. -/
structure SdlT where
  refDead : Nat := 0
  deadSum : Nat := 0
  prestartSum : Nat := 0
  dropSum : Nat := 0
  locked : Bool := false
  extraOnce : Bool := false
  once : Nat := 0
  codes : List Nat := []
  sinceTrim : Nat := 0
deriving DecidableEq, Repr

/-! ### Histogram memory (Orangery) -/

/-- Recorded geometry of a half (R81): bin width code, offset in 800 ps steps, effective bin count. -/
structure Geo where
  binW : Nat := 0
  offset : Nat := 0
  beff : Nat := 0
deriving DecidableEq, Repr

/-- One half of a terrace's banks: geometry, slot held, saturation flags by local channel, zoom windows
(key 4 x channel + window, bit 31 enable, bits 18:0 Z), host-written (R104), counts unspecified since a
mode switch (R98) but for the main and zoom counters that the host has set since (by their keys), activated under KEEP (R82). -/
structure HalfInfo where
  geo : Geo := {}
  slot : Nat := 0
  sat : SMap Bool := []
  zsat : SMap Bool := []
  zwin : SMap Nat := []
  hostWritten : Bool := false
  dirty : Bool := false
  known : SMap Bool := []
  zknown : SMap Bool := []
  keep : Bool := false
deriving DecidableEq, Repr

/-- A tap as latched for a released half (R96): index, source, channel, first bin, bin count. -/
structure TapCfg where
  idx : Nat
  zoom : Bool
  ch : Nat
  first : Nat
  len : Nat
deriving DecidableEq, Repr

/-- Per-terrace Orangery state: the active half; both halves; the half that a trigger has ended and whether its swap and its
release are still to come (R81); the zoom table as the latest fetch ended, whether a fetch runs, its base and the table's words at its
start (R90); the slot in acquisition (0 none, 1 ping-pong, 2 long, 3 long and released); when the long-mode buffer started its
slot (R83); when EN last went to 0 and
to 1 (R99); ORG_WIN_BUSY raised in this slot; echoes of the latest extracted slot for tracking (key 4 x
channel + echo, T_k in 1/256 LSB plus 1); the slot in acquisition is complete so far (R94). -/
structure OrgT where
  act : Nat := 0
  half0 : HalfInfo := {}
  half1 : HalfInfo := {}
  swapDue : Bool := false
  ending : Option Nat := none
  ztab : SMap Nat := []
  fetching : Bool := false
  zbase : Nat := 0
  zwas : SMap Nat := []
  phase : Nat := 0
  since : Nat := 0
  enOffAt : Nat := 0
  enOnAt : Nat := 0
  busyOnce : Bool := false
  track : SMap Nat := []
  full : Bool := false
deriving DecidableEq, Repr

/-- A register of a Pergola core (R299). -/
abbrev W24 := BitVec 24

/-- An entry of a core's input queue (R311, R312): K8 to K13; of a SLOT_START also the slot number and the half it was
released in. -/
structure PglEntry where
  words : List W24
  start : Option (Nat × Nat) := none
deriving DecidableEq, Repr

/-! ### Echo extraction (Gazebo) -/

/-- What a released half carries to Gazebo (R81, R102): half index, information, whether the slot was a listen
slot, the shots and START delays of the terrace's two banks, the shots of both, blanked
gate time, hop times by local channel, latched taps. -/
structure Release where
  half : Nat := 0
  info : HalfInfo := {}
  listen : Bool := false
  shots0 : Nat := 0
  shots1 : Nat := 0
  sMin0 : Nat := 0
  sMax0 : Nat := 0
  sMin1 : Nat := 0
  sMax1 : Nat := 0
  tBlank : Nat := 0
  hops : SMap (List Nat) := []
  taps : List TapCfg := []
deriving DecidableEq, Repr

/-- One channel under scan: words read in the pass; whether the first pass of a host-written half is done and its
bins (R104); ambient estimate formed, λ, ρ_a in units of 0.1 M/s, λ', g_a, pile-up on; raw bins, corrected bins, blind
marks, filter outputs with the threshold verdict; λ, ρ_a, λ', g_a and the bins after the raw ones in Q8 (R107); zoom counters as the
scan read them (R96); stage 7 complete. -/
structure ChScan where
  pos : Nat := 0
  firstDone : Bool := false
  first : List Nat := []
  formed : Bool := false
  lam : Nat := 0
  rho : Nat := 0
  lamP : Nat := 0
  ga : Nat := 256
  pileup : Bool := false
  raw : List Nat := []
  hp : List Nat := []
  blind : List Bool := []
  y : List (Nat × Bool) := []
  zraw : List Nat := []
  extracted : Bool := false
deriving DecidableEq, Repr

/-- A candidate or echo as Gazebo supplies it (R110 to R119): local channel, echo number, last of its channel, range
in mm, ToF in 1/256 LSB, intensity, width, flags, AMB. -/
structure Echo where
  ch : Nat := 0
  num : Nat := 0
  last : Bool := false
  range : Nat := 0
  tof : Nat := 0
  intensity : Nat := 0
  width : Nat := 0
  flags : Nat := 0
  amb : Nat := 0
  feedOnly : Bool := false
deriving DecidableEq, Repr

/-- An alien-map entry (R122): centre and half-width in 1/256 LSB, listen slot, life in slots, none while it
lasts until the next listen slot. -/
structure Alien where
  centre : Nat
  width : Nat
  slot : Nat
  life : Option Nat
deriving DecidableEq, Repr

/-- Per-terrace Gazebo state: the half under scan; channel progress; echoes that wait for delivery, those of one
channel in echo order; alien map by local channel; channels with SUN in the slot; the slot's echoes for tracking;
event bits raised in the slot; the half in delivery (R311): its slot and index, whether some entry of it is still due, its SLOT_START, the
cores that have not had their SLOT_START and SLOT_END, whether the delivery of each has begun, all its records delivered. -/
structure GzbT where
  scan : Option Release := none
  chans : SMap ChScan := []
  echoes : List Echo := []
  map : SMap (List Alien) := []
  sun : Nat := 0
  track : SMap Nat := []
  once : Nat := 0
  num : Nat := 0
  half : Nat := 0
  busy : Bool := false
  startEntry : PglEntry := { words := [] }
  starts : List Nat := []
  ends : List Nat := []
  opened : Bool := true
  closing : Bool := true
  recDone : Bool := true
deriving DecidableEq, Repr

/-- The keyed sequence of a slot (R121, R122): its dither counts D_0 to D_15, D_max, listen slot. -/
structure DitherSeq where
  d : List Nat := []
  dmax : Nat := 0
  listen : Bool := false
  late : Bool := false
deriving DecidableEq, Repr

/-- The sequence generator (R121, R501): a computation in progress with the settings it read (EN and KEY_OK
product, DMAX, SALT, LISTEN word), and the sequence held ready for the next trigger. -/
structure SeqGen where
  running : Option (Bool × Nat × Nat × Nat) := none
  ready : Option DitherSeq := none
deriving DecidableEq, Repr

/-! ### Time base -/

/-- Time base beside its registers (R141 to R145): device time runs since the first PLL lock; a step (true) or phase
move, or a load, that waits for the next slot trigger; re-acquisition due; consecutive frames with small
error; times of the last valid TIME frame; EVENT payloads that wait to be sent, and until when the line is busy; recent changes of
LOCKED, newest first, with the value before each; the count would have
carried out of bit 63 (R141); the frames that the last command sent (TYPE, payload, CRC). -/
structure Dtb where
  run : Bool := false
  dt : Nat := 0
  pendMove : Option (Int × Bool) := none
  pendLoad : Option Nat := none
  reacquire : Bool := false
  good : Nat := 0
  lastTm : Nat := 0
  lastA : Nat := 0
  events : List Nat := []
  busyUntil : Nat := 0
  lockLog : List (Nat × Bool) := []
  carried : Bool := false
  sent : List (Nat × Nat × Nat) := []
deriving DecidableEq, Repr


/-! ### Trigger and capture engine (Belvedere) -/

/-- An entry of a trace (R288, Table 13-5): value s, flag byte, its own time, the time of the last sample of its run. -/
structure BlvEntry where
  value : Int
  flags : Nat
  t : Nat
  lastT : Nat
deriving DecidableEq, Repr

/-- A min/max run in progress (R288): samples so far, smallest and largest with their times, ORed flags. -/
structure BlvRun where
  n : Nat
  minV : Int
  minT : Nat
  maxV : Int
  maxT : Nat
  flags : Nat
deriving DecidableEq, Repr

/-- A trace with the settings latched at the entry to PRE (R288, R289, R293), its entries oldest first. -/
structure BlvTrace where
  idx : Nat
  src : Nat
  mm : Bool
  mmk : Nat
  post : Nat
  depth : Nat
  entries : List BlvEntry := []
  run : Option BlvRun := none
deriving DecidableEq, Repr

/-- A trigger unit's side and timing state (R286): side of L1 and of L2 (above), start of the pulse, runt or slope being
timed, whether a level that ends it has been met, whether it has fired for it; last L1 crossing; timeout fired. -/
structure BlvUnit where
  s1 : Option Bool := none
  s2 : Option Bool := none
  from_ : Option Nat := none
  hit : Bool := false
  fired : Bool := false
  lastX : Option Nat := none
  timedOut : Bool := false
deriving DecidableEq, Repr

/-- Trigger and capture engine beside its registers: latched traces, trigger units; the accepted trigger's time,
source and TIME_UNSYNC; time of READY; dead time: since when, triggers missed in it, first one seen; what the
header of this capture will say of it; mask result; TIMEOUT_END; rank of a trigger accepted in this step;
the mask segments of the test and DEST and DUMP_BASE of the dump, as they began (R293). -/
structure Blv where
  traces : List BlvTrace := []
  units : SMap BlvUnit := []
  tTrig : Nat := 0
  src : Nat := 0
  unsync : Bool := false
  readyAt : Nat := 0
  deadFrom : Nat := 0
  missed : Nat := 0
  deadSeen : Bool := false
  hdrDead : Nat := 0
  hdrMissed : Nat := 0
  maskRun : Bool := false
  failSeg : Nat := 0
  timeoutEnd : Bool := false
  stepRank : Option Nat := none
  segs : List (List Nat) := []
  dest : Nat := 0
  base : Nat := 0
deriving DecidableEq, Repr

/-- Calibration beside its registers (R384 to R393): the bed under test, with or without its terrace's reference channel, under source
1 or not; HITS and TLIM as its start read them; start of the run; by channel 0 to 31 and 32 for the reference the total H, and by 64 x
channel + fine code the tally n_f; run A's tallies and the channels that passed it; start of the latest test; a START that waits
for the spacing; the bed that AUTO tests next; by bed the device time of its last success, its successes, the d of its last test. -/
structure Cal where
  bed : Option Nat := none
  ref : Bool := false
  free : Bool := false
  hits : Nat := 0
  tlim : Nat := 0
  runAt : Nat := 0
  total : SMap Nat := []
  tally : SMap Nat := []
  tallyA : SMap Nat := []
  passA : Nat := 0
  startAt : Option Nat := none
  waits : Bool := false
  next : Nat := 0
  beds : SMap (Nat × Nat × Nat) := []
deriving DecidableEq, Repr

/-! ### Promenade -/

/-- A packet (R164, R166): payload type, sequence number, payload bytes; the frame of a skipped slot's header, whose CFG_TOUCHED is open
until it is sent (R134). -/
structure Packet where
  type : Nat
  seq : Nat
  payload : List Nat
  late : Option Nat := none
deriving DecidableEq, Repr

/-- A block of a lane (R153, R154): control or data, and its eight bytes; without bytes where the lane carries none of the coded stream. -/
structure Block where
  ctrl : Bool
  bytes : List Nat
deriving DecidableEq, Repr

/-- Receive side of a lane (R157, R158, R171): bit position of the block search, since when its sync headers have been valid, times of the
invalid headers since block lock; on LN8 and LN9 the bad code groups that count towards the loss of synchronisation and the time of the
latest; time of the last matching AM and of the one before, its LANE_ID, time of the last AM that carried RX_ALIGNED = 0; since when its
PRBS checker finds no error, or runs synchronised. -/
structure LaneRx where
  slip : Nat := 0
  validFrom : Nat := 0
  invalid : List Nat := []
  bad : Nat := 0
  badAt : Nat := 0
  amAt : Option Nat := none
  amPrev : Option Nat := none
  amId : Nat := 0
  farZeroAt : Option Nat := none
  prbsFrom : Nat := 0
deriving DecidableEq, Repr

/-- A slot whose header has not been sent (R133, R134): header values, the terraces whose extraction is still due,
records accepted so far, staged taps with their terraces (R168), whether the slot is still in acquisition, its LOCK bits once the trigger
that ends it has come (R74), whether its records were lost with the alignment (R160). -/
structure SlotRec where
  num : Nat
  frame : Nat
  inFrame : Nat
  devTime : Nat
  angle : Int
  omega : Int
  fbLost : Bool := false
  hold : Bool := false
  touched : Bool := false
  skipped : Bool := false
  listen : Bool := false
  inhibited : Bool := false
  unsync : Bool := false
  startLost : Nat := 0
  lock : Nat := 0
  notExtracted : Nat := 0
  shots : Nat := 0
  seqLate : Bool := false
  sums : List Nat := []
  due : Nat := 0
  acquiring : Bool := false
  lockKept : Option Nat := none
  records : List Nat := []
  taps : List (Nat × List Nat) := []
  lost : Bool := false
deriving DecidableEq, Repr

/-- A frame whose END marker has not been created (R138, R139). -/
structure FrameRec where
  num : Nat
  buf : Nat
  entries : Nat
  firstNum : Nat
  firstTime : Nat
  unsync : Bool
  slots : Nat := 0
  skips : Nat := 0
  touched : Nat := 0
  lastNum : Nat := 0
  lastTime : Nat := 0
  ended : Option Bool := none
  started : Bool := false
deriving DecidableEq, Repr

/-- Promenade beside its registers: alignment states, lanes, packets ready to send, the one in transmission with the
time its last column ends, a hold's start, the limit of that hold (R172), whether its warning was raised, the columns left of the packet
that a hold stopped, the columns last put on the lanes and the 66-bit words of each lane for them (bit 0 first, R153), the scramblers of
LN0 to LN7 (the last 58 bits sent, the latest bit 0) and the time they stand for, the AM column last sent and its time, AM columns sent,
the AM last retransmitted on each lane in far-end loopback, whether packets still wait for the first frame marker or slot packet after a
return to ALIGNED, the control words acknowledged on LN8 and LN9; the channel some of whose records have entered and some not (R136). -/
structure Prm where
  localAligned : Bool := false
  aligned : Bool := false
  lanes : SMap LaneRx := []
  queue : List Packet := []
  inFlight : Option (Packet × Nat) := none
  holdFrom : Option Nat := none
  holdLimit : Nat := 0
  warned : Bool := false
  held : Nat := 0
  out : List (List Block) := []
  line : List (List Nat) := []
  scram : List Nat := []
  scramAt : Option Nat := none
  await : Bool := true
  amSent : Nat := 0
  amOut : List Block := []
  lastAm : Option Nat := none
  relayed : SMap Block := []
  sgmiiAck : SMap Bool := []
  mid : Option Nat := none
deriving DecidableEq, Repr

/-! ### Bandstand and Gatehouse -/

/-- An angle sample as a loop delivers it (R187): angle, ω, feedback lost, HOLD_SAFE. -/
structure Sample where
  angle : Int := 0
  omega : Int := 0
  fbLost : Bool := false
  hold : Bool := false
deriving DecidableEq, Repr

/-- One scheduled segment of a slot (R181, R185): segment, pulse width in half ns, sink code, shots. -/
structure PlanSeg where
  seg : Nat
  pw : Nat
  code : Nat
  shots : Nat
deriving DecidableEq, Repr

/-- Gatehouse's verdict on a segment-shot (R207, R209, Table 09-3): granted; inhibited; held while a charge-supply check is missing, to
be inhibited at its fire command unless a valid check comes first, which then has it judged. -/
inductive Verdict where
  | granted | inhibited | held
deriving DecidableEq, Repr

/-- The slot in acquisition (R27, R29, R181): trigger time and number; dither counts; entry fetched, shot grid
start, shots, banks in firing order with the shots of each, masked segments, I_bank, L_shot, plan; readback as the fetch found it
(missing, deviating segments with code and half ns); next shot to start and to judge, position of the next bank
to fire; verdicts by 16 x segment + shot; end of the last verdict pass; shots in which each
segment fired; BND.CTRL.EN has been written 0 in it (R195). -/
structure Acq where
  trigAt : Nat
  num : Nat
  line : Nat
  dith : List Nat := []
  dmax : Nat := 0
  listen : Bool := false
  fetched : Bool := false
  grid : Nat := 0
  shots : Nat := 0
  banks : List Nat := []
  bankShots : List Nat := []
  masked : Nat := 0
  iBank : Nat := 0
  lShot : Nat := 0
  pwMax : Nat := 0
  segs : List PlanSeg := []
  rbMissing : Bool := false
  rb : List (Nat × Nat × Nat) := []
  nextShot : Nat := 0
  nextBank : Nat := 0
  nextPass : Nat := 0
  passAt : Nat := 0
  verdicts : SMap (Option Verdict) := []
  mismatchOnce : Bool := false
  firedCnt : SMap Nat := []
  disabled : Bool := false
deriving DecidableEq, Repr

/-- Diagnosis of one segment (R192, R193): run of equal fault verdicts, kind of the run, time of the latest verdict,
latest fault verdict was OVER, BND_PROBE_LATE raised. -/
structure SegDiag where
  run : Nat := 0
  kind : Nat := 0
  at_ : Option Nat := none
  wasOver : Bool := false
  lateOnce : Bool := false
deriving DecidableEq, Repr

/-- A pulse of a FIRE output (Table 08-4): segment, sink code, width in half ns; when FIRE_c rises and falls, and when ISENSE_s and
VF_MON_b are sampled. -/
structure Pulse where
  seg : Nat
  code : Nat
  pw : Nat
  rise : Nat
  fall : Nat
  sampleAt : Nat
deriving DecidableEq, Repr

/-- Bandstand beside its registers: pattern buffers by byte offset; copy in progress (the image as it was at the
write) and the LOAD_SRC address it reads; the two loops' latest samples; angle of the latest sample used for crossings, and of the one before it while no
frame has begun on the latest; the latest sample while it can still trigger; samples against the frame's
direction; timed trigger due; swap requests by device time T_e; a frame-end swap that waits for the fetch;
slot in acquisition; sink codes; some f_b below 256; diagnosis by segment; BND_SLOT_SKIP raised in this frame; time of
the latest trigger and the interval before it; numbers of the latest two skipped slots; whether this gap's probe has
run, and when the last gate before it closed; pulses of the latest fire; the select output raised last (bank, when it rises and falls) and
the fire, as shot and position, for which it was decided; end of a probe in progress; what the latest fetch read: factor of each bank,
BLANK in ns, THERM_MAP, HYST (Table 08-7); segments that fired in every shot of the latest
slot whose acquisition is over; trigger time and number of the slot whose swap and releases are still to come (Table 04-2); number
of the latest listen slot that has started. -/
structure Bnd where
  buf0 : SMap Byte := []
  buf1 : SMap Byte := []
  loading : Option (SMap Byte) := none
  loadBase : Nat := 0
  samples : SMap (Option Sample) := []
  lastAngle : Option Int := none
  prevAngle : Option Int := none
  fresh : Option Sample := none
  against : Nat := 0
  timedNext : Option Nat := none
  swapReqs : List Nat := []
  swapDue : Bool := false
  acq : Option Acq := none
  sinks : SMap Nat := []
  derated : Bool := false
  diag : SMap SegDiag := []
  skipOnce : Bool := false
  lastTrig : Nat := 0
  interval : Nat := 0
  skipped : List Nat := []
  gapDone : Bool := true
  gapFrom : Nat := 0
  pulses : List Pulse := []
  sel : Option (Nat × Nat × Nat) := none
  selFor : Option (Nat × Nat) := none
  probing : Option Nat := none
  factors : List Nat := []
  blank : Nat := 100
  thermMap : Word := 0
  hyst : Nat := 20
  firedSet : Nat := 0
  startDue : Option (Nat × Nat) := none
  listenNum : Option Nat := none
deriving DecidableEq, Repr

/-- Gatehouse beside its registers: debits by key 80 x window + segment, or + 64 + group, as (bucket, energy); time of the last
angle sample of loops 0 and 1, 0 before it; motion without static condition since; charge checks: missing since
the last valid one, result due, run of missing, run below VLIM − VHYST; dump demand latched, since when;
EMIT_EN level and since when it is high; once-per-slot flags; temperature missing. -/
structure Gth where
  debits : SMap (List (Nat × Nat)) := []
  lastSample : SMap Nat := []
  hold7 : Bool := false
  calmSince : Option Nat := none
  missing : Bool := false
  waiting : Bool := false
  missRun : Nat := 0
  lowRun : Nat := 0
  latched : Bool := false
  dumpAt : Option Nat := none
  emitEn : Bool := false
  emitSince : Nat := 0
  tempMissing : Bool := false
  inhibitOnce : Bool := false
  lateOnce : Bool := false
deriving DecidableEq, Repr


/-! ### Auxiliary front end (Pumphouse), decimation (Cascade), loops (Fountain) -/

/-- A conversion in progress (R255, R256): requester (0 Gatehouse, 1 + 2L feedback and 2 + 2L angle of loop L, 99 routine) and the number
of the loop sample it is for; input, start, samples, shift; SAR_CFG of the channel as the conversion read it (Table 11-6). -/
structure SarJob where
  who : Nat
  tag : Nat := 0
  input : Nat
  start : Nat
  navg : Nat
  shift : Nat
  cfg : Word := 0
deriving DecidableEq, Repr

/-- A SAR channel: conversion in progress; a routine waits (Table 11-3). -/
structure SarCh where
  job : Option SarJob := none
  waiting : Bool := false
deriving DecidableEq, Repr

/-- A notch window (R253): start, length, sum of code times time, outputs saturated high and low, OR of flags, device
time of the last output used. -/
structure Notch where
  start : Nat
  len : Nat
  sum : Int := 0
  hi : Bool := false
  lo : Bool := false
  flags : Nat := 0
  last : Nat := 0
deriving DecidableEq, Repr

/-- A sigma-delta modulator (R252): the entry it dwells on as it was at its entering, release time of the modulator
(step 4), whether Cascade has been bound, results delivered in the dwell, latest settled output of a notch entry (code, time,
flags), notch window. -/
structure Sd where
  entry : Option Word := none
  release : Nat := 0
  bound : Bool := false
  count : Nat := 0
  held : Option (Int × Nat × Nat) := none
  notch : Option Notch := none
deriving DecidableEq, Repr

/-- A 16-byte result record that waits in its stream (R259), with the DMA channel it goes to and its number in the order of
arrival (R331). -/
structure StreamRec where
  ch : Nat
  seq : Nat
  bytes : List Nat
deriving DecidableEq, Repr

/-- Excitation of a bridge (R248): conversions since the last reversal, settling spans, spans of the negative phase. -/
structure Exc where
  convs : Nat := 0
  neg : List (Nat × Option Nat) := []
  settle : List (Nat × Nat) := []
deriving DecidableEq, Repr

/-- Pumphouse beside its registers: SAR channels, modulators, excitations, clamp conduction and tone spans by
input (an open span ends in none), inputs under wire check with the tone's start. -/
structure Pmp where
  sar : SMap SarCh := []
  sd : SMap Sd := []
  exc : SMap Exc := []
  clamp : SMap (List (Nat × Option Nat)) := []
  tone : SMap (List (Nat × Option Nat)) := []
  check : Option (Nat × Nat) := none
  streams : SMap (List StreamRec) := []
  arrivals : Nat := 0
deriving DecidableEq, Repr

/-- An output of a Cascade channel before its release (R270): due time, value, flags, DEV_TIME, input, linearisation set. -/
structure CscOut where
  due : Nat
  value : Int
  flags : Nat
  time : Nat
  input : Nat
  lin : Option Nat
deriving DecidableEq, Repr

/-- A sinc output in a channel's input buffer (R270). -/
structure CscIn where
  value : Int
  flags : Nat
  time : Nat
  input : Nat
  lin : Option Nat
deriving DecidableEq, Repr

/-- One half-band stage (R272, R273): its latest inputs, newest first, and how many it has had since the flush. -/
structure HalfBand where
  xs : List Int := []
  n : Nat := 0
deriving DecidableEq, Repr

/-- A Cascade channel (R267 to R279): input buffer, flush requested, stages with the configuration they run, flags
since the last output, outputs before release; peak window, mean square, envelope; DEV_TIME of the last output. -/
structure CscCh where
  buf : List CscIn := []
  flush : Bool := true
  cfg : Nat := 0
  stages : List HalfBand := []
  flags : Nat := 0
  outs : List CscOut := []
  pkN : Nat := 0
  pkMax : Int := 0
  pkMin : Int := 0
  ms : Nat := 0
  env : Nat := 0
  lastTime : Nat := 0
deriving DecidableEq, Repr

/-- What a loop knows of one requested value (R225, R226): an SAR code comes with the flags that its samples carry to Belvedere (R284). -/
inductive Meas where
  | pending
  | missing
  | code (c flags : Nat)
  | temp (y : Int) (fault : Bool)
deriving DecidableEq, Repr

/-- One sample of a loop (R224 to R228): number, sample time, feedback, angle request where it is separate. -/
structure LoopSample where
  idx : Nat
  at_ : Nat
  fb : Meas
  ang : Option Meas
deriving DecidableEq, Repr

/-- A loop beside its registers (R229 to R239): integrator, accumulator, derivative filter, last valid measurement, ω,
previous angle and its sample number; samples taken; those not yet served; runs of Table 10-4 with the loss
conditions that hold; first closed update due; CLOSE = 0 was written in HOLD_SAFE; FTN_I_CLAMP raised since the close; EN
written 1 in SAFE_HOLD or FAULT; DAC code at the pin; PWM high counts, period and start of the present period; device time
of the last update; time of the latest sample. -/
structure Loop where
  i : Int := 0
  acc : Int := 0
  df : Int := 0
  yPrev : Int := 0
  omega : Int := 0
  angle : Option (Int × Nat) := none
  idx : Nat := 0
  samples : List LoopSample := []
  missRun : Nat := 0
  rngRun : Nat := 0
  frzRun : Nat := 0
  frzY : Int := 0
  loss : Nat := 0
  first : Bool := false
  reopen : Bool := false
  iEvent : Bool := false
  starting : Bool := false
  dac : Nat := 0
  pwmHigh : Nat := 0
  pwmPeriod : Nat := 0
  pwmAt : Option Nat := none
  updated : Nat := 0
  sampledAt : Option Nat := none
deriving DecidableEq, Repr


/-! ### Point-processing cores (Pergola) -/

/-- A Pergola accumulator (R299). -/
abbrev W56 := BitVec 56

/-- A ZLD in flight (R308, R314): physical destination (0 to 31 rotating, 32 to 47 static, 50 none), value, stale half, steps
still to be executed before it lands. -/
structure ZldJob where
  dest : Nat
  value : W24
  stale : Bool
  left : Nat
deriving DecidableEq, Repr

/-- A host or DMA access to the data memory of a running core that waits for a free access (R302): initiator, word,
value of a write, steps it has waited. -/
structure PglAccess where
  ini : Initiator
  word : Nat
  value : Option W24
  waited : Nat
deriving DecidableEq, Repr

/-- A Pergola core beside its registers PC, STATUS and QUEUE (R299): rotating registers by physical number, static
registers, accumulators, flags, data memory, input queue, output buffer, ZLDs in flight oldest first, block repeats
innermost first (start, end, repeats left), slot number and half of the latest SLOT_START popped with its device time,
instructions since, records delivered to it in the slot of that number, waiting accesses oldest first; data words with bit errors (1: one bit,
2: two bits, R301). -/
structure Core where
  v : SMap W24 := []
  k : SMap W24 := []
  a0 : W56 := 0
  a1 : W56 := 0
  z : Bool := false
  n : Bool := false
  c : Bool := false
  data : SMap W24 := []
  queue : List PglEntry := []
  out : List W24 := []
  zld : List ZldJob := []
  reps : List (Nat × Nat × Nat) := []
  slot : Option (Nat × Nat) := none
  slotTime : Nat := 0
  instrs : Option Nat := none
  given : Nat := 0
  givenSlot : Nat := 0
  access : List PglAccess := []
  ecc : SMap Nat := []
deriving DecidableEq, Repr

/-- A code load in progress in a terrace (R320): the first word and number of words written, the code of Table 19-4 that
verification finds (0: it succeeds), ENTRY, BOOT_ENTRY, VERSION, the message's digest, the signer's two bytes. -/
structure PglLoad where
  first : Nat
  count : Nat
  code : Nat
  entry : Nat
  bootEntry : Nat
  version : Nat
  digest : List Nat
  signer : Nat × Nat
deriving DecidableEq, Repr


/-! ### Machine-safety functions (Lodge) -/

/-- A slot that Lodge follows until both evaluators have spoken (R346, R348, R351): number, trigger time, frame, sector (none:
not evaluated), terraces whose extraction is still due, channels with an object echo by field, channels with a
contaminated window, beds whose segment fired in every shot, beds of banks with START_LOST, terraces in
NOT_EXTRACTED, verdicts with their times: channel A's 192-bit mask, channel B's halves of 96 bits. -/
structure LdgSlot where
  num : Nat
  trigAt : Nat
  frame : Nat
  sector : Option Nat
  due : Nat := 0
  det0 : Nat := 0
  det1 : Nat := 0
  det2 : Nat := 0
  win : Nat := 0
  fired : Nat := 0
  lost : Nat := 0
  notExtracted : Nat := 0
  a : Option (Nat × Nat) := none
  b0 : Option (Nat × Nat) := none
  b1 : Option (Nat × Nat) := none
deriving DecidableEq, Repr

/-- A core of the pair as Lodge sees it (R349, R351): words of the message in progress, time of the latest output message
or of the check's start, commands of the latest output message. -/
structure LdgCore where
  words : List Nat := []
  outAt : Option Nat := none
  a2 : Bool := false
  b2 : Bool := false
deriving DecidableEq, Repr

/-- An output (R355, R356): its test window's start, whether it is pulsed in it, held low until its end, the time by which
the ball must read high (true: after a pulse) or low. -/
structure LdgOut where
  window : Option Nat := none
  pulse : Bool := false
  held : Bool := false
  dueHigh : Option (Nat × Bool) := none
  dueLow : Option Nat := none
deriving DecidableEq, Repr

/-- A pair of outputs (R354, R357): since when no OFF demand and no fault has stood, the restart rule is met, the pair is ON. -/
structure LdgPair where
  clearSince : Option Nat := none
  met : Bool := false
  on : Bool := false
deriving DecidableEq, Repr

/-- A safety input pair (R359, R360): ticks of discrepancy, since when its filtered states agree, since when it is active,
TPO pulses that found a short. -/
structure LdgPin where
  disc : Nat := 0
  agreeSince : Nat := 0
  activeSince : Option Nat := none
  short : Nat := 0
deriving DecidableEq, Repr

/-- Lodge beside its registers: active set, sets in preparation and ready, old sets in overlap with its end; counts by field and
cell (key 32768 x field + 512 x bed + sector); last evaluation and evaluations since SCANNING was entered, by cell; demands of
the protective and warning 1 fields; LDG_WARN's condition; slots followed; mismatch kept (slot, A, B); cores, outputs, pairs,
inputs by number; raw input levels; pairs with a latched SIN_DISC and SIN_SHORT; TPO pulses in progress by start; code of the select inputs; contamination: frame counted,
evaluated and contaminated channel-slots by bed, WINDOW_DROP at its start, beds at fault level, unjudged frames in a row; network:
command copies that wait (time, body) by lane, last acceptance, any COUNTER allowed, frames sent last and their 8b/10b code groups (R171);
when the active set took over; until when channel A evaluates the records that have reached it (R348). -/
structure Ldg where
  active : Option Nat := none
  prep : Option Nat := none
  ready : Option Nat := none
  olds : List (Nat × Nat) := []
  counts : SMap Nat := []
  lastEval : SMap Nat := []
  evals : SMap Nat := []
  demandP : Bool := false
  demandW : Bool := false
  warned : Bool := false
  slots : List LdgSlot := []
  mismatch : Nat × Nat × Nat := (0, 0, 0)
  cores : SMap LdgCore := []
  outs : SMap LdgOut := []
  pairs : SMap LdgPair := []
  pins : SMap LdgPin := []
  raw : Nat := 0
  discBits : Nat := 0
  shortBits : Nat := 0
  tpo : SMap (Option Nat) := []
  code : Nat := 0
  frame : Option Nat := none
  total : SMap Nat := []
  dirty : SMap Nat := []
  dropAt : Nat := 0
  faultBeds : Nat := 0
  unjudged : Nat := 0
  rxA : List (Nat × List Nat) := []
  rxB : List (Nat × List Nat) := []
  lastAccept : Option Nat := none
  anyCounter : Bool := true
  sentAny : Bool := false
  sent : List (List Nat) := []
  groups : List (List Nat) := []
  tookAt : Nat := 0
  feedUntil : Nat := 0
deriving DecidableEq, Repr


/-! ### DMA -/

/-- A descriptor as fetched (R325, Table 15-1). -/
structure DmaDesc where
  addr : Nat
  src : Nat
  dst : Nat
  count : Nat
  fin : Bool
  next : Nat
  barrier : Bool
  doneEv : Bool
  waitTrig : Bool
  srcMode : Nat
  dstMode : Nat
  shuf : Nat
  retry : Nat
  es : Nat
  nl : Nat
  stride : Nat
deriving DecidableEq, Repr

/-- A beat whose write response has not returned (R328, R335): its descriptor with its ordinal, the bytes of it moved before, source and
destination address, bytes, data (none where the read failed), bytes of the ring it fills, retries made, whether it meets an error. -/
structure DmaBeat where
  ord : Nat
  desc : DmaDesc
  pos : Nat
  src : Nat
  dst : Nat
  n : Nat
  data : Option (List Nat)
  ring : Nat
  tries : Nat
  err : Bool
deriving DecidableEq, Repr

/-- A descriptor that is not complete (R329): ordinal, address, DONE_EV, RETRY, every beat issued, bytes not issued. -/
structure DmaOpen where
  ord : Nat
  addr : Nat
  doneEv : Bool
  retry : Nat
  issued : Bool
  rem : Nat
deriving DecidableEq, Repr

/-- A DMA channel beside its registers: descriptor in progress with the bytes issued of it and its ordinal; descriptors not
complete and outstanding beats, oldest first; address of the fetch due and its retries; ring offset of the next
write; bytes of a stream record taken and not yet written; a ring reset that waits for responses; a power-down that waits for
them; every beat of the list has been issued. -/
structure DmaCh where
  desc : Option DmaDesc := none
  moved : Nat := 0
  ord : Nat := 0
  opens : List DmaOpen := []
  beats : List DmaBeat := []
  fetchAt : Nat := 0
  fetchTries : Nat := 0
  ringNext : Nat := 0
  part : List Nat := []
  resetDue : Bool := false
  pwr : Bool := false
  last : Bool := false
deriving DecidableEq, Repr


/-! ### One-time-programmable storage and security -/

/-- OTP beside its registers: words that differ from how the part left the factory (R403); the word being programmed with
its value and whether an abort has come (R407, R409); the boot load has been made; when BOOT was entered; words with bit errors (1: one
bit, which the code corrects; 2: more, R403). -/
structure Otp where
  words : SMap Word := []
  job : Option (Nat × Word × Bool) := none
  loaded : Bool := false
  bootAt : Nat := 0
  ecc : SMap Nat := []
deriving DecidableEq, Repr

/-- Security beside its registers: a boot verification runs (R420); K_D; digests and signers of the loaded images by their place
in Table 19-8; version of the safety image; the attestation report in progress (its body, whether it waits for a
reservation), the report held; next signature index and end of the open block (R428). -/
structure Sec where
  booting : Bool := false
  kd : Option (List Nat) := none
  digests : SMap (List Nat) := []
  signers : SMap (Nat × Nat) := []
  safetyVersion : Nat := 0
  mgmtRuns : Bool := false
  att : Option (List Nat) := none
  report : List Nat := []
  block : Option (Nat × Nat) := none
deriving DecidableEq, Repr



/-! ### Supplies, reset and power domains -/

/-- PWR beside its registers (R456 to R466): reset causes in force, as bits 2 RESET_L, 3 PWRGOOD, 4 BROWNOUT; end of the latest cause;
when a rail was last outside its window; the domain being gated (true) or restored, with its start. -/
structure Pwr where
  causes : Nat := 0
  freeAt : Nat := 0
  railAt : Nat := 0
  switch : Option (Nat × Bool × Nat) := none
deriving DecidableEq, Repr

/-! ### Test access port -/

/-- The TAP beside DBG.STATUS (R490 to R495): current instruction; what the selected data register last captured; the boundary
register's update latches; the result of the last DBG_ACCESS read. -/
structure Jtag where
  ir : Nat := 0x01
  capture : Nat := 0
  latches : Nat := 0
  access : Word := 0
deriving DecidableEq, Repr

/-! ### The whole machine -/

/-- The device: everything but shared SRAM and the command queue. -/
structure Dev where
  variant : Variant := .is
  now : Nat := 0
  regs : SMap Word := []
  seen : SMap Bool := []
  freeCtr : Nat := 0
  evm : Evm := {}
  mbx : SMap Mailbox := []
  ports : Ports := {}
  dtb : Dtb := {}
  cells : SMap Cell := []
  pixels : SMap (List Nat) := []
  blankLow : Bool := false
  blank : SMap Blank := []
  hops : SMap Hop := []
  lag : SMap (List Nat) := []
  lagDir : SMap Int := []
  hopLog : SMap (List Nat) := []
  hopClip : SMap Bool := []
  bank : SMap Bank := []
  chan : SMap Chan := []
  sdl : SMap SdlT := []
  org : SMap OrgT := []
  bins : SMap Nat := []
  zoom : SMap Nat := []
  blocks : SMap Nat := []
  gzb : SMap GzbT := []
  satEchoes : SMap (Nat × List (Nat × Nat)) := []
  seqGen : SeqGen := {}
  prm : Prm := {}
  slots : List SlotRec := []
  frames : List FrameRec := []
  bnd : Bnd := {}
  thmAt : SMap Nat := []
  gth : Gth := {}
  calShadow : SMap Word := []
  blv : Blv := {}
  pmp : Pmp := {}
  csc : SMap CscCh := []
  cores : SMap Core := []
  code : SMap (BitVec 48) := []
  bedMap : SMap Nat := []
  pglLoads : SMap (Option PglLoad) := []
  ldg : Ldg := {}
  loops : SMap Loop := []
  dma : SMap DmaCh := []
  otp : Otp := {}
  sec : Sec := {}
  cal : Cal := {}
  pwr : Pwr := {}
  jtag : Jtag := {}
  dmaLast : Nat := 23
  dtest : SMap Nat := []
deriving DecidableEq, Repr

/-- The state of the block: the commands that wait, oldest first; shared SRAM; the device. -/
structure State where
  pending : List Instr := []
  mem : List Host.Cell := []
  dev : Dev := {}
deriving DecidableEq, Repr

/-- Why the machine stops with a fault: no command does, as the spec gives each an effect in every state. -/
inductive Fault where
deriving DecidableEq, Repr

/-- Why the machine gives a command no meaning. -/
inductive Refusal where
  /-- Raised by an arm of the dispatch whose command has no meaning yet. Safe: the machine stops. -/
  | notModelled (mnemonic : String)
deriving DecidableEq, Repr

/-- The machine right after reset (log entries 1, 3, 5): the IS variant in BOOT, nothing listed in any
map, so that every register reads its table's reset value. -/
def State.reset : State := {}

end Sys2Proof.Machine
end

