-- ==== Sys2Proof/Machine/Ops.lean ====
section
/-! DEFINITION. The named operations every meaning is built from: reading and writing a register or a field of it,
counters, free values, time, signed fixed-point helpers, byte access to shared SRAM. -/
namespace Sys2Proof.Machine

/-! ### Bits -/

/-- Bits hi to lo of a word. -/
def bitsOf (w : Word) (hi lo : Nat) : Nat := (w.toNat >>> lo) % 2 ^ (hi - lo + 1)

/-- The word with bits hi to lo replaced by the low bits of `v`. -/
def setBits (w : Word) (hi lo v : Nat) : Word :=
  BitVec.ofNat 32 (w.toNat - (bitsOf w hi lo <<< lo) + ((v % 2 ^ (hi - lo + 1)) <<< lo))

/-- Bit b of a natural number used as a set. -/
def bitAt (n b : Nat) : Bool := (n >>> b) % 2 == 1

/-- The set with bit b added. -/
def withBit (n b : Nat) : Nat := if bitAt n b then n else n + 2 ^ b

/-- The set with bit b removed. -/
def withoutBit (n b : Nat) : Nat := if bitAt n b then n - 2 ^ b else n

/-- The two's complement value of an n-bit pattern. -/
def signed (n w : Nat) : Int := if w % 2 ^ n < 2 ^ (n - 1) then ((w % 2 ^ n : Nat) : Int) else ((w % 2 ^ n : Nat) : Int) - 2 ^ n

/-- The n-bit two's complement pattern of an integer. -/
def toBits (n : Nat) (i : Int) : Nat := (i % (2 ^ n : Int)).toNat

/-- An integer limited to lo and hi. -/
def clampI (lo hi i : Int) : Int := if i < lo then lo else if hi < i then hi else i

/-- Limited to 65,535 (16-bit saturating sums, R14, R133). -/
def sat16 (n : Nat) : Nat := min n 65535

/-- Quotient rounded up; 0 for a zero divisor. -/
def ceilDiv (a b : Nat) : Nat := if b = 0 then 0 else (a + b - 1) / b

/-- Search for the integer square root of n between lo and hi by halving, `fuel` times. -/
def isqrtGo (n : Nat) : Nat → Nat → Nat → Nat
  | 0, lo, _ => lo
  | fuel + 1, lo, hi =>
    let mid := (lo + hi) / 2
    if hi ≤ lo + 1 then lo
    else if mid * mid ≤ n then isqrtGo n fuel mid hi
    else isqrtGo n fuel lo mid

/-- The integer square root of n < 2^128. -/
def isqrt (n : Nat) : Nat := isqrtGo n 70 0 (2 ^ 64)

/-! ### Registers -/

/-- The value of the register at byte offset `off` of page `p`, whatever its domain's power. -/
def Dev.reg (d : Dev) (p off : Nat) : Word :=
  SMap.get (resetKey d.variant (regKey p off)) d.regs (regKey p off)

/-- Write the register at `off` of page `p`, as hardware, without access rules. -/
def Dev.setReg (d : Dev) (p off : Nat) (w : Word) : Dev :=
  { d with regs := SMap.put (resetKey d.variant (regKey p off)) d.regs (regKey p off) w }

/-- A field's value. -/
def Dev.fld (d : Dev) (p : Nat) (f : Fld) : Nat := bitsOf (d.reg p f.off) f.hi f.lo

/-- Whether a field is not 0. -/
def Dev.on (d : Dev) (p : Nat) (f : Fld) : Bool := d.fld p f != 0

/-- Write a field, as hardware. -/
def Dev.setFld (d : Dev) (p : Nat) (f : Fld) (v : Nat) : Dev :=
  d.setReg p f.off (setBits (d.reg p f.off) f.hi f.lo v)

/-- A register's value as a number. -/
def Dev.regN (d : Dev) (p off : Nat) : Nat := (d.reg p off).toNat

/-- Write a register from a number, modulo 2^32. -/
def Dev.setRegN (d : Dev) (p off v : Nat) : Dev := d.setReg p off (BitVec.ofNat 32 v)

/-- Set bit b of a register. -/
def Dev.setBit (d : Dev) (p off b : Nat) : Dev := d.setFld p ⟨off, b, b⟩ 1

/-- Clear bit b of a register. -/
def Dev.clrBit (d : Dev) (p off b : Nat) : Dev := d.setFld p ⟨off, b, b⟩ 0

/-- Bit b of a register. -/
def Dev.bit (d : Dev) (p off b : Nat) : Bool := d.fld p ⟨off, b, b⟩ == 1

/-- Add n to a 32-bit wrapping counter (R14). -/
def Dev.bumpBy (d : Dev) (p off n : Nat) : Dev := d.setReg p off (d.reg p off + BitVec.ofNat 32 n)

/-- Count one on a 32-bit wrapping counter (R14). -/
def Dev.bump (d : Dev) (p off : Nat) : Dev := d.bumpBy p off 1

/-- Count one on a 16-bit saturating counter (R14, R73). -/
def Dev.bumpSat (d : Dev) (p off : Nat) : Dev := d.setRegN p off (sat16 (d.regN p off + 1))

/-- Whether PAGE_LOCK of page `p` is set (R442). -/
def Dev.locked (d : Dev) (p : Nat) : Bool := d.bit p PAGE_LOCK 0

/-- DEV.STATE codes (Table 21-3). -/
abbrev stReset : Nat := 1
abbrev stBoot : Nat := 2
abbrev stStandby : Nat := 3
abbrev stArmed : Nat := 4
abbrev stScanning : Nat := 5
abbrev stSafeHold : Nat := 6
abbrev stFault : Nat := 7

/-- The device state (DEV.STATE). -/
def Dev.devState (d : Dev) : Nat := d.fld 0x00 DEV_STATE_STATE

/-- Whether power domain `k` is gated: 0 to 3 terraces, 4 to 7 Pergola groups, 8 the lane cluster. -/
def Dev.gated (d : Dev) (k : Nat) : Bool :=
  if k < 4 then d.bit 0x01 PWR_GATE_STATUS k
  else if k < 8 then d.bit 0x01 PWR_GATE_STATUS (k + 4)
  else d.bit 0x01 PWR_GATE_STATUS 16

/-- Whether domain `k` does not function: gated, or being gated or restored (R467, R470). -/
def Dev.down (d : Dev) (k : Nat) : Bool := d.gated k || (match d.pwr.switch with | some x => x.1 == k | none => false)

/-- A boundary instruction is current: EXTEST, EXTEST_PULSE, EXTEST_TRAIN, CLAMP or HIGHZ (R494). -/
def Dev.boundary (d : Dev) : Bool := 3 ≤ d.jtag.ir && d.jtag.ir ≤ 7

/-- Whether page `p` is powered (R443). -/
def Dev.powered (d : Dev) (p : Nat) : Bool :=
  match pageDomain p with
  | none => true
  | some k => !d.gated k

/-- Whether the Lodge fuse is blown; it is on the IS variant alone (R1, R3). -/
def Dev.hasLodge (d : Dev) : Bool := d.variant == .is

/-! ### Free values -/

/-- Take the next value that the spec leaves open, and advance the counter (log entry 2). -/
def Dev.draw (d : Dev) : Nat × Dev := (Config.free d.freeCtr, { d with freeCtr := d.freeCtr + 1 })

/-! ### Per-instance records -/

def Dev.getBank (d : Dev) (b : Nat) : Bank := SMap.get {} d.bank b
def Dev.setBank (d : Dev) (b : Nat) (x : Bank) : Dev := { d with bank := SMap.put {} d.bank b x }
def Dev.getChan (d : Dev) (c : Nat) : Chan := SMap.get {} d.chan c
def Dev.setChan (d : Dev) (c : Nat) (x : Chan) : Dev := { d with chan := SMap.put {} d.chan c x }
def Dev.getSdl (d : Dev) (t : Nat) : SdlT := SMap.get {} d.sdl t
def Dev.setSdl (d : Dev) (t : Nat) (x : SdlT) : Dev := { d with sdl := SMap.put {} d.sdl t x }
def Dev.getOrg (d : Dev) (t : Nat) : OrgT := SMap.get {} d.org t
def Dev.setOrg (d : Dev) (t : Nat) (x : OrgT) : Dev := { d with org := SMap.put {} d.org t x }
def Dev.getGzb (d : Dev) (t : Nat) : GzbT := SMap.get {} d.gzb t
def Dev.setGzb (d : Dev) (t : Nat) (x : GzbT) : Dev := { d with gzb := SMap.put {} d.gzb t x }
def Dev.getBlank (d : Dev) (t : Nat) : Blank := SMap.get {} d.blank t
def Dev.setBlank (d : Dev) (t : Nat) (x : Blank) : Dev := { d with blank := SMap.put {} d.blank t x }
def Dev.getHop (d : Dev) (c : Nat) : Hop := SMap.get {} d.hops c
def Dev.setHop (d : Dev) (c : Nat) (x : Hop) : Dev := { d with hops := SMap.put {} d.hops c x }
def Dev.getCell (d : Dev) (c : Nat) : Cell := SMap.get {} d.cells c
def Dev.setCell (d : Dev) (c : Nat) (x : Cell) : Dev := { d with cells := SMap.put {} d.cells c x }

/-! ### Bytes of shared SRAM -/

/-- One byte of shared SRAM; an unlisted byte reads 0 (log entry 3). -/
def memByte (m : List Host.Cell) (a : Nat) : Byte := SMap.get 0 m a

/-- Write one byte of shared SRAM. -/
def memPutByte (m : List Host.Cell) (a : Nat) (b : Byte) : List Host.Cell := SMap.put 0 m a b

/-- The little-endian word at `a`. -/
def memWord (m : List Host.Cell) (a : Nat) : Word :=
  memByte m (a + 3) ++ memByte m (a + 2) ++ memByte m (a + 1) ++ memByte m a

/-- Store a word at `a`, little-endian. -/
def memPutWord (m : List Host.Cell) (a : Nat) (w : Word) : List Host.Cell :=
  memPutByte (memPutByte (memPutByte (memPutByte m a (w.extractLsb' 0 8)) (a + 1) (w.extractLsb' 8 8))
    (a + 2) (w.extractLsb' 16 8)) (a + 3) (w.extractLsb' 24 8)

/-- n bytes of shared SRAM from `a`, as numbers. -/
def memBytes (m : List Host.Cell) (a n : Nat) : List Nat :=
  (List.range n).map (fun i => (memByte m (a + i)).toNat)

/-- Store a list of bytes from `a`. -/
def memPutBytes : List Host.Cell → Nat → List Nat → List Host.Cell
  | m, _, [] => m
  | m, a, b :: bs => memPutBytes (memPutByte m a (BitVec.ofNat 8 b)) (a + 1) bs

/-- The n bytes of a number, least significant first (R130). -/
def leBytes : Nat → Nat → List Nat
  | 0, _ => []
  | n + 1, v => (v % 256) :: leBytes n (v / 256)

/-- The n bytes of a number, most significant first. -/
def beBytes (n v : Nat) : List Nat := (leBytes n v).reverse

/-- The number a list of bytes spells, least significant first. -/
def ofLe : List Nat → Nat
  | [] => 0
  | b :: bs => b % 256 + 256 * ofLe bs

/-- The number a list of bytes spells, most significant first. -/
def ofBe (bs : List Nat) : Nat := ofLe bs.reverse

/-! ### Time -/

/-- Device time after `n` more LSB. It never wraps: bits 63 to 19 stay all ones once they are, while
bits 18 to 0 keep counting (R141). -/
def addTime (dt n : Nat) : Nat :=
  if dt + n < 2 ^ 64 then dt + n
  else 2 ^ 64 - 2 ^ 19 + (dt + n) % 2 ^ 19

/-- Whether bits 63 to 19 of a device time are all ones (R141). -/
def timeSaturated (dt : Nat) : Bool := dt / 2 ^ 19 == 2 ^ 45 - 1

/-- The timing PLL is locked (PWR.STATUS.PLL_LOCKED). -/
def Dev.pllLocked (d : Dev) : Bool := d.on 0x01 PWR_STATUS_PLL_LOCKED

/-- An instant on the device's own scale, to 12.5 ps: the present count and the part of the coarse period since its edge
(R59, R144: a follower's phase moves shift the edges with the scale). -/
def Dev.edgeTime (d : Dev) : Nat := d.dtb.dt

/-- The count at the last coarse edge at an instant of that scale (R141). -/
def coarse (t : Nat) : Nat := t / 64 * 64

/-- Device time now, as it is read and latched: it advances by 64 at every coarse edge (R59, R141). -/
def Dev.devTime (d : Dev) : Nat := coarse d.edgeTime

/-- Effective bin count of terrace t's present settings (R84). -/
def Dev.beffNow (d : Dev) (t : Nat) : Nat :=
  let p := 0x50 + t
  let req := d.fld p ORG_GATE_BINS
  let bmode := if d.on p ORG_CTRL_MODE then 16384 else 8192
  let off := min (d.fld p ORG_GATE_OFFSET) 8192
  min (min req bmode) ((8192 - off) * 64 / (8 * 2 ^ d.fld p ORG_CTRL_BIN_W))

/-- The gate of bank b for a fire command at `f` by the settings of the moment (R42, R43): opening and closing time, arming mode and
lead. -/
def Dev.gateFor (d : Dev) (b f : Nat) : GateSet :=
  let p := 0x50 + b / 2
  let o := 64 * min (d.fld p ORG_GATE_OFFSET) 8192
  let len := d.beffNow (b / 2) * (8 * 2 ^ d.fld p ORG_CTRL_BIN_W)
  let m := 0x08 + b / 2
  ⟨f + o, f + o + len, d.on m MDW_CTRL_ARM_MODE, Config.ns (d.fld m MDW_CTRL_EARLY_ARM)⟩

/-- Fire command of bank position i in shot k (R183). -/
def Acq.fireAt (a : Acq) (k i : Nat) : Nat := a.grid + k * a.lShot + 256 * a.dith.getD k 0 + i * a.iBank

/-- Position of a bank in the firing order. -/
def Acq.pos (a : Acq) (bank : Nat) : Nat := a.banks.findIdx (fun b => b == bank)

/-- Read a bank's gate settings for the next shot when its fire command is 16 ns away or nearer, once (R42). -/
def Dev.readEarly (t : Nat) (d : Dev) (b : Nat) : Dev :=
  match d.bnd.acq with
  | none => d
  | some a =>
    let k := d.getBank b
    let i := a.pos b
    let f := a.fireAt a.nextShot i
    if a.fetched && a.banks.contains b && a.nextShot < a.bankShots.getD i 0 && f ≤ t + Config.ns 16 && k.early.isNone
    then d.setBank b { k with early := some (d.gateFor b f) } else d

/-- Read a bank's gate settings when its fire command is 16 ns away or nearer, once per shot (R42). -/
def Dev.readGate (t : Nat) (d : Dev) (b : Nat) : Dev :=
  let k := d.getBank b
  if k.sched && k.gate.isNone && k.fireAt ≤ t + Config.ns 16 then
    let g := d.gateFor b k.fireAt
    d.setBank b { k with gate := some g, gated := g.gated }
  else d

/-- Device time counts on by n LSB; whether the count would have carried out of bit 63 is kept (R141). -/
def Dev.countOn (n : Nat) (d : Dev) : Dev :=
  { d with dtb := { d.dtb with dt := addTime d.dtb.dt n, carried := d.dtb.carried || decide (2 ^ 64 ≤ d.dtb.dt + n) } }

/-- Model time moves to `t`, never back. Gate settings that fall due before `t` are read first. Device
time follows: it stands before the first lock, keeps step while the PLL is locked, and otherwise runs within
1 % of the rate by a free amount (R141, R460). -/
def Dev.advance (t : Nat) (d : Dev) : Dev :=
  if t ≤ d.now then d
  else
    let n := t - d.now
    let d := (List.range 8).foldl (fun (d : Dev) b => (d.readGate t b).readEarly t b) d
    let d := { d with now := t }
    if !d.dtb.run then d
    else if d.pllLocked then d.countOn n
    else
      let (x, d) := d.draw
      d.countOn (n * 99 / 100 + x % (n / 50 + 1))

/-- A command's meaning as a state: a change of the device alone. -/
def State.onDev (f : Dev → Dev) (s : State) : Host.Outcome State Fault Refusal := .next { s with dev := f s.dev }

end Sys2Proof.Machine
end

