-- ==== Sys2Proof/Machine/Crc.lean ====
section
/-! DEFINITION. The cyclic redundancy checks the spec names, bit by bit: CRC-32C (R165), CRC-32/ISO-HDLC (Machine-safety
functions, field sets), CRC-8 of sync frames (R143). -/
namespace Sys2Proof.Machine

/-- n shifts of a reflected (least significant bit first) 32-bit register by polynomial `poly`, given reflected. -/
def crcShift (poly : BitVec 32) : Nat → BitVec 32 → BitVec 32
  | 0, r => r
  | n + 1, r => crcShift poly n (if r.getLsbD 0 then (r >>> 1) ^^^ poly else r >>> 1)

/-- A reflected CRC register after a list of bytes. -/
def crcReflected (poly : BitVec 32) (r : BitVec 32) (bs : List Nat) : BitVec 32 :=
  bs.foldl (fun r b => crcShift poly 8 (r ^^^ BitVec.ofNat 32 (b % 256))) r

/-- CRC-32C with a given seed: 0x1EDC_6F41 reflected, final XOR all ones (R165, R367). -/
def crc32cSeed (seed : BitVec 32) (bs : List Nat) : BitVec 32 := ~~~ crcReflected 0x82F63B78 seed bs

/-- CRC-32C (R165). -/
def crc32c (bs : List Nat) : BitVec 32 := crc32cSeed 0xFFFFFFFF bs

/-- CRC-32/ISO-HDLC: 0x04C1_1DB7 reflected. -/
def crc32 (bs : List Nat) : BitVec 32 := ~~~ crcReflected 0xEDB88320 0xFFFFFFFF bs

/-- n shifts of an 8-bit register, most significant bit first, by x^8 + x^2 + x + 1. -/
def crc8Shift : Nat → BitVec 8 → BitVec 8
  | 0, r => r
  | n + 1, r => crc8Shift n (if r.getLsbD 7 then (r <<< 1) ^^^ 0x07 else r <<< 1)

/-- The CRC of a sync frame over TYPE and payload: seed 0xFF, no final inversion (R143). -/
def crc8 (bs : List Nat) : BitVec 8 :=
  bs.foldl (fun r b => crc8Shift 8 (r ^^^ BitVec.ofNat 8 (b % 256))) 0xFF

end Sys2Proof.Machine
end

