-- ==== Sys2Proof/Machine/EightTen.lean ====
section
/-! DEFINITION. The 8b/10b code groups of the safety lanes (R171): the code of IEEE 802.3 Clause 36, which the spec names and does not
print (PRESUMED, log entry 84). A code group is its ten bits abcdeifghj, a the most significant; a running disparity is true when it
is positive. -/
namespace Sys2Proof.Machine

/-- The 5b/6b sub-blocks abcdei at negative running disparity, by the octet's bits [4:0]. -/
def sixBits : List Nat :=
  [0x27, 0x1D, 0x2D, 0x31, 0x35, 0x29, 0x19, 0x38, 0x39, 0x25, 0x15, 0x34, 0x0D, 0x2C, 0x1C, 0x17,
   0x1B, 0x23, 0x13, 0x32, 0x0B, 0x2A, 0x1A, 0x3A, 0x33, 0x26, 0x16, 0x36, 0x0E, 0x2E, 0x1E, 0x2B]

/-- The 3b/4b sub-blocks fghj at negative running disparity, by the octet's bits [7:5]. -/
def fourBits : List Nat := [0xB, 0x9, 0x5, 0xC, 0xD, 0xA, 0x6, 0xE]

/-- Ones among the low n bits. -/
def onesIn (n x : Nat) : Nat := ((List.range n).filter (fun i => bitAt x i)).length

/-- A sub-block of n bits from its form at negative running disparity, and the disparity after it: an unbalanced one is complemented
at positive disparity and turns it; of the balanced ones only `swap` is complemented. -/
def subBlock (n x : Nat) (swap rd : Bool) : Nat × Bool :=
  let even := onesIn n x == n / 2
  (if rd && (!even || swap) then 2 ^ n - 1 - x else x, if even then rd else !rd)

/-- The code group of an octet, a special one where `k` (K23.7, K27.7, K29.7), with the running disparity after it. -/
def codeGroup (k : Bool) (b : Nat) (rd : Bool) : Nat × Bool :=
  let x := b % 32
  let y := b / 32 % 8
  let (six, rd) := subBlock 6 (sixBits.getD x 0) (x == 7) rd
  let other := y == 7 && (k || (if rd then [11, 13, 14] else [17, 18, 20]).contains x)
  let (four, rd) := subBlock 4 (if other then 0x7 else fourBits.getD y 0) (y == 3) rd
  (16 * six + four, rd)

/-- The code groups of octets one after the other. -/
def codeGroups (rd : Bool) : List (Bool × Nat) → List Nat
  | [] => []
  | (k, b) :: bs =>
    let (g, rd) := codeGroup k b rd
    g :: codeGroups rd bs

/-- The code groups of a frame: /S/ in place of the first octet of the preamble, the rest of it, the start delimiter, the frame, then
/T/ and /R/, and a second /R/ where their count would be odd. The idle before it leaves a negative running disparity. -/
def frameGroups (f : List Nat) : List Nat :=
  if f.isEmpty then []
  else codeGroups false ((true, 0xFB) :: (List.replicate 6 0x55 ++ [0xD5] ++ f).map (fun b => (false, b))
    ++ (true, 0xFD) :: List.replicate (1 + f.length % 2) (true, 0xF7))

end Sys2Proof.Machine
end

