-- ==== Sys2Proof/Machine/Belvedere.lean ====
section
/-! DEFINITION. Belvedere's engine: samples, traces, trigger units and the capture states (Trigger and capture
engine, R284 to R289). Each function answers the device and the bits of page 0x93 to raise, since an event can itself be a
trigger. -/
namespace Sys2Proof.Machine

/-- BLV.STATUS.STATE. -/
abbrev blvIdle : Nat := 0
abbrev blvPre : Nat := 1
abbrev blvReady : Nat := 2
abbrev blvPost : Nat := 3
abbrev blvMask : Nat := 4
abbrev blvDump : Nat := 5
abbrev blvDone : Nat := 6
abbrev blvStopped : Nat := 7

/-- The capture state. -/
def Dev.blvState (d : Dev) : Nat := d.fld 0x93 BLV_STATUS_STATE

/-- Set the capture state. -/
def Dev.blvSet (st : Nat) (d : Dev) : Dev := d.setFld 0x93 BLV_STATUS_STATE st

/-- T1, T2 and the other times of Belvedere are in units of 12.8 ns, 1,024 LSB (R286). -/
abbrev blvUnit : Nat := 1024

/-- An entry lies after the trigger when the last sample of its run does (R288, R289). -/
def BlvEntry.isPost (e : BlvEntry) (tTrig : Nat) : Bool := tTrig < e.lastT

/-- Entries of a trace after the trigger. -/
def BlvTrace.posts (x : BlvTrace) (tTrig : Nat) : Nat := (x.entries.filter (fun e => e.isPost tTrig)).length

/-- Traces as PRE latches them (R288, R289): equal shares of 65,536 entries, POST even in min/max mode and limited to the
share. -/
def Dev.blvLatch (d : Dev) : List BlvTrace :=
  let on := (List.range 4).filter (fun k => d.on 0x94 (BLV_TRACE_EN.plus (8 * k)))
  let depth := if on.length ≤ 1 then 65536 else if on.length = 2 then 32768 else 16384
  on.map (fun k =>
    let mm := d.on 0x94 (BLV_TRACE_MODE.plus (8 * k))
    let p := d.fld 0x94 (BLV_POST_POST.plus (8 * k))
    let p := if mm then 2 * ((p + 1) / 2) else p
    { idx := k, src := d.fld 0x94 (BLV_TRACE_SOURCE.plus (8 * k)), mm := mm
      mmk := max 1 (d.fld 0x94 (BLV_TRACE_MMK.plus (8 * k))), post := min p depth, depth := depth })

/-- READY is entered when every enabled trace holds PRE_k entries (R289); it ends the dead time. -/
def Dev.blvReadyCheck (d : Dev) : Dev :=
  if d.blvState == blvPre && d.blv.traces.all (fun x => x.depth - x.post ≤ x.entries.length) then
    let units := (List.range 4).foldl (fun (u : SMap BlvUnit) k =>
      SMap.put {} u k { SMap.get {} u k with lastX := some d.devTime, timedOut := false }) d.blv.units
    Dev.blvSet blvReady { d with blv := { d.blv with
      units := units, readyAt := d.devTime, hdrMissed := min d.blv.missed (2 ^ 32 - 1)
      hdrDead := min ((d.now - d.blv.deadFrom) / Config.ns 1) (2 ^ 32 - 1) } }
  else d

/-- PRE is entered: pointers cleared, settings latched (R289). -/
def Dev.blvEnterPre (d : Dev) : Dev :=
  Dev.blvReadyCheck (Dev.blvSet blvPre { d with blv := { d.blv with traces := d.blvLatch, timeoutEnd := false } })

/-- The dead time starts now (R289). -/
def Dev.blvDeadStart (d : Dev) : Dev :=
  { d with blv := { d.blv with deadFrom := d.now, missed := 0, deadSeen := false } }

/-- DONE or STOPPED is entered; with AUTO, DONE is followed at once by PRE (R289). -/
def Dev.blvFinish (d : Dev) : Dev × List Nat :=
  if d.on 0x93 BLV_STATUS_LAST_FAIL && d.on 0x93 BLV_CTRL_STOP_ON_FAIL then (d.blvSet blvStopped, [1])
  else
    let d := d.blvSet blvDone
    (if d.on 0x93 BLV_CTRL_AUTO then d.blvEnterPre else d, [1])

/-- After the mask test, or without one: DUMP when a destination is set (R289); it keeps the DEST and DUMP_BASE it begins with (R293). -/
def Dev.blvAfterMask (d : Dev) : Dev × List Nat :=
  let dest := d.fld 0x93 BLV_CTRL_DEST
  if dest != 0 then
    (Dev.blvSet blvDump { d with blv := { d.blv with dest := dest, base := d.fld 0x93 BLV_DUMP_BASE_BASE } }, [])
  else d.blvFinish

/-- The mask segments as they stand: CFG, T0, T1, LO, HI of each (R292). -/
def Dev.blvSegs (d : Dev) : List (List Nat) :=
  (List.range 16).map (fun j => [BLV_MASK_CFG, BLV_MASK_T0, BLV_MASK_T1, BLV_MASK_LO, BLV_MASK_HI].map (fun off => d.regN 0x95 (off + 32 * j)))

/-- MASK is entered: storing stops, runs that are incomplete are not stored, the dead time starts; the test
uses the segments of this moment (R288, R289, R293). -/
def Dev.blvEndPost (timeout : Bool) (d : Dev) : Dev × List Nat :=
  let d := Dev.blvDeadStart { d with blv := { d.blv with
    traces := d.blv.traces.map (fun (x : BlvTrace) => { x with run := none })
    timeoutEnd := timeout, maskRun := d.on 0x93 BLV_CTRL_MASK_EN, failSeg := 0, segs := d.blvSegs } }
  let d := d.blvSet blvMask
  if d.blv.maskRun then (d, []) else (d.setFld 0x93 BLV_STATUS_LAST_FAIL 0).blvAfterMask

/-- POST ends when every trace holds POST_k entries after the trigger (R289). -/
def Dev.blvPostCheck (d : Dev) : Dev × List Nat :=
  if d.blvState == blvPost && d.blv.traces.all (fun x => x.post ≤ x.posts d.blv.tTrig) then d.blvEndPost false
  else (d, [])

/-- DTB.STATUS.LOCKED as it was at device time `t`. -/
def Dev.lockedAt (d : Dev) (t : Nat) : Bool :=
  match (d.dtb.lockLog.filter (fun x => t < x.1)).getLast? with
  | some x => x.2
  | none => d.on 0x03 DTB_STATUS_LOCKED

/-- The accepted trigger's record (R287, R290). -/
def Dev.blvTake (rank tt : Nat) (d : Dev) : Dev :=
  { d with blv := { d.blv with tTrig := tt, src := rank, unsync := !d.lockedAt tt, stepRank := some rank } }

/-- A trigger is decided with T_trig `tt` (R287, R289): rank 0 to 3 is the unit, 4 the event, 5 FORCE. The first in READY is
accepted; of several in one step the lowest rank is, even where the capture has ended in it; in dead time it is missed. -/
def Dev.blvTrigger (rank tt : Nat) (d : Dev) : Dev × List Nat :=
  let st := d.blvState
  if st == blvIdle then (d, [])
  else
    let d := d.bump 0x93 BLV_TRIG_CNT
    match d.blv.stepRank with
    | some r =>
      if rank < r then
        let d := d.blvTake rank tt
        if st == blvPost then d.blvPostCheck else (d, [])
      else (d, [])
    | none =>
    if st == blvReady then
      let d := ((d.blvSet blvPost).bump 0x93 BLV_CAPTURE_NUM).blvTake rank tt
      let (d, bs) := d.blvPostCheck
      (d, 0 :: bs)
    else if st == blvPost then (d, [])
    else
      ({ d.bump 0x93 BLV_MISSED_CNT with blv := { d.blv with missed := d.blv.missed + 1, deadSeen := true } },
        if d.blv.deadSeen then [] else [3])

/-! ### Storing -/

/-- Add an entry; the oldest goes when the share is full (R288). -/
def BlvTrace.push (x : BlvTrace) (e : BlvEntry) : BlvTrace :=
  let es := x.entries ++ [e]
  { x with entries := es.drop (es.length - x.depth) }

/-- A run with one more sample; on equal values the earlier sample is used (R288). -/
def BlvRun.add (r : BlvRun) (v : Int) (fl t : Nat) : BlvRun :=
  { n := r.n + 1, flags := r.flags ||| fl
    minV := if v < r.minV then v else r.minV, minT := if v < r.minV then t else r.minT
    maxV := if r.maxV < v then v else r.maxV, maxT := if r.maxV < v then t else r.maxT }

/-- A sample reaches a trace (R288): raw, one entry; min/max, two entries at the end of each run. -/
def BlvTrace.sample (x : BlvTrace) (v : Int) (fl t : Nat) : BlvTrace :=
  if !x.mm then x.push ⟨v, fl, t, t⟩
  else
    let r := match x.run with
      | none => (⟨1, v, t, v, t, fl⟩ : BlvRun)
      | some r => r.add v fl t
    if r.n < 2 ^ x.mmk then { x with run := some r }
    else ({ x with run := none }.push ⟨r.minV, r.flags + 64, r.minT, t⟩).push ⟨r.maxV, r.flags + 192, r.maxT, t⟩

/-- A sample is stored in every trace that uses its source, in PRE, READY and POST; a trace that holds its post-trigger
entries stores no more (R288, R289). -/
def Dev.blvStore (code : Nat) (v : Int) (fl t : Nat) (d : Dev) : Dev :=
  let st := d.blvState
  if st == blvPre || st == blvReady || st == blvPost then
    { d with blv := { d.blv with traces := d.blv.traces.map (fun (x : BlvTrace) =>
        if x.src == code && !(st == blvPost && x.post ≤ x.posts d.blv.tTrig) then x.sample v fl t else x) } }
  else d

/-! ### Trigger units (R286, Table 13-2) -/

/-- The side of a sample with respect to level x, `old` where it lies inside the hysteresis. -/
def sideOf (v x hyst : Int) (old : Option Bool) : Option Bool :=
  if x + hyst ≤ v then some true else if v < x - hyst then some false else old

/-- One sample's effect on a unit that has TYPE, POL, COND, T1 and T2 in LSB: its state and whether it fires. `up1` tells a
crossing to above L1, `dn1` one to below; `up2`, `dn2` the same of L2. -/
def BlvUnit.decide (u : BlvUnit) (type : Nat) (pol cond : Bool) (t1 t2 t : Nat) (up1 dn1 up2 dn2 : Bool) : BlvUnit × Bool :=
  if type == 0 then
    let begins := if pol then dn1 else up1
    let ends := if pol then up1 else dn1
    if begins then ({ u with from_ := some t, fired := false }, false)
    else match u.from_ with
      | none => (u, false)
      | some b =>
        if ends then
          ({ u with from_ := none }, if cond then t - b < t1 else t1 ≤ t - b && t - b ≤ t2)
        else if cond && t2 < t - b && !u.fired then ({ u with fired := true }, true)
        else (u, false)
  else if type == 1 then
    let begins := if pol then dn2 else up1
    let ends := if pol then up2 else dn1
    let bad := if pol then u.s1 == some false else u.s2 == some true
    if begins then ({ u with from_ := some t, hit := bad }, false)
    else match u.from_ with
      | none => (u, false)
      | some b =>
        if ends then ({ u with from_ := none }, !u.hit && t1 ≤ t - b)
        else ({ u with hit := u.hit || bad }, false)
  else if type == 2 then (u, false)
  else
    let leaves := if pol then dn2 else up1
    let back := if pol then up2 else dn1
    let there := if pol then u.s1 == some false else u.s2 == some true
    let u := if leaves then { u with from_ := some t } else if back then { u with from_ := none } else u
    match u.from_ with
    | none => (u, false)
    | some a =>
      if there then
        let inside := t1 ≤ t - a && t - a ≤ t2
        ({ u with from_ := none }, if cond then !inside else inside)
      else (u, false)

/-- A unit's register at offset `off` of its block of 32 bytes. -/
def Dev.tuReg (d : Dev) (k off : Nat) : Nat := d.regN 0x94 (off + 32 * k)

/-- A sample reaches unit k (R286). -/
def Dev.blvUnitSample (k : Nat) (v : Int) (t : Nat) (d : Dev) : Dev × List Nat :=
  let u := SMap.get {} d.blv.units k
  let l1 := signed 24 (d.tuReg k BLV_TU_L1)
  let l2 := signed 24 (d.tuReg k BLV_TU_L2)
  let hy : Int := (d.tuReg k BLV_TU_HYST % 2 ^ 23 : Nat)
  let s1 := sideOf v l1 hy u.s1
  let s2 := sideOf v l2 hy u.s2
  let up1 := u.s1 == some false && s1 == some true
  let dn1 := u.s1 == some true && s1 == some false
  let up2 := u.s2 == some false && s2 == some true
  let dn2 := u.s2 == some true && s2 == some false
  let u := { u with s1 := s1, s2 := s2 }
  let u := if up1 || dn1 then { u with lastX := some t, timedOut := false } else u
  let f (x : Fld) : Nat := d.fld 0x94 (x.plus (32 * k))
  let (u, fire) := u.decide (f BLV_TU_CFG_TYPE) (f BLV_TU_CFG_POL == 1) (f BLV_TU_CFG_COND == 1)
    (blvUnit * d.tuReg k BLV_TU_T1) (blvUnit * d.tuReg k BLV_TU_T2) t up1 dn1 up2 dn2
  let d := { d with blv := { d.blv with units := SMap.put {} d.blv.units k u } }
  if fire then d.blvTrigger k t else (d, [])

/-- A source's sample reaches Belvedere (R284 to R288): storing, READY, POST's end, then the units in order. -/
def Dev.blvSample (code : Nat) (v : Int) (fl t : Nat) (d : Dev) : Dev × List Nat :=
  if d.blvState == blvIdle then (d, [])
  else
    let (d, bs) := ((d.blvStore code v fl t).blvReadyCheck).blvPostCheck
    (List.range 4).foldl (fun (x : Dev × List Nat) k =>
      if bitAt (x.1.fld 0x93 BLV_CTRL_TRIG_EN) k && x.1.fld 0x94 (BLV_TU_CFG_SRC.plus (32 * k)) == code then
        let (d, b) := x.1.blvUnitSample k v t
        (d, x.2 ++ b)
      else x) (d, bs)

/-- A unit's side and timing state starts afresh (R287); the timeout runs from now. -/
def Dev.blvUnitReset (k : Nat) (d : Dev) : Dev :=
  { d with blv := { d.blv with units := SMap.put {} d.blv.units k { lastX := some d.devTime } } }

/-- TIMEOUT_TRIGGER (R286): unit k of type 2 fires at t_last + T1 when that time has come. -/
def Dev.blvTimeout (k : Nat) (d : Dev) : Dev × List Nat :=
  let u := SMap.get {} d.blv.units k
  match u.lastX with
  | none => (d, [])
  | some x =>
    let tt := x + blvUnit * d.tuReg k BLV_TU_T1
    if d.blvState != blvIdle && bitAt (d.fld 0x93 BLV_CTRL_TRIG_EN) k
        && d.fld 0x94 (BLV_TU_CFG_TYPE.plus (32 * k)) == 2 && !u.timedOut && tt ≤ d.edgeTime then
      Dev.blvTrigger k tt { d with blv := { d.blv with units := SMap.put {} d.blv.units k { u with timedOut := true } } }
    else (d, [])

/-! ### Commands on the engine -/

/-- ABORT (R289). -/
def Dev.blvAbort (d : Dev) : Dev := d.blvSet blvIdle

/-- ARM (R289): from IDLE the units and the dead time start; in READY and POST the partial capture is lost; not in MASK or
DUMP. -/
def Dev.blvArm (d : Dev) : Dev :=
  let st := d.blvState
  if st == blvMask || st == blvDump then d
  else
    let d := if st == blvIdle then (List.range 4).foldl (fun d k => Dev.blvUnitReset k d) d else d
    let d := if st == blvIdle || st == blvReady || st == blvPost then d.blvDeadStart else d
    d.blvEnterPre

/-- BLV_TIMEOUT_END (R289): 2^31 units of 12.8 ns after T_trig the capture ends. -/
def Dev.blvTimeoutEnd (d : Dev) : Dev × List Nat :=
  if d.blvState == blvPost && d.blv.tTrig + 2 ^ 41 ≤ d.edgeTime then d.blvEndPost true else (d, [])

/-- The mask test on one segment (R292): whether it fails. -/
def Dev.blvSegFails (d : Dev) (j : Nat) : Bool :=
  let r (i : Nat) : Nat := (d.blv.segs.getD j []).getD i 0
  if !bitAt (r 0) 31 then false
  else match d.blv.traces.find? (fun x => x.idx == r 0 % 4) with
    | none => false
    | some x =>
      x.entries.any (fun e =>
        let o : Int := (e.t / blvUnit : Nat) - (d.blv.tTrig / blvUnit : Nat)
        signed 32 (r 1) ≤ o && o ≤ signed 32 (r 2) && (e.value < signed 24 (r 3) || signed 24 (r 4) < e.value)
          && e.t + 2 ^ 41 ≥ d.blv.tTrig)

/-- BLV_MASK_TEST_DONE (R292): the test's counts and result, then DUMP or the end. -/
def Dev.blvMaskDone (d : Dev) : Dev × List Nat :=
  if d.blvState != blvMask then (d, [])
  else
    let fails := (List.range 16).filter (fun j => d.blvSegFails j)
    let set := fails.foldl (fun n j => n + 2 ^ j) 0
    let d := fails.foldl (fun (d : Dev) j => d.bump 0x96 (BLV_SEG_FAIL + 4 * j)) d
    let bad := !fails.isEmpty
    let d := d.bump 0x96 (if bad then BLV_MASK_FAIL else BLV_MASK_PASS)
    let d := (d.setFld 0x96 BLV_FAIL_SEG_SEG set).setFld 0x93 BLV_STATUS_LAST_FAIL bad.toNat
    let (d, bs) := Dev.blvAfterMask { d with blv := { d.blv with failSeg := set } }
    (d, (if bad then [2] else []) ++ bs)

/-! ### Image -/

/-- Entries of a trace that the image holds: none more than 2^31 units before the trigger (R289). -/
def BlvTrace.kept (x : BlvTrace) (tTrig : Nat) : List BlvEntry := x.entries.filter (fun e => tTrig ≤ e.t + 2 ^ 41)

/-- A trace's descriptor (Table 13-4): PRE counts the entries whose own t is not after T_trig. -/
def BlvTrace.descriptor (x : BlvTrace) (tTrig : Nat) : List Nat :=
  let es := x.kept tTrig
  [x.src, x.mm.toNat + 2 * x.mmk] ++ leBytes 3 es.length ++ leBytes 3 (es.filter (fun e => e.t ≤ tTrig)).length

/-- An entry's bytes (Table 13-5). -/
def BlvEntry.bytes (e : BlvEntry) : List Nat := leBytes 3 (toBits 24 e.value) ++ [e.flags] ++ leBytes 4 (e.t / 1024)

/-- The capture image (R290). -/
def Dev.blvImage (d : Dev) : List Nat :=
  let b := d.blv
  leBytes 4 (d.regN 0x93 BLV_CAPTURE_NUM)
    ++ [1, b.src + 8 * b.maskRun.toNat + 16 * (decide (b.failSeg ≠ 0)).toNat + 32 * b.timeoutEnd.toNat + 64 * b.unsync.toNat]
    ++ leBytes 2 b.failSeg ++ leBytes 8 b.tTrig ++ leBytes 4 b.hdrDead ++ leBytes 4 b.hdrMissed
    ++ [d.fld 0x03 DTB_CTRL_PARK_INDEX, b.traces.foldl (fun n x => n + 2 ^ x.idx) 0] ++ leBytes 6 0
    ++ (List.range 4).flatMap (fun k => match b.traces.find? (fun x => x.idx == k) with
        | some x => x.descriptor b.tTrig
        | none => leBytes 8 0)
    ++ b.traces.flatMap (fun x => (x.kept b.tTrig).flatMap BlvEntry.bytes)

/-- A read of BLV.RD_DATA (R291): an image word in DONE and STOPPED, else 0; ADDR advances by one word. A word past the
image's end is open. -/
def Dev.blvReadData (d : Dev) : Word × Dev :=
  let a := d.fld 0x93 BLV_RD_ADDR_ADDR
  let adv (d : Dev) : Dev := d.setFld 0x93 BLV_RD_ADDR_ADDR (a + 1)
  if d.blvState == blvDone || d.blvState == blvStopped then
    let im := d.blvImage
    if 4 * a < im.length then (BitVec.ofNat 32 (ofLe ((im.drop (4 * a)).take 4)), adv d)
    else
      let (x, d) := d.draw
      (BitVec.ofNat 32 x, adv d)
  else (0, adv d)

end Sys2Proof.Machine
end

