-- ==== Sys2Proof/Machine/Events.lean ====
section
/-! DEFINITION. The event matrix: raising an event of a page, its pulse and what every hardware consumer
does with it, the log, the counters, markers, EVT pins (R439, R444 to R449). -/
namespace Sys2Proof.Machine

/-- The source to which bit b of page p contributes (Table 20-4). -/
def eventSource (p b : Nat) : Option Nat :=
  if p == 0x00 then if b < 4 then some b else none
  else if p == 0x01 then if b < 4 then some (4 + b) else none
  else if p == 0x02 then if b < 2 then some (8 + b) else if b == 2 then some 287 else none
  else if p == 0x03 then if b < 5 then some (10 + b) else none
  else if p == 0x04 then if b < 7 then some (15 + b) else none
  else if p == 0x05 then if b < 5 then some (22 + b) else none
  else if p == 0x06 then if b < 5 then some (27 + b) else none
  else if p == 0x07 then if b < 3 then some (253 + b) else none
  else if p < 0x0C then if b < 3 then some (64 + 8 * (p - 0x08) + b) else none
  else if p < 0x10 then
    if b < 2 then some (67 + 8 * (p - 0x0C) + b) else if b == 2 then some (102 + 8 * (p - 0x0C)) else none
  else if p < 0x50 then
    let t := (p - 0x10) / 16
    if b < 5 then some (32 + 8 * t + b)
    else if p % 16 == 0 && 8 ≤ b && b < 11 then some (37 + 8 * t + (b - 8))
    else if p % 16 == 0 && b == 11 then some (103 + 8 * t)
    else none
  else if p < 0x54 then if b < 3 then some (69 + 8 * (p - 0x50) + b) else none
  else if p < 0x58 then if b < 6 then some (96 + 8 * (p - 0x54) + b) else none
  else if p < 0x78 then
    let t := (p - 0x58) / 8
    if b < 5 then some (128 + 8 * t + b)
    else if p % 8 == 0 && 8 ≤ b && b < 11 then some (133 + 8 * t + (b - 8))
    else if p % 8 == 0 && b == 11 then some 223
    else none
  else if p < 0x82 then
    if b < 3 then some (if p < 0x80 then 224 + b else if p == 0x80 then 227 + b else 230 + b)
    else if b == 3 then some 233 else none
  else if p == 0x82 then if b < 4 then some (234 + b) else none
  else if p == 0x83 then if b < 7 then some (192 + b) else none
  else if p == 0x84 then if b < 7 then some (199 + b) else none
  else if p == 0x85 then if b < 8 then some (206 + b) else none
  else if p < 0x8E then
    let l := p - 0x86
    if b == 0 then some (160 + 4 * l) else if b == 1 then some (161 + 4 * l)
    else if b == 4 then some (162 + 4 * l) else if b == 7 then some (163 + 4 * l)
    else if b == 2 then some 283 else if b == 3 then some 284
    else if b == 5 then some 285 else if b == 6 then some 286 else none
  else if p == 0x8E then if b < 7 then some (238 + b) else none
  else if p == 0x92 then if b < 3 then some (245 + b) else none
  else if p == 0x93 then if b < 5 then some (248 + b) else none
  else if 0x97 ≤ p && p < 0xAF then if b < 3 then some (280 + b) else none
  else if p == 0xB0 then if b < 9 then some (214 + b) else none
  else none

/-- The register of EVM.ROUTE_n. -/
def routeReg (n : Nat) : Nat := EVM_ROUTE + 4 * n

/-- Whether a field of EVM.ROUTE_n is set: bit 4 MARK, 3 LOG, 2 PIN_EN. -/
def Dev.routeBit (d : Dev) (n b : Nat) : Bool := d.bit 0x02 (routeReg n) b

/-- EVENT_PENDING of page p: RAW AND NOT MASK (R438, R439). -/
def Dev.pending (d : Dev) (p : Nat) : Word := d.reg p EVENT_RAW &&& ~~~ d.reg p EVENT_MASK

/-- Whether a contributing page of source n has its EVENT_PENDING bit set (R445, EVM.SUMMARY). -/
def Dev.sourcePending (d : Dev) (n : Nat) : Bool :=
  (List.range 0xB5).any (fun p =>
    (d.pending p != 0) && (List.range 12).any (fun b => eventSource p b == some n && bitAt (d.pending p).toNat b))

/-- EVM.SUMMARY_g (R452). -/
def Dev.summary (d : Dev) (g : Nat) : Nat :=
  (List.range 32).foldl (fun a i => if d.sourcePending (32 * g + i) then a + 2 ^ i else a) 0

/-- Whether pin EVTp_L is driven low (R445). -/
def Dev.pinLow (d : Dev) (p : Nat) : Bool :=
  (List.range 0xB5).any (fun q =>
    (d.pending q != 0) && (List.range 12).any (fun b =>
      bitAt (d.pending q).toNat b &&
      match eventSource q b with
      | none => false
      | some n => d.routeBit n 2 && d.fld 0x02 (EVM_ROUTE_PIN.plus (4 * n)) == p))

/-- The event log with a new entry; the oldest is overwritten when all 1,024 are in use (R449). Answers
whether one was overwritten. -/
def Evm.append (e : Evm) (time src page bit : Nat) : Evm × Bool :=
  let x : LogEntry := ⟨e.seq, time, src, page, bit⟩
  let seq := (e.seq + 1) % 2 ^ 32
  if e.log.length < 1024 then ({ e with log := e.log ++ [x], seq := seq }, false)
  else ({ e with log := e.log.drop 1 ++ [x], seq := seq }, true)

/-- Count a pulse of source n on every counter that selects it (R447). -/
def Dev.countPulse (n : Nat) (d : Dev) : Dev :=
  (List.range 16).foldl (fun d k =>
    if d.on 0x02 (EVM_CNT_SEL_EN.plus (4 * k)) && d.fld 0x02 (EVM_CNT_SEL_SRC.plus (4 * k)) == n
    then d.bump 0x02 (EVM_CNT + 4 * k) else d) d

/-- The channel's pending DMA trigger (R330): a channel in WAIT_TRIG (state 3) consumes the pulse and runs; otherwise it is pending, or
merged when one is. Answers the merges. -/
def Dev.dmaPulse (n : Nat) (d : Dev) : Dev × Nat :=
  (List.range 24).foldl (fun (x : Dev × Nat) c =>
    let d := x.1
    let p := 0x97 + c
    if d.on p DMA_CTRL_EN && d.on 0xAF DMA_COMMON_CTRL_EN && d.fld p DMA_CTRL_TRIG_SEL == n then
      if d.fld p DMA_STATUS_STATE == 3 then (d.setFld p DMA_STATUS_STATE 2, x.2)
      else if d.on p DMA_STATUS_TRIG_PENDING then (d, x.2 + 1) else (d.setFld p DMA_STATUS_TRIG_PENDING 1, x.2)
    else x) (d, 0)

/-- A marked source's pulse becomes a marker (R448); with the queue full it waits unaccepted, and
a further pulse of a waiting source is merged (R446). Answers the merges. -/
def Dev.markPulse (n : Nat) (d : Dev) : Dev × Nat :=
  if !d.routeBit n 4 then (d, 0)
  else
    let m : Marker := ⟨n, d.regN 0x83 BND_SLOT_NUM, d.devTime⟩
    if d.evm.markers.length < 16 then ({ d with evm := { d.evm with markers := d.evm.markers ++ [m] } }, 0)
    else if d.evm.waiting.any (fun w => w.src == n) then (d, 1)
    else ({ d with evm := { d.evm with waiting := d.evm.waiting ++ [m] } }, 0)

/-- DTEST ball k is driven by signal n of a kind (R496, R497). -/
def Dev.dtestShows (kind n : Nat) (d : Dev) (k : Nat) : Bool :=
  d.bit 0xB4 DBG_STATUS 1 && d.on 0xB4 (DBG_DTEST_EN.plus (4 * k)) && d.fld 0xB4 (DBG_DTEST_KIND.plus (4 * k)) == kind
    && d.fld 0xB4 (DBG_DTEST_SEL.plus (4 * k)) == n

/-- A pulse of the signal: the DTEST balls that show it rise, but for one that rose less than 25.6 ns before, where the two merge (R497). -/
def Dev.dtestPulse (kind n : Nat) (d : Dev) : Dev :=
  { d with dtest := (List.range 16).foldl (fun a k =>
      if d.dtestShows kind n k && (SMap.get 0 a k == 0 || SMap.get 0 a k + 2048 ≤ d.now + 1) then SMap.put 0 a k (d.now + 1) else a) d.dtest }

/-- The level of DTEST ball k (R496, R497): high for 12.8 ns from a rise of the signal it shows; with the clock selected, high in one half
of every 64 coarse periods (which half is DESIGN CHOICE, log entry 88); low with nothing selected. -/
def Dev.dtestHigh (d : Dev) (k : Nat) : Bool :=
  if d.dtestShows 1 0 k then d.devTime % 4096 < 2048
  else d.bit 0xB4 DBG_STATUS 1 && d.on 0xB4 (DBG_DTEST_EN.plus (4 * k)) && SMap.get 0 d.dtest k != 0 && d.now + 1 < SMap.get 0 d.dtest k + 1024

/-- A pulse of source n reaches every hardware consumer, once in a step (R444, R446). Answers the merges and
the Belvedere event bits to raise. -/
def Dev.deliver (n : Nat) (d : Dev) : Dev × Nat × List Nat :=
  if d.evm.pulsed.contains n then (d, 1, [])
  else
    let d := { d with evm := { d.evm with pulsed := n :: d.evm.pulsed } }
    let d := (d.countPulse n).dtestPulse 0 n
    let (d, m1) := d.dmaPulse n
    let (d, m2) := d.markPulse n
    let (d, bl) :=
      if d.on 0x93 BLV_CTRL_TRIG_EVT && d.fld 0x93 BLV_CTRL_EVT_SEL == n then d.blvTrigger 4 d.devTime
      else (d, [])
    (d, m1 + m2, bl)

/-- Whether the counter at `off` of page `p` has raised its event since it was last read. -/
def Dev.wasSeen (d : Dev) (p off : Nat) : Bool := SMap.get false d.seen (regKey p off)

/-- Mark that it has. -/
def Dev.markSeen (d : Dev) (p off : Nat) : Dev := { d with seen := SMap.put false d.seen (regKey p off) true }

/-- One log entry of source n when its ROUTE.LOG is set (R449). Answers whether an entry was overwritten. -/
def Dev.logRaise (n p b : Nat) (d : Dev) : Dev × Bool :=
  if d.routeBit n 3 then
    let (e, o) := d.evm.append d.devTime n p b
    ({ d with evm := e }, o)
  else (d, false)

/-- Raise bit b of page p: RAW, log, one pulse per source and step, every consumer (R439, R444, R446, R449).
`fuel` bounds the chain of events that a raise itself causes (EVM_LOG_OVF, EVM_PULSE_MERGE, a
Belvedere trigger); each of these is raised at most once in a step, so five are enough. -/
def Dev.raiseN : Nat → Nat → Nat → Dev → Dev
  | 0, p, b, d => d.setBit p EVENT_RAW b
  | fuel + 1, p, b, d =>
    let d := d.setBit p EVENT_RAW b
    match eventSource p b with
    | none => d
    | some n =>
      let (d, ovf) := d.logRaise n p b
      let (d, ms, bl) := d.deliver n
      let d := if ovf then d.bump 0x02 EVM_LOG_OVF else d
      let d :=
        if ovf && !d.wasSeen 0x02 EVM_LOG_OVF then Dev.raiseN fuel 0x02 0 (d.markSeen 0x02 EVM_LOG_OVF) else d
      let d := if 0 < ms then d.bumpBy 0x02 EVM_PULSE_MERGE ms else d
      let d :=
        if 0 < ms && !d.wasSeen 0x02 EVM_PULSE_MERGE then
          Dev.raiseN fuel 0x02 1 (d.markSeen 0x02 EVM_PULSE_MERGE)
        else d
      bl.foldl (fun d b => Dev.raiseN fuel 0x93 b d) d

/-- Raise bit b of page p. -/
def Dev.raise (p b : Nat) (d : Dev) : Dev := Dev.raiseN 5 p b d

/-- Raise bit b of page p at a moment of its own within the command: a pulse of its source before it has passed (R446). -/
def Dev.raiseApart (p b : Nat) (d : Dev) : Dev :=
  Dev.raise p b { d with evm := { d.evm with pulsed := d.evm.pulsed.filter (fun n => some n != eventSource p b) } }

/-- A pulse of a source that has no page bit: DMA_DONE of channel c, source 256 + c (R329). -/
def Dev.pulseOnly (n : Nat) (d : Dev) : Dev :=
  let (d, ms, bl) := d.deliver n
  let d := if 0 < ms then d.bumpBy 0x02 EVM_PULSE_MERGE ms else d
  let d :=
    if 0 < ms && !d.wasSeen 0x02 EVM_PULSE_MERGE then Dev.raise 0x02 1 (d.markSeen 0x02 EVM_PULSE_MERGE) else d
  bl.foldl (fun d b => d.raise 0x93 b) d

/-- Raise several bits of a page, in order. -/
def Dev.raiseAll (p : Nat) (bs : List Nat) (d : Dev) : Dev := bs.foldl (fun d b => d.raise p b) d

/-- A source's sample reaches Belvedere, with the events this causes (R284). -/
def Dev.sampleTo (code : Nat) (v : Int) (fl t : Nat) (d : Dev) : Dev :=
  let (d, bs) := d.blvSample code v fl t
  d.raiseAll 0x93 bs

/-- Count on a 32-bit counter and raise bit b of its page at the first count after the counter was read. -/
def Dev.bumpFirst (p off b : Nat) (d : Dev) : Dev :=
  let d := d.bump p off
  if d.wasSeen p off then d else (d.markSeen p off).raise p b

/-- An access to an unmapped address, or of the wrong width or alignment (R437). -/
def Dev.badAddr (d : Dev) : Dev := d.bumpFirst 0x00 DEV_BAD_ADDR 3

/-- A command the control port ignores (R435). -/
def Dev.badCmd (d : Dev) : Dev := d.bumpFirst 0x00 DEV_BAD_CMD 3

/-- Enter a device state; DEV_STATE is raised when it changes, DEV_FAULT and DEV_SAFE_HOLD at those
entries (Table 20-3). The entry actions are the caller's. -/
def Dev.setState (st : Nat) (d : Dev) : Dev :=
  if d.devState == st then d
  else
    let d := (d.setFld 0x00 DEV_STATE_STATE st).raise 0x00 0
    if st == stFault then d.raise 0x00 1
    else if st == stSafeHold then d.raise 0x00 2
    else d

end Sys2Proof.Machine
end

