-- ==== Sys2Proof/Machine/CalTest.lean ====
section
/-! DEFINITION. What a bed test of Calibration sees of conversions, and how it fails (Calibration, R384, R385, R387,
R389). -/
namespace Sys2Proof.Machine

/-- CAL.STATUS.STATE. -/
def Dev.calState (d : Dev) : Nat := d.fld 0x07 CAL_STATUS_STATE

/-- A run of a bed test counts (R385, R386). -/
def Dev.calRuns (d : Dev) : Bool := let s := d.calState; s == 1 || s == 2

/-- CAL holds the pixel gates of the bed open, and its detections are converted only (R384, source 1). -/
def Dev.calHolds (d : Dev) (bed : Nat) : Bool := d.calRuns && d.cal.free && d.cal.bed == some bed

/-- The reference channel of terrace t is under test, so that an on-die oscillator replaces START_t (R384). -/
def Dev.calRef (d : Dev) (t : Nat) : Bool :=
  d.calRuns && d.cal.ref && (match d.cal.bed with | some b => b / 16 == t | none => false)

/-- Take one hit of channel k of the bed (32: the reference) with raw code `raw`: no more than HITS, and toward a fine code only
from 64 to 127 (R384, R385). -/
def Cal.take (k raw : Nat) (c : Cal) : Cal :=
  let h := SMap.get 0 c.total k
  if c.hits ≤ h then c
  else
    let i := 64 * k + (127 - raw)
    { c with total := SMap.put 0 c.total k (h + 1)
             tally := if 64 ≤ raw && raw ≤ 127 then SMap.put 0 c.tally i (SMap.get 0 c.tally i + 1) else c.tally }

/-- CODE_DENSITY_HIT (R384): a conversion of event channel ch is a hit of the bed under test; under source 0 only in a listen
slot. -/
def Dev.codeHit (ch raw : Nat) (d : Dev) : Dev :=
  let listen := match d.bnd.acq with | some a => a.listen | none => false
  if d.calRuns && d.cal.bed == some (ch / 32) && (d.cal.free || listen) then { d with cal := d.cal.take (ch % 32) raw } else d

/-- A bed test ends without success: nothing of the bed is committed (R386, R387, R389). -/
def Dev.calFail (cause : Nat) (d : Dev) : Dev :=
  match d.cal.bed with
  | none => d
  | some _ =>
    let d := if d.cal.ref then d.setFld 0x07 CAL_STATUS_REF_FAIL 1 else d
    let d := Dev.setFld { d with cal := { d.cal with bed := none, ref := false } } 0x07 CAL_STATUS_STATE 0
    Dev.raise 0x07 1 (((d.setFld 0x07 CAL_STATUS_CAUSE cause).setRegN 0x07 CAL_CH_FAIL (2 ^ 32 - 1)).bump 0x07 CAL_FAIL_CNT)

/-- A happening of Table 17-3 in terrace t fails the test that runs there. -/
def Dev.calFailIn (t cause : Nat) (d : Dev) : Dev :=
  match d.cal.bed with
  | some b => if b / 16 == t then d.calFail cause else d
  | none => d

/-- The first byte at `off` of a payload's 16-bit field, counted up by n. -/
def addField16 (off n : Nat) (bs : List Nat) : List Nat :=
  let v := bs.getD off 0 + 256 * bs.getD (off + 1) 0 + n
  (bs.set off (v % 256)).set (off + 1) (v / 256 % 256)

/-- CFG_TOUCHED of a skipped slot's header that waits to be sent (R134, Table 06-2 byte 24). -/
def Packet.touch (p : Packet) : Packet :=
  if p.late.isSome then { p with payload := p.payload.set 24 (p.payload.getD 24 0 ||| 1) } else p

/-- How many headers that wait are newly marked in frame f by a write (R134, R139). -/
def Dev.newlyTouched (d : Dev) (f : Nat) : Nat :=
  (d.prm.queue.filter (fun p => p.late == some f && p.payload.getD 24 0 % 2 == 0)).length

/-- CFG_TOUCHED: a configuration write marks every slot that is open (R35), and every skipped slot whose header has not been sent (R134);
the frames' counts of marked slots follow, in an END marker that waits too (R139). -/
def Dev.touchSlots (d : Dev) : Dev :=
  let fin (p : Packet) : Bool := p.type == 2 && p.payload.getD 6 0 == 1
  let frame (p : Packet) : Nat := p.payload.getD 4 0 + 256 * p.payload.getD 5 0
  { d with
    slots := d.slots.map (fun (s : SlotRec) => { s with touched := true })
    frames := d.frames.map (fun (g : FrameRec) => { g with touched := g.touched + d.newlyTouched g.num })
    prm := { d.prm with queue := d.prm.queue.map (fun p =>
      if fin p then { p with payload := addField16 20 (d.newlyTouched (frame p)) p.payload } else p.touch) } }

end Sys2Proof.Machine
end

