-- ==== Sys2Proof/Machine/Sundial.lean ====
section
/-! DEFINITION. Sundial: conversions, calibration tables, START reference channels, time of flight, queues, the scale
loop (Timing channels, R59 to R78). -/
namespace Sys2Proof.Machine

/-- SDL page of bed m, and the reference page of terrace t. -/
def sdlPage (m : Nat) : Nat := 0x10 + m
def refPage (t : Nat) : Nat := 0x10 + 16 * t

/-- Raise bit b of bed m once per slot (Table 03-6). -/
def Dev.bedOnce (m b : Nat) (d : Dev) : Dev :=
  let t := m / 16
  let s := d.getSdl t
  let i := 8 * (m % 16) + b
  if bitAt s.once i then d else (d.setSdl t { s with once := withBit s.once i }).raise (sdlPage m) b

/-- Width w_j of a table that starts at register `base` of page `p`, by the given reading of a word (R64). -/
def widthOf (rd : Nat → Word) (base j : Nat) : Nat :=
  bitsOf (rd (base + 4 * (j / 4))) (8 * (j % 4) + 7) (8 * (j % 4))

/-- The 64 widths of a table. -/
def widths (rd : Nat → Word) (base : Nat) : List Nat := (List.range 64).map (widthOf rd base)

/-- The corrected fine code F of code f (R65). -/
def fineOf (ws : List Nat) (f : Nat) : Nat :=
  let total := ws.foldl (· + ·) 0
  let pre := (ws.take f).foldl (· + ·) 0
  let c := 2 * pre + ws.getD f 0
  if total = 0 then 0
  else if total ≤ 32 * c then (64 * c + total) / (2 * total) - 1 else 0

/-- The fine code a raw code gives, clamped (R61). -/
def rawFine (raw : Nat) : Nat := 127 - min (max raw 64) 127

/-- A raw code outside 62 to 130 (R61). -/
def rawOut (raw : Nat) : Bool := raw < 62 || 130 < raw

/-- The timestamp of a conversion now: coarse count of the edge before, corrected fine code, 19 bits (R59, R61, R65). -/
def Dev.stampNow (d : Dev) (ws : List Nat) (raw : Nat) : Nat :=
  ((d.edgeTime / 64) * 64 + fineOf ws (rawFine raw)) % 2 ^ 19

/-- CONVERSION_START (R61, R62): a detection reaches channel `ch` with raw code `raw`; inside the conversion dead
time it is dropped and counted. Under source 1 of a bed test it is converted only (R384). -/
def Dev.convert (ch raw : Nat) (d : Dev) : Dev :=
  let m := ch / 32
  let t := ch / 512
  let p := sdlPage m
  let c := d.getChan ch
  if d.now < c.deadEnd then
    let s := d.getSdl t
    (d.setSdl t { s with deadSum := sat16 (s.deadSum + 1) }).bumpSat p (SDL_DEAD_CH + 4 * (ch % 32))
  else
    let ws := widths (d.reg p) (SDL_CAL_TAB + 64 * (ch % 32))
    let st : Stamp := ⟨d.now, d.stampNow ws raw, (d.getBank (ch / 256)).fireDt, (d.getOrg t).act⟩
    let d := d.setChan ch { c with deadEnd := d.now + 256, align := if d.calHolds m then c.align else c.align ++ [st] }
    let d := d.codeHit ch raw
    if rawOut raw then Dev.bedOnce m 4 (d.bump p SDL_TAC_OOR) else d

/-- TIMESTAMP_RELEASE (R69 to R72): 24 ns after its detection the oldest timestamp of a channel is classified and
queued, or dropped when the queue is full. -/
def Dev.stampRelease (ch : Nat) (d : Dev) : Dev :=
  let m := ch / 32
  let t := ch / 512
  let p := sdlPage m
  let c := d.getChan ch
  match c.align with
  | [] => d
  | x :: rest =>
    match ((d.getBank (ch / 256)).starts.find? (fun e => e.1 == x.fireDt)).map (·.2) with
    | none => d
    | some s0 =>
      if d.now < x.at_ + Config.ns 24 then d
      else
        let e := (x.ts + 2 ^ 19 - x.fireDt % 2 ^ 19) % 2 ^ 19
        let s := s0 % 2 ^ 19
        let d := d.setChan ch { c with align := rest }
        if e < s then
          let q := d.getSdl t
          Dev.bedOnce m 1 ((d.setSdl t { q with prestartSum := sat16 (q.prestartSum + 1) }).bumpSat p
            (SDL_PRESTART_CH + 4 * (ch % 32)))
        else
          let d := if e == s then Dev.bedOnce m 2 (d.bumpSat p (SDL_ZERO_CH + 4 * (ch % 32))) else d
          let c := d.getChan ch
          if 16 ≤ c.queue.length then
            let q := d.getSdl t
            Dev.bedOnce m 0 ((d.setSdl t { q with dropSum := sat16 (q.dropSum + 1) }).bumpSat p
              (SDL_DROP_CH + 4 * (ch % 32)))
          else d.setChan ch { c with queue := c.queue ++ [⟨x.half, e == s, e - s, x.at_⟩] }

/-- An unused START pulse (R62, R67). -/
def Dev.startExtra (t : Nat) (d : Dev) : Dev :=
  let d := d.bump (refPage t) SDL_START_EXTRA_CNT
  let s := d.getSdl t
  if s.extraOnce then d else (d.setSdl t { s with extraOnce := true }).raise (refPage t) 11

/-- The run-count field of bank b (R68). -/
def missRun (b : Nat) : Fld := if b % 2 == 0 then SDL_START_MISS_RUN_RUN_0 else SDL_START_MISS_RUN_RUN_1

/-- START_PULSE (R61, R62, R67): a rising edge on START_t with raw code `raw`; under a test of the reference channel it is one
of the on-die oscillator (R384). Its SDL_TAC_OOR and that of the reference page's bed are one event, raised once in a slot (DEDUCED,
log entry 74). -/
def Dev.startPulse (t raw : Nat) (d : Dev) : Dev :=
  let p := refPage t
  let s := d.getSdl t
  if d.now < s.refDead then (if d.calRef t then d else d.startExtra t)
  else
    let d := d.setSdl t { s with refDead := d.now + 256 }
    let d :=
      if rawOut raw then
        Dev.bedOnce (16 * t) 4 (d.bump p SDL_TAC_OOR)
      else d
    if d.calRef t then { d with cal := d.cal.take 32 raw } else
    let ts := d.stampNow (widths (d.reg p) SDL_REF_CAL_TAB) raw
    let hit (b : Nat) : Bool :=
      let k := d.getBank b
      k.winOpen && k.accepted.isNone && (ts + 2 ^ 19 - k.fireDt % 2 ^ 19) % 2 ^ 19 < 1600
    match [2 * t, 2 * t + 1].find? hit with
    | none => d.startExtra t
    | some b =>
      let k := d.getBank b
      let d := d.setBank b { k with accepted := some ((ts + 2 ^ 19 - k.fireDt % 2 ^ 19) % 2 ^ 19) }
      (d.setFld p (missRun b) 0).dtestPulse 1 (0x00A + t)

/-- START_WINDOW_CLOSE (R67, R68): at the fire command plus 20 ns S_b is fixed, as the accepted pulse or START_NOM. -/
def Dev.startClose (b : Nat) (d : Dev) : Dev :=
  let t := b / 2
  let p := refPage t
  let k := d.getBank b
  if k.winOpen && k.fireAt + Config.ns 20 ≤ d.now then
    let nom := d.fld p SDL_START_CTRL_START_NOM
    let en := d.on p SDL_START_CTRL_EN
    let s := if en then k.accepted.getD nom else nom
    let shown := match k.accepted with | some a => a | none => 2 ^ 31 + nom
    let d := d.setRegN p (SDL_START_LAST + 4 * (b % 2)) shown
    let lost := k.accepted.isNone && en && k.anyFired
    let k' := { k with winOpen := false, accepted := none, starts := ((k.fireDt, s) :: k.starts).take 4
                       lost := k.lost || lost }
    let k' := if k.gateOpen || k.gateDone then
        (if k.shots ≤ 1 then { k' with sMin := s, sMax := s }
         else { k' with sMin := min k.sMin s, sMax := max k.sMax s }) else k'
    let d := d.setBank b k'
    if lost then
      let d := (d.bump p SDL_START_LOST_CNT).raise p 8
      let run := min (d.fld p (missRun b) + 1) 255
      let d := d.setFld p (missRun b) run
      if run == 8 then d.raise p 9 else d
    else d
  else d

/-- LOCKED of a terrace falls (R63), which fails a bed test there (R389). -/
def Dev.scaleLoss (t : Nat) (d : Dev) : Dev :=
  if d.on (refPage t) SDL_LOCK_STATUS_LOCKED then
    let s := d.getSdl t
    ((d.setFld (refPage t) SDL_LOCK_STATUS_LOCKED 0).setSdl t { s with locked := false }).raise (refPage t) 10 |>.calFailIn t 4
  else d

/-- SCALE_LOOP_REFERENCE (R63): the master interpolator of a terrace converts one coarse period to `raw`; the mean
error of the last 256 conversions decides LOCKED; the trim moves. While it acquires, the trim is a value the
spec does not give (log entry 7); locked, it moves one step against the error at most every 256 conversions. A conversion while the
timing PLL is not locked does not happen, and codes from before a loss stay among the last 256 (DESIGN CHOICE, log entry 74). -/
def Dev.scaleReference (t raw : Nat) (d : Dev) : Dev :=
  let p := refPage t
  if !d.pllLocked then d
  else
    let s := d.getSdl t
    let codes := (s.codes ++ [raw]).drop (s.codes.length + 1 - 256)
    let s := { s with codes := codes, sinceTrim := s.sinceTrim + 1 }
    let d := d.setSdl t s
    let hold := d.on p SDL_START_CTRL_LOCK_HOLD
    let locked := d.on p SDL_LOCK_STATUS_LOCKED
    if codes.length < 256 then
      if hold then d else let (x, d) := d.draw; d.setFld p SDL_LOCK_STATUS_TRIM (x % 1024)
    else
      let err : Int := codes.foldl (fun (a : Int) (c : Nat) => a + 4 * ((c : Int) - 64)) (0 : Int)
      let d := d.setFld p SDL_LOCK_STATUS_ERR (toBits 16 (clampI (-32768) 32767 err))
      let d :=
        if !locked && -128 ≤ err && err ≤ 128 then d.setFld p SDL_LOCK_STATUS_LOCKED 1
        else if err < -512 || 512 < err then d.scaleLoss t
        else d
      if hold then d
      else if d.on p SDL_LOCK_STATUS_LOCKED then
        if 256 ≤ s.sinceTrim && err != 0 then
          let tr := d.fld p SDL_LOCK_STATUS_TRIM
          (d.setSdl t { d.getSdl t with sinceTrim := 0 }).setFld p SDL_LOCK_STATUS_TRIM
            (if 0 < err then tr - 1 else min (tr + 1) 1023)
        else d
      else
        let (x, d) := d.draw
        d.setFld p SDL_LOCK_STATUS_TRIM (x % 1024)

/-- The shadow word of a calibration table register (R66). -/
def Dev.shadowWord (d : Dev) (p off : Nat) : Word := SMap.get 0x7D7D7D7D d.calShadow (regKey p off)

/-- Write a shadow word. -/
def Dev.setShadow (d : Dev) (p off : Nat) (w : Word) : Dev :=
  { d with calShadow := SMap.put 0x7D7D7D7D d.calShadow (regKey p off) w }

/-- The two checks of a commit (R66). -/
def widthsOk (ws : List Nat) : Bool :=
  let total := ws.foldl (· + ·) 0
  ws.all (fun w => 40 ≤ w && w ≤ 220) && 7840 ≤ total && total ≤ 8160

/-- Copy 16 words of a shadow table to the live table. -/
def Dev.copyTable (p base : Nat) (d : Dev) : Dev :=
  (List.range 16).foldl (fun d i => d.setReg p (base + 4 * i) (d.shadowWord p (base + 4 * i))) d

/-- Check and commit the shadow of channel n of bed m (R66). -/
def Dev.commitChannel (m n : Nat) (d : Dev) : Dev :=
  let p := sdlPage m
  let base := SDL_CAL_TAB + 64 * n
  if widthsOk (widths (d.shadowWord p) base) then (d.copyTable p base).clrBit p SDL_CAL_REJECT n
  else (d.setBit p SDL_CAL_REJECT n).raise p 3

/-- CAL_TABLE_COMMIT: every channel whose bit is 1 (R66). -/
def Dev.commitBed (m bits : Nat) (d : Dev) : Dev :=
  (List.range 32).foldl (fun d n => if bitAt bits n then d.commitChannel m n else d) d

/-- REF_CAL_COMMIT: the reference channel of terrace t (R66). -/
def Dev.commitRef (t : Nat) (d : Dev) : Dev :=
  let p := refPage t
  if widthsOk (widths (d.shadowWord p) SDL_REF_CAL_TAB) then
    (d.copyTable p SDL_REF_CAL_TAB).setFld p SDL_REF_CAL_REJECT_REJECT 0
  else (d.setFld p SDL_REF_CAL_REJECT_REJECT 1).raise p 3

/-- A slot begins with its trigger for LOCK (R74). -/
def Dev.lockSlotStart (t : Nat) (d : Dev) : Dev :=
  d.setSdl t { d.getSdl t with locked := d.on (refPage t) SDL_LOCK_STATUS_LOCKED }

/-- What Sundial resets for a new slot once every event of the slot before has been classified (R74, Table 03-6, Table 04-2). -/
def Dev.sdlSlotStart (t : Nat) (d : Dev) : Dev :=
  d.setSdl t { d.getSdl t with deadSum := 0, prestartSum := 0, dropSum := 0, extraOnce := false, once := 0 }

end Sys2Proof.Machine
end

