-- ==== Sys2Proof/Machine/Meadow.lean ====
section
/-! DEFINITION. Meadow and Trellis: cells, coincidence, range gates, BLANK_L, routes and hops
(Detector tier and channel routing, R36 to R58). -/
namespace Sys2Proof.Machine

/-- Terrace of a pixel, and of a cell index (R8). -/
def terraceOfPixel (p : Nat) : Nat := p / 2048

/-- Dead time of terrace t's cells in LSB (R37, MDW.DEAD_TIME). -/
def Dev.cellDead (d : Dev) (t : Nat) : Nat := Config.ns (4 + min (d.fld (0x08 + t) MDW_DEAD_TIME_DT) 12)

/-- The arming mode in force on a bank: that of its open or coming gate, then that of the next gate once it is decided, else that of
the latest decision (R42, R43, Table 02-4). -/
def Bank.gatedAt (k : Bank) (now : Nat) : Bool :=
  match k.gate, k.early with
  | some g, e =>
    if !k.gateDone && now < g.closes then g.gated else (match e with | some e => e.gated | none => k.gated)
  | none, some e => e.gated
  | none, none => k.gated

/-- A write of MDW.CTRL: ARM_MODE waits for the next arming decision while scanning, and acts at once otherwise (R33, Table 02-4). -/
def Dev.armModeWritten (t : Nat) (d : Dev) : Dev :=
  if d.devState == stScanning then d
  else [2 * t, 2 * t + 1].foldl (fun (d : Dev) b =>
    d.setBank b { d.getBank b with gated := d.on (0x08 + t) MDW_CTRL_ARM_MODE }) d

/-- Whether the cells of pixel `p` are armed at the present time (R40, R43). -/
def Dev.pixelArmed (d : Dev) (p : Nat) : Bool :=
  let m := 0x08 + terraceOfPixel p
  let i := p % 2048
  d.on m MDW_CTRL_EN && !d.down (terraceOfPixel p)
    && bitAt (d.regN m (MDW_PIX_EN + 4 * (i / 32))) (i % 32)
    && (!(d.getBank (p / 1024)).gatedAt d.now || (d.getBank (p / 1024)).armed.isSome || d.calHolds (p / 128))

/-- EN and POST of MDW.BLANK_CTRL for the coarse period that holds the instant x (Table 02-4). -/
def Dev.blankConf (d : Dev) (t x : Nat) : Bool × Nat :=
  match (d.getBlank t).conf.find? (fun c => c.1 ≤ x) with
  | some c => c.2
  | none => (d.on (0x08 + t) MDW_BLANK_CTRL_EN, d.fld (0x08 + t) MDW_BLANK_CTRL_POST)

/-- The instant x lies in a period that BLANK_L touches low, or in the POST periods after the last such one (R44). -/
def Blank.low (k : Blank) (post x : Nat) : Bool :=
  (match k.openFrom with | some a => a ≤ x | none => false) || k.lows.any (fun s => s.1 ≤ x && x < s.2 + 64 * post)

/-- The period of the coarse clock in progress is blanked in terrace `t`, `endLow` being what BLANK_L will be
sampled at the period's end edge (R44). -/
def Dev.periodBlanked (d : Dev) (t : Nat) (endLow : Bool) : Bool :=
  let c := d.blankConf t d.now
  c.1 && (endLow || (d.getBlank t).low c.2 d.now)

/-- The start edge of the coarse period that holds the present time, in model time (R44, R59). -/
def Dev.periodStart (d : Dev) : Nat := d.now - d.edgeTime % 64

/-- Overlap of two half-open intervals. -/
def overlap (a b c e : Nat) : Nat := min b e - max a c

/-- The time inside [a, b) in periods that BLANK_L touches low or that POST extends, each counted once (R44, R46). -/
def Blank.lowTime (k : Blank) (post a b : Nat) : Nat :=
  let r := k.lows.foldl (fun (x : Nat × Nat) s =>
    let from_ := max x.1 s.1
    let to_ := s.2 + 64 * post
    (max x.1 to_, x.2 + overlap a b from_ to_)) (0, 0)
  r.2 + (match k.openFrom with | some o => overlap a b (max r.1 o) b | none => 0)

/-- Sum over the stretches of [a, b) in which EN and POST held one value, newest first; `last` are the values before any change. -/
def Blank.timeBy (k : Blank) (last : Bool × Nat) (a : Nat) : List (Nat × Bool × Nat) → Nat → Nat
  | [], b => if last.1 then k.lowTime last.2 a b else 0
  | c :: cs, b =>
    (if c.2.1 then k.lowTime c.2.2 (max a c.1) b else 0) + Blank.timeBy k last a cs (min b c.1)

/-- The blanked time of terrace t inside the interval [a, b) (R44, R46). -/
def Dev.blankedIn (d : Dev) (t a b : Nat) : Nat :=
  let k := d.getBlank t
  k.timeBy (d.on (0x08 + t) MDW_BLANK_CTRL_EN, d.fld (0x08 + t) MDW_BLANK_CTRL_POST) a k.conf b

/-- What no gate that can still close needs is forgotten: low intervals whose longest extension, 255 periods, is over for longer than
the longest gate (R60), and values of EN and POST that another value has replaced for as long. -/
def Blank.prune (k : Blank) (now : Nat) : Blank :=
  let old (x : Nat) : Bool := x + 64 * 255 + 2 ^ 19 + Config.us 10 < now
  { k with lows := k.lows.filter (fun s => !old s.2)
           conf := match k.conf.findIdx? (fun c => old c.1) with | some i => k.conf.take (i + 1) | none => k.conf }

/-- The pixels of a row that a route value connects, as sub-columns (R47, Table 02-2). -/
def routeMembers (r : Nat) : List Nat :=
  if r < 4 then [r] else if r == 4 then [0, 1] else if r == 5 then [1, 2] else if r == 6 then [2, 3] else []

/-- The value of a channel's TRL.ROUTE field. -/
def Dev.routeField (d : Dev) (ch : Nat) : Nat :=
  let c := ch % 512
  bitsOf (d.reg (0x0C + ch / 512) (TRL_ROUTE + 4 * (c / 8))) (4 * (c % 8) + 3) (4 * (c % 8))

/-- The route in force on a channel: moved by hops of this gate, or the field (R47, R49). -/
def Dev.routeNow (d : Dev) (ch : Nat) : Nat := ((d.getHop ch).route).getD (d.routeField ch)

/-- The next route in a direction, none when it would leave sub-column 0 or 3 (R49). -/
def hopRoute (r : Nat) (up : Bool) : Option Nat :=
  if r < 4 then (if up then (if r < 3 then some (r + 1) else none) else (if 0 < r then some (r - 1) else none))
  else if r < 7 then (if up then (if r < 6 then some (r + 1) else none) else (if 4 < r then some (r - 1) else none))
  else none

/-- Discard a detection in a hop's blind window (R53): counted, saturating, TRL_BLIND_SAT at 65,535. -/
def Dev.hopDiscard (ch : Nat) (d : Dev) : Dev :=
  let p := 0x0C + ch / 512
  let o := TRL_HOP_BLIND_CH + 4 * (ch % 512)
  let was := d.regN p o
  let d := d.bumpSat p o
  if was == 65534 then d.raise p 2 else d

/-- A detection of pixel `pix` now: the checks of R54 in their order, then the conversion with raw code `raw`. CAL can hold
the gates of a bed open (R384). -/
def Dev.detection (pix raw : Nat) (endLow : Bool) (d : Dev) : Dev :=
  let b := pix / 1024
  let t := terraceOfPixel pix
  let k := d.getBank b
  let inGate := k.gateOpen && (match k.gate with | some g => g.opens ≤ d.now && d.now < g.closes | none => false)
  if !inGate && !d.calHolds (pix / 128) then d
  else if d.periodBlanked t endLow then d.bump (0x08 + t) MDW_BLANK_DISCARD
  else
    let ch := pix / 4
    let sub := pix % 4
    let run := (d.getHop ch).blinds.filter (fun w => w.1 ≤ d.now && d.now < w.1 + 48)
    if run.any (fun w => (routeMembers w.2.1).contains sub || (routeMembers w.2.2).contains sub) then d.hopDiscard ch
    else if run.isEmpty && (routeMembers (d.routeNow ch)).contains sub then d.convert ch raw
    else d

/-- Begin a blind window now, from one route to another; windows of 600 ps that are not over run on (R53). -/
def Hop.blindFrom (now old new : Nat) (h : Hop) : Hop :=
  { h with blinds := (now, old, new) :: h.blinds.filter (fun w => now < w.1 + 48) }

/-- The coincidence rule: k avalanches of the pixel in (t - W, t] make one detection (R41). -/
def Dev.coincide (pix raw : Nat) (endLow : Bool) (d : Dev) : Dev :=
  let m := 0x08 + terraceOfPixel pix
  let kk := max 1 (min (d.fld m MDW_COINC_K) 8)
  let w := 32 * (d.fld m MDW_COINC_WIN + 1)
  let hist := ((SMap.get [] d.pixels pix).filter (fun a => d.now < a + 256)) ++ [d.now]
  let inW := hist.filter (fun a => d.now < a + w)
  if kk ≤ inW.length then
    let rest := hist.filter (fun a => !(d.now < a + w))
    Dev.detection pix raw endLow { d with pixels := SMap.put [] d.pixels pix rest }
  else { d with pixels := SMap.put [] d.pixels pix hist }

/-- CELL_AVALANCHE (R37, R39 to R41): cell `cell` of the line avalanches; the event does not happen in a cell that
is quenched, dead, masked or latched off. -/
def Dev.cellAvalanche (cell raw : Nat) (endLow : Bool) (d : Dev) : Dev :=
  let pix := cell / 16
  let t := terraceOfPixel pix
  let m := 0x08 + t
  let c := d.getCell cell
  if c.latched || d.now < c.deadEnd || !d.pixelArmed pix then d
  else
    let run := if d.now ≤ c.deadEnd + Config.ns 1 && 0 < c.deadEnd then c.run + 1 else 0
    let d := d.setCell cell { deadEnd := d.now + d.cellDead t, run := run, latched := run == 1024 }
    let d := d.coincide pix raw endLow
    if run == 1024 then
      ((d.setFld m MDW_LATCHED_CELLS_COUNT (d.fld m MDW_LATCHED_CELLS_COUNT + 1)).setReg m MDW_LATCH_LAST
        (BitVec.ofNat 32 (2 ^ 31 + cell))).raise m 2
    else d

/-- LATCH_CLR: every latched cell of the terrace is re-armed, COUNT and VALID are cleared (R39). -/
def Dev.latchClear (t : Nat) (d : Dev) : Dev :=
  let m := 0x08 + t
  let cells := d.cells.filter (fun e => !(e.2.latched && e.1 / 32768 == t))
  ({ d with cells := cells }.setFld m MDW_LATCHED_CELLS_COUNT 0).setFld m MDW_LATCH_LAST_VALID 0

/-- The gate that bank b arms for: that of the shot in progress until it has closed, one that does not open being none, then that of
the next shot (R42, R43). -/
def Dev.armingGate (d : Dev) (b : Nat) : Option GateSet :=
  let k := d.getBank b
  let next := (d.readEarly d.now b).getBank b |>.early
  match k.gate with
  | some g => if !k.gateDone && g.opens < g.closes && d.now < g.closes then some g else next
  | none => next

/-- CELL_ARM (R43): in gated mode the cells of a bank are armed from EARLY_ARM before its gate opens. -/
def Dev.cellArm (b : Nat) (d : Dev) : Dev :=
  match d.armingGate b with
  | none => d
  | some g =>
    let k := d.getBank b
    if g.gated && g.opens < g.closes && g.opens ≤ d.now + g.lead && d.now < g.closes && k.armed.isNone
    then d.setBank b { k with armed := some d.now } else d

/-- The direction of hops in terrace t for the slot, up when positive (R49, TRL.CTRL.DIR). -/
def Dev.hopUp (d : Dev) (t : Nat) : Bool := 0 < SMap.get 0 d.lagDir t

/-- Perform the next hop of a channel at `at_` after the fire command, with or without its blind window (R49, R50, R53). -/
def Dev.hopStep (ch at_ : Nat) (blind : Bool) (d : Dev) : Dev :=
  let t := ch / 512
  let h := d.getHop ch
  let h := { h with done := h.done + 1 }
  let r := d.routeNow ch
  if h.clipped || 7 ≤ r then d.setHop ch h
  else
    match hopRoute r (d.hopUp t) with
    | none =>
      let d := d.setHop ch { h with clipped := true }
      if SMap.get false d.hopClip t then d
      else Dev.raise (0x0C + t) 1 { d with hopClip := SMap.put false d.hopClip t true }
    | some r' =>
      let h := { h with route := some r' }
      let d := d.setHop ch (if blind then h.blindFrom d.now r r' else h)
      let d := { d with hopLog := SMap.put [] d.hopLog ch (SMap.get [] d.hopLog ch ++ [at_]) }
      if blind then d.dtestPulse 1 (0x00E + t) else d

/-- HOP_EXECUTE (R53): the next hop of the channel's lag table, within 100 ps of its table time, inside its open gate. -/
def Dev.hopExecute (ch : Nat) (d : Dev) : Dev :=
  let k := d.getBank (ch / 256)
  match k.gate, (SMap.get [] d.lag (ch / 32))[(d.getHop ch).done]? with
  | some g, some x =>
    let due := k.fireAt + 8 * x
    if k.gateOpen && d.now < g.closes && due < g.closes && due ≤ d.now + 8 && d.now ≤ due + 8
    then d.hopStep ch (d.now - k.fireAt) true else d
  | _, _ => d

/-- Hops of one channel whose time lies before the gate opens are applied before the opening, without a
blind window (R50). -/
def Dev.hopsBefore (off : Nat) (d : Dev) (ch : Nat) : Dev :=
  ((SMap.get [] d.lag (ch / 32)).filter (fun x => 8 * x < off)).foldl (fun d x => d.hopStep ch (8 * x) false) d

/-- RANGE_GATE_OPEN (R42, R50): a scheduled bank's gate opens at its fire command plus the gate offset. -/
def Dev.gateOpenNow (b : Nat) (d : Dev) : Dev :=
  let k := d.getBank b
  match k.gate with
  | none => d
  | some g =>
    if k.sched && !k.gateOpen && !k.gateDone && g.opens < g.closes && g.opens ≤ d.now && !d.down (b / 2) then
      let d := d.setBank b { k with gateOpen := true, shots := k.shots + 1 }
      (List.range 256).foldl (fun d i => Dev.hopsBefore (g.opens - k.fireAt) d (256 * b + i)) d
    else d

/-- The START delay s fixed for a shot of bank b by its fire command's device time (R69). -/
def Bank.delayOf (k : Bank) (fireDt : Nat) : Option Nat :=
  (k.starts.find? (fun e => e.1 == fireDt)).map (·.2)

/-- Take a shot's START delay into the smallest and largest of the slot (R102). -/
def Bank.takeDelay (k : Bank) (s : Nat) : Bank :=
  if k.shots ≤ 1 then { k with sMin := s, sMax := s }
  else { k with sMin := min k.sMin s, sMax := max k.sMax s }

/-- RANGE_GATE_CLOSE (R42, R46, R49): the gate closes after B_eff bins; blanked time inside it is accounted, routes
return to base, cells armed for it are quenched unless the arming for the next gate has begun. -/
def Dev.gateCloseNow (b : Nat) (d : Dev) : Dev :=
  let k := d.getBank b
  let t := b / 2
  let m := 0x08 + t
  match k.gate with
  | none => d
  | some g =>
    if k.gateOpen && g.closes ≤ d.now then
      let on := match k.early with | some e => e.gated && e.opens ≤ g.closes + e.lead | none => false
      let k := { k with gateOpen := false, gateDone := true, armed := if on then k.armed else none }
      let k := match k.delayOf k.fireDt with | some s => k.takeDelay s | none => k
      let d := d.setBank b k
      let bl := d.getBlank t
      let x := d.blankedIn t g.opens g.closes
      let tot := bl.remainder + x
      let d := d.setBlank t { bl with remainder := tot % Config.us 1, slotSum := bl.slotSum + x }
      let d := if 0 < x then d.bumpBy m MDW_BLANK_TIME (tot / Config.us 1) else d
      { d with hops := SMap.drop d.hops (fun c => c / 256 == b) }
    else d

/-- BLANK_L_FALL (R44, R46, R56): BLANK_L is first sampled low, at a coarse edge. With EN = 0 the low periods are kept all the same:
R44 asks EN = 1 of the blanked period alone. -/
def Dev.blankFall (d : Dev) : Dev :=
  if d.blankLow then d
  else
    let d := { d with blankLow := true }
    (List.range 4).foldl (fun d t =>
      let k := (d.getBlank t).prune d.now
      let en := d.on (0x08 + t) MDW_BLANK_CTRL_EN
      let d := d.setBlank t { k with lowSince := if en then some d.now else none, longRaised := false
                                     openFrom := some (d.periodStart - 64) }
      if en then d.raise (0x08 + t) 0 else d) d

/-- BLANK_L_RISE (R44, R46): the last low sample was at the coarse edge before; the low interval's last period is the one that begins
there. -/
def Dev.blankRise (d : Dev) : Dev :=
  let last := if d.edgeTime % 64 == 0 then d.now - 64 else d.periodStart
  (List.range 4).foldl (fun d t =>
    let k := d.getBlank t
    let lows := match k.openFrom with | some a => k.lows ++ [(a, last + 64)] | none => k.lows
    d.setBlank t { k with lowSince := none, longRaised := false, openFrom := none, lows := lows }) { d with blankLow := false }

/-- BLANK_LONG (R46): BLANK_L has been low for longer than BLANK_MAX, once per low interval. -/
def Dev.blankLong (t : Nat) (d : Dev) : Dev :=
  let k := d.getBlank t
  let lim := d.fld (0x08 + t) MDW_BLANK_CTRL_BLANK_MAX
  match k.lowSince with
  | some a =>
    if d.on (0x08 + t) MDW_BLANK_CTRL_EN && 0 < lim && a + Config.us lim < d.now && !k.longRaised
    then (d.setBlank t { k with longRaised := true }).raise (0x08 + t) 1 else d
  | none => d

/-- A write of MDW.BLANK_CTRL, `old` before it: EN and POST apply from the next coarse period (Table 02-4). EN that rises while BLANK_L
is low begins the timing of R46 with that period and raises no MDW_BLANK_FALL: BLANK_L was first sampled low before; a fall of EN ends
the timing (DEDUCED, log entry 72). -/
def Dev.blankCtrlWritten (t : Nat) (old : Word) (d : Dev) : Dev :=
  let m := 0x08 + t
  let k := (d.getBlank t).prune d.now
  let next := d.periodStart + 64
  let was := bitAt old.toNat MDW_BLANK_CTRL_EN.lo
  let en := d.on m MDW_BLANK_CTRL_EN
  let conf := if k.conf.isEmpty then [(0, was, bitsOf old MDW_BLANK_CTRL_POST.hi MDW_BLANK_CTRL_POST.lo)] else k.conf
  d.setBlank t { k with
    conf := (next, en, d.fld m MDW_BLANK_CTRL_POST) :: conf
    openFrom := if d.blankLow then some (k.openFrom.getD next) else k.openFrom
    lowSince := if !en then none else if was then k.lowSince else if d.blankLow then some next else none }

/-- Nibble k of a TRL.ROUTE register has been written, `old` before it: inside an open gate a changed channel runs an unscheduled
break-before-make; outside one there is no blind window (R55, Table 02-4). A nibble written with its old value counts as a write: a
channel that hops have moved goes back to the field's route with a blind window, and one whose route in force is that route runs none
(DESIGN CHOICE, log entry 73: the spec does not say). -/
def Dev.nibbleWritten (t off : Nat) (old : Word) (d : Dev) (k : Nat) : Dev :=
  let ch := 512 * t + 8 * ((off - TRL_ROUTE) / 4) + k
  let n := d.routeField ch
  let h := d.getHop ch
  let before := h.route.getD (bitsOf old (4 * k + 3) (4 * k))
  if (d.getBank (ch / 256)).gateOpen && before != n then
    d.setHop ch ({ h with route := none }.blindFrom d.now before n)
  else d

/-- A write of a TRL.ROUTE register, `old` before it (R55). -/
def Dev.routeWritten (t off : Nat) (old : Word) (d : Dev) : Dev := (List.range 8).foldl (Dev.nibbleWritten t off old) d

/-- The optical product omega x GAIN, 1/1,600 µrad/µs (R48). -/
def Dev.omegaProduct (d : Dev) (t : Nat) (omega : Int) : Int := omega * (d.fld (0x0C + t) TRL_OPT_GAIN_GAIN : Int)

/-- Time of hop i of bed m in units of 100 ps, rounded to nearest (R48); halfway between two, the later (DESIGN CHOICE, log entry
73: the spec gives no tie rule). -/
def hopTime (i x0 pitch w : Nat) : Nat :=
  let num := (256 * i - x0) * pitch * 16000000
  let den := 256 * w
  if den = 0 then 0 else (2 * num + den) / (2 * den)

/-- The host table of a terrace, up to HOP_MAX rising entries (R52). -/
def hostHops : List Nat → Nat → Option Nat → List Nat
  | [], _, _ => []
  | _, 0, _ => []
  | x :: xs, n + 1, prev =>
    if x == 0xFFFF then []
    else match prev with
      | some p => if x ≤ p then [] else x :: hostHops xs n (some x)
      | none => x :: hostHops xs n (some x)

/-- LAG_TABLE_BUILD and HOP_SUSPEND at a slot trigger that carries `omega` and whether the angle loop's feedback
is lost or its state HOLD_SAFE (R48, R49, R51, R52). Of an ω_opt beyond W_OPT's signed 24 bits the register shows the low 24 (DESIGN
CHOICE, log entry 73: the spec gives neither saturation nor wrap). -/
def Dev.lagBuild (t : Nat) (omega : Int) (bad : Bool) (d : Dev) : Dev :=
  let p := 0x0C + t
  let w := d.omegaProduct t omega
  let d := d.setFld p TRL_OMEGA_W_OPT (toBits 24 (w.tdiv 16))
  let mode := d.fld p TRL_CTRL_LAG_MODE
  let clear := (List.range 16).foldl (fun m i => SMap.put [] m (16 * t + i) ([] : List Nat)) d.lag
  let d := { d with lag := clear, hopClip := SMap.put false d.hopClip t false }
  if mode == 0 || mode == 3 then d.setFld p TRL_OMEGA_SUSPENDED 0
  else if bad || w == 0 || (mode == 1 && d.fld p TRL_SC_PITCH_PITCH == 0) then
    (d.setFld p TRL_OMEGA_SUSPENDED 1).raise p 0
  else
    let d := d.setFld p TRL_OMEGA_SUSPENDED 0
    let n := min (d.fld p TRL_CTRL_HOP_MAX) 4
    let dir := d.fld p TRL_CTRL_DIR
    let up : Int := if dir == 1 then 1 else if dir == 2 then -1 else if 0 < w then 1 else -1
    let tab (m : Nat) : List Nat :=
      if mode == 1 then
        let x0 := bitsOf (d.reg p (TRL_X0 + 4 * (m / 4))) (8 * (m % 4) + 7) (8 * (m % 4))
        (List.range n).map (fun i => hopTime (i + 1) x0 (d.fld p TRL_SC_PITCH_PITCH) w.natAbs)
      else hostHops ((List.range 4).map (fun k => d.fld p (TRL_HOP_TIME_TIME.plus (4 * k)))) n none
    { d with lag := (List.range 16).foldl (fun l m => SMap.put [] l (16 * t + m) (tab m)) d.lag
             lagDir := SMap.put 0 d.lagDir t up }

end Sys2Proof.Machine
end

