-- ==== Sys2Proof/Machine/Orangery.lean ====
section
/-! DEFINITION. Orangery: halves, activation and swap, bin placement, zoom windows, host windows, taps (Histogram
memory, R79 to R101). -/
namespace Sys2Proof.Machine

/-- ORG page of terrace t. -/
def orgPage (t : Nat) : Nat := 0x50 + t

/-- Bin width in LSB of a width code (R84). -/
def binLsb (code : Nat) : Nat := 8 * 2 ^ code

/-- Key of a main counter: channel, half (0 in long mode), bin. -/
def binKey (ch half b : Nat) : Nat := 16384 * ch + 8192 * half + b

/-- Key of a zoom counter: channel, half, window, bin. -/
def zoomKey (ch half k b : Nat) : Nat := 512 * ch + 256 * half + 64 * k + b

/-- Key of the block sum of 64 bins (R104). -/
def blockKey (ch half b : Nat) : Nat := 256 * ch + 128 * half + b

/-- A main counter. -/
def Dev.bin (d : Dev) (ch half b : Nat) : Nat := SMap.get 0 d.bins (binKey ch half b)

/-- A zoom counter. -/
def Dev.zbin (d : Dev) (ch half k b : Nat) : Nat := SMap.get 0 d.zoom (zoomKey ch half k b)

/-- A half's record. -/
def OrgT.half (o : OrgT) (h : Nat) : HalfInfo := if h == 0 then o.half0 else o.half1

/-- Replace a half's record. -/
def OrgT.setHalf (o : OrgT) (h : Nat) (i : HalfInfo) : OrgT :=
  if h == 0 then { o with half0 := i } else { o with half1 := i }

/-- Terrace t runs in long mode (Table 04-1). -/
def Dev.longMode (d : Dev) (t : Nat) : Bool := d.on (orgPage t) ORG_CTRL_MODE

/-- Whether every sticky saturation bit of a terrace is clear (Table 04-5). -/
def Dev.noSat (d : Dev) (p : Nat) : Bool :=
  (List.range 16).all (fun i => d.regN p (ORG_SAT + 4 * i) == 0 && d.regN p (ORG_ZSAT + 4 * i) == 0)

/-- A saturated counter of channel `ch`: the half's flag, the sticky bit, ORG_SAT (R86). -/
def Dev.saturate (ch half : Nat) (zoom : Bool) (d : Dev) : Dev :=
  let t := ch / 512
  let c := ch % 512
  let p := orgPage t
  let first := d.noSat p
  let o := d.getOrg t
  let i := o.half half
  let i := if zoom then { i with zsat := SMap.put false i.zsat c true } else { i with sat := SMap.put false i.sat c true }
  let d := (d.setOrg t (o.setHalf half i)).setBit p ((if zoom then ORG_ZSAT else ORG_SAT) + 4 * (c / 32)) (c % 32)
  if first then d.raise p 0 else d

/-- Increment one main counter and its block sum (R85, R86, R104). -/
def Dev.countBin (ch half b : Nat) (d : Dev) : Dev :=
  let n := d.bin ch half b
  if n == 65535 then d.saturate ch half false
  else
    let k := blockKey ch half (b / 64)
    { d with bins := SMap.put 0 d.bins (binKey ch half b) (n + 1)
             blocks := SMap.put 0 d.blocks k (SMap.get 0 d.blocks k + 1) }

/-- Count an entry in one zoom window (R87). -/
def Dev.countZoom (ch half tof : Nat) (d : Dev) (k : Nat) : Dev :=
  let w := SMap.get 0 ((d.getOrg (ch / 512)).half half).zwin (4 * (ch % 512) + k)
  let z := w % 2 ^ 19
  if bitAt w 31 && z ≤ tof && tof < z + 64 then
    let n := d.zbin ch half k (tof - z)
    if n == 65535 then d.saturate ch half true
    else { d with zoom := SMap.put 0 d.zoom (zoomKey ch half k (tof - z)) (n + 1) }
  else d

/-- Place an entry: main bin by the settings in force now, then its zoom windows (R85, R87). The long-mode buffer has no halves. -/
def Dev.placeEntry (ch half tof : Nat) (d : Dev) : Dev :=
  let t := ch / 512
  let p := orgPage t
  let half := if d.longMode t then 0 else half
  let o := 64 * min (d.fld p ORG_GATE_OFFSET) 8192
  let b := (tof - o) / binLsb (d.fld p ORG_CTRL_BIN_W)
  if o ≤ tof && b < d.beffNow t then
    (List.range 4).foldl (Dev.countZoom ch half tof) (d.countBin ch half b)
  else d

/-- Whether an entry detected at `at_` is incremented: EN is 1, or the detection came before EN was written 0 (R99). An entry older than
the slot in the long-mode buffer is left of a slot before MODE was written, whose counts are unspecified; the new slot is clean (R98). -/
def Dev.incrementAllowed (d : Dev) (t at_ : Nat) : Bool :=
  let o := d.getOrg t
  if d.longMode t && at_ < o.since then false
  else if d.on (orgPage t) ORG_CTRL_EN then o.enOnAt ≤ at_ + Config.ns 24 || at_ < o.enOffAt
  else at_ < o.enOffAt

/-- HISTOGRAM_INCREMENT (R85, R91): the oldest queue entry of a channel is drained and counted or discarded. -/
def Dev.histogramIncrement (ch : Nat) (d : Dev) : Dev :=
  let c := d.getChan ch
  match c.queue with
  | [] => d
  | e :: rest =>
    let d := d.setChan ch { c with queue := rest }
    if d.incrementAllowed (ch / 512) e.at_ then d.placeEntry ch e.half e.tof else d

/-- Whether a key of the bins belongs to terrace t and half h. -/
def inHalf (per t h k : Nat) : Bool := k / (1024 * per) == t && (k / per) % 2 == h

/-- Clear every counter of a half of terrace t, with its zoom half and block sums (R82, R104). -/
def Dev.clearHalf (t h : Nat) (d : Dev) : Dev :=
  { d with bins := SMap.drop d.bins (inHalf 8192 t h)
           zoom := SMap.drop d.zoom (inHalf 256 t h)
           blocks := SMap.drop d.blocks (inHalf 128 t h) }

/-- round(T_k) − 32 limited to 0 and 524,224, enabled (Table 04-3); `tk1` is T_k in 1/256 LSB plus 1. Half an LSB rounds up (DESIGN
CHOICE, log entry 73: the spec says round and gives no tie rule). -/
def trackWindow (tk1 : Nat) : Nat :=
  2 ^ 31 + min (((tk1 - 1) + 128) / 256 - 32) 524224

/-- The words of the host table at an address of shared SRAM, by 4 x channel + window (R90). -/
def ztabWords (m : List Host.Cell) (base : Nat) : SMap Nat :=
  (List.range 2048).foldl (fun z i => SMap.put 0 z i (memWord m (base + 4 * i)).toNat) []

/-- A fetch of the host table begins, with the base of the moment (R90, R98). -/
def Dev.ztabStart (t : Nat) (m : List Host.Cell) (d : Dev) : Dev :=
  let base := 8192 * d.fld (orgPage t) ORG_ZTAB_BASE_BASE
  d.setOrg t { d.getOrg t with fetching := true, zbase := base, zwas := ztabWords m base }

/-- The words that the running fetch reads: one written since the fetch began is free, as the spec does not say when the fetch reads
it (R90, log entry 75). -/
def Dev.ztabRead (t : Nat) (m : List Host.Cell) (d : Dev) : SMap Nat × Dev :=
  let o := d.getOrg t
  let now := ztabWords m o.zbase
  if now = o.zwas then (now, d)
  else
    let (x, d) := d.draw
    ((List.range 2048).foldl (fun z i =>
      let w := SMap.get 0 now i
      SMap.put 0 z i (if w == SMap.get 0 o.zwas i then w else x / 2 ^ (32 * i) % 2 ^ 32)) [], d)

/-- The host table as an activation of terrace t finds it: the words, and those that the fetch has not read yet, as a set by key. Which
words an incomplete fetch has read is free (R90, log entry 75). -/
def Dev.ztabFound (t : Nat) (m : List Host.Cell) (d : Dev) : (SMap Nat × Nat) × Dev :=
  let o := d.getOrg t
  if !o.fetching then ((o.ztab, 0), d)
  else
    let (z, d) := d.ztabRead t m
    let (x, d) := d.draw
    ((z, x), d)

/-- The window word of a channel and window at activation (Table 04-3, R90); a word of the table in the set `unread` keeps the
previous one. -/
def zoomPlace (o : OrgT) (mode : Nat) (tab : SMap Nat) (unread : Nat) (prev : SMap Nat) (key : Nat) : Nat :=
  let tr := SMap.get 0 o.track key
  let tab := if bitAt unread key then SMap.get 0 prev key
    else
      let w := SMap.get 0 tab key
      (w / 2 ^ 31) % 2 * 2 ^ 31 + w % 2 ^ 19
  if mode == 1 then (if 0 < tr then trackWindow tr else 0)
  else if mode == 2 then tab
  else if mode == 3 then (if 0 < tr then trackWindow tr else tab)
  else 0

/-- All window words of a half. -/
def zoomAll (o : OrgT) (mode : Nat) (tab : SMap Nat) (unread : Nat) (prev : SMap Nat) : SMap Nat :=
  if mode == 0 then []
  else (List.range 2048).foldl (fun m key => SMap.put 0 m key (zoomPlace o mode tab unread prev key)) []

/-- Activate half h of terrace t for a slot: clear, recorded geometry, zoom windows (R81 step 3, R82, R83, R88); then the host table
is fetched for the next activation (R90). In long mode half 1 belongs to the same buffer. -/
def Dev.activate (m : List Host.Cell) (t h slot : Nat) (long : Bool) (d : Dev) : Dev :=
  let p := orgPage t
  let keep := d.on p ORG_CTRL_KEEP
  let d := if keep then d else (d.clearHalf t h)
  let d := if !keep && long then d.clearHalf t 1 else d
  let (z, d) := d.ztabFound t m
  let o := d.getOrg t
  let old := o.half h
  let zw := zoomAll o (d.fld p ORG_CTRL_ZOOM_MODE) z.1 z.2 old.zwin
  let i : HalfInfo :=
    { geo := ⟨d.fld p ORG_CTRL_BIN_W, min (d.fld p ORG_GATE_OFFSET) 8192, d.beffNow t⟩, slot := slot
      sat := if keep then old.sat else [], zsat := if keep then old.zsat else [], zwin := zw
      hostWritten := keep && old.hostWritten, dirty := keep && old.dirty, known := if keep then old.known else []
      zknown := if keep then old.zknown else [], keep := keep }
  let late := o.fetching
  let d := d.setOrg t { (o.setHalf h i) with
    act := h, phase := if long then 2 else 1, since := d.now, busyOnce := false, full := d.on p ORG_CTRL_EN }
  let d := if late then d.raise p 2 else d
  d.ztabStart t m

/-- The taps latched for a released half of terrace t and slot (R96). -/
def Dev.latchTaps (d : Dev) (t slot : Nat) : List TapCfg :=
  let p := orgPage t
  let ev := d.fld p ORG_TAP_CTRL_EVERY
  if ev == 0 || slot % ev != 0 then []
  else (List.range 16).filterMap (fun k =>
    if d.bit p (ORG_TAP_A + 8 * k) 31 then
      some ⟨k, d.bit p (ORG_TAP_A + 8 * k) 30, d.fld p ⟨ORG_TAP_A + 8 * k, 8, 0⟩,
        d.fld p ⟨ORG_TAP_B + 8 * k, 29, 16⟩, d.fld p ⟨ORG_TAP_B + 8 * k, 9, 0⟩ + 1⟩
    else none)

/-- ZTAB_FETCH_DONE (R90): the words of the host table in shared SRAM are held for the next activation. -/
def Dev.ztabFetched (t : Nat) (m : List Host.Cell) (d : Dev) : Dev :=
  let o := d.getOrg t
  if o.fetching then
    let (z, d) := d.ztabRead t m
    d.setOrg t { d.getOrg t with ztab := z, fetching := false }
  else d

/-- A half whose counters are known again. -/
def HalfInfo.clean (i : HalfInfo) : HalfInfo := { i with dirty := false, known := [], zknown := [] }

/-- A write of ORG.CLEAR.CLR (Table 04-4). -/
def Dev.orgClear (t : Nat) (d : Dev) : Dev :=
  let o := d.getOrg t
  let d := d.setOrg t { o with full := false, half0 := o.half0.clean, half1 := o.half1.clean }
  ((d.clearHalf t 0).clearHalf t 1).setFld (orgPage t) ORG_WIN_STATUS_VALID 0

/-- A half whose counters a MODE write leaves unspecified (R98). -/
def HalfInfo.spoil (i : HalfInfo) : HalfInfo := { i with dirty := true, known := [], zknown := [] }

/-- A write of ORG.CTRL (R94, R98, R99): `old` is the register before the write. VALID falls at every write of EN and MODE, whatever they
were; the slot in acquisition stays a full one where neither changes (DEDUCED, log entry 20). A change of MODE leaves the counts of
the active half, and of a half under scan, unspecified. -/
def Dev.orgCtrlWritten (t : Nat) (old : Word) (d : Dev) : Dev :=
  let p := orgPage t
  let new := d.reg p ORG_CTRL
  let o := d.getOrg t
  let o := if bitAt old.toNat 0 && !bitAt new.toNat 0 then { o with enOffAt := d.now } else o
  let o := if !bitAt old.toNat 0 && bitAt new.toNat 0 then { o with enOnAt := d.now } else o
  let scan := (d.getGzb t).scan.isSome
  let o := if bitAt old.toNat 1 != bitAt new.toNat 1 then
      { o with half0 := if o.act == 0 || scan then o.half0.spoil else o.half0
               half1 := if o.act == 1 || scan then o.half1.spoil else o.half1 } else o
  (d.setOrg t { o with full := o.full && bitsOf old 1 0 == bitsOf new 1 0 }).setFld p ORG_WIN_STATUS_VALID 0

/-- ORG.GATE_STATUS as it reads (R84). -/
def Dev.gateStatus (d : Dev) (t : Nat) : Word :=
  let b := d.beffNow t
  BitVec.ofNat 32 (b + if b < d.fld (orgPage t) ORG_GATE_BINS then 2 ^ 31 else 0)

/-- What a host window access to the active half, or to a buffer in acquisition, does: refused and counted (R93). -/
def Dev.windowBusy (t : Nat) (d : Dev) : Dev :=
  let d := d.bump (orgPage t) ORG_WIN_BUSY
  let o := d.getOrg t
  if o.busyOnce then d else (d.setOrg t { o with busyOnce := true }).raise (orgPage t) 1

/-- A counter value as the host or a scan reads it: a free value where a mode switch left the half unspecified (R98). -/
def Dev.readCount (dirty : Bool) (n : Nat) (d : Dev) : Nat × Dev :=
  if dirty then let (x, d) := d.draw; (x % 65536, d) else (n, d)

/-- Half and bin of a byte offset in a bank's window, none for the active half or a buffer in acquisition (R92, R93). -/
def Dev.windowBin (d : Dev) (ch off : Nat) : Option (Nat × Nat) :=
  let t := ch / 512
  let o := d.getOrg t
  let i := (off % 0x8000) / 2
  if d.longMode t then
    if o.phase == 2 || o.phase == 1 then none else some (i / 8192, i % 8192)
  else if i < 8192 then some (1 - o.act, i) else none

/-- The record of a half of terrace t that a window access meets: the long-mode buffer has one (Table 04-1). -/
def Dev.windowHalf (d : Dev) (t h : Nat) : Nat := if d.longMode t then 0 else h

/-- A 16-bit read of the read window (R92, R93). -/
def Dev.windowRead16 (ch off : Nat) (d : Dev) : Nat × Dev :=
  match d.windowBin ch off with
  | none => (0, d.windowBusy (ch / 512))
  | some (h, b) =>
    let i := (d.getOrg (ch / 512)).half (d.windowHalf (ch / 512) h)
    Dev.readCount (i.dirty && !SMap.get false i.known (binKey ch h b)) (d.bin ch h b) d

/-- A half that the host writes while it is under scan: its channels whose stage 7 is not complete are scanned from their first word
again, in two passes (R104; DEDUCED, log entry 76). -/
def Dev.rescan (t h : Nat) (d : Dev) : Dev :=
  let g := d.getGzb t
  match g.scan with
  | some r => if r.half == h then d.setGzb t { g with chans := g.chans.filter (fun e => e.2.extracted) } else d
  | none => d

/-- A 16-bit write of the read window (R93, R104). -/
def Dev.windowWrite16 (ch off v : Nat) (d : Dev) : Dev :=
  match d.windowBin ch off with
  | none => d.windowBusy (ch / 512)
  | some (h, b) =>
    let t := ch / 512
    let o := d.getOrg t
    let r := d.windowHalf t h
    let i := o.half r
    let d := { d with bins := SMap.put 0 d.bins (binKey ch h b) (v % 65536) }.setOrg t
      (o.setHalf r { i with hostWritten := true, known := if i.dirty then SMap.put false i.known (binKey ch h b) true else i.known })
    if i.hostWritten then d else d.rescan t r

/-- The half that the zoom window maps, none while it is in acquisition (R95, Table 04-1). -/
def Dev.zoomHalf (d : Dev) (t : Nat) : Option Nat :=
  let o := d.getOrg t
  if d.longMode t then (if o.phase == 2 || o.phase == 1 then none else some 0) else some (1 - o.act)

/-- A 16-bit read of the zoom window (R95). -/
def Dev.zoomRead16 (off : Nat) (d : Dev) : Nat × Dev :=
  let ch := off / 512
  match d.zoomHalf (ch / 512) with
  | none => (0, d.windowBusy (ch / 512))
  | some h =>
    let i := (d.getOrg (ch / 512)).half h
    let key := 512 * ch + 256 * h + (off % 512) / 2
    Dev.readCount (i.dirty && !SMap.get false i.zknown key) (SMap.get 0 d.zoom key) d

/-- A 16-bit write of the zoom window (R95). -/
def Dev.zoomWrite16 (off v : Nat) (d : Dev) : Dev :=
  let ch := off / 512
  match d.zoomHalf (ch / 512) with
  | none => d.windowBusy (ch / 512)
  | some h =>
    let o := d.getOrg (ch / 512)
    let i := o.half h
    let key := 512 * ch + 256 * h + (off % 512) / 2
    { d with zoom := SMap.put 0 d.zoom key (v % 65536) }.setOrg (ch / 512)
      (o.setHalf h { i with zknown := if i.dirty then SMap.put false i.zknown key true else i.zknown })

/-- The position word of the idle zoom half at `0x1820_0000 + off`; of a buffer in acquisition it is refused (R93, R95). -/
def Dev.zoomPosition (off : Nat) (d : Dev) : Word × Dev :=
  let ch := off / 16
  let t := ch / 512
  match d.zoomHalf t with
  | none => (0, d.windowBusy t)
  | some h => (BitVec.ofNat 32 (SMap.get 0 ((d.getOrg t).half h).zwin (4 * (ch % 512) + (off % 16) / 4)), d)

/-- CAL.SKEW of channel n, signed, 0.25 mm (R380). -/
def Dev.skew (d : Dev) (n : Nat) : Int :=
  signed 8 (bitsOf (d.reg 0x07 (CAL_SKEW + 4 * (n / 4))) (8 * (n % 4) + 7) (8 * (n % 4)))

/-- Zero-range offset of channel n in mm (R380). -/
def Dev.zeroRange (d : Dev) (n : Nat) : Int :=
  signed 16 (d.fld 0x07 (CAL_BED_ZB.plus (4 * (n / 32)))) + (d.skew n + 2) / 4

end Sys2Proof.Machine
end

