-- ==== Sys2Proof/Machine/Gazebo.lean ====
section
/-! DEFINITION. Gazebo: ambient estimate, pile-up correction, matched filter, threshold, candidates, refinement,
range, flags, alien map (Echo extraction, R102 to R129). Values with 8 fractional bits are whole numbers of 1/256;
every quotient is truncated toward minus infinity (R107, log entry 8). -/
namespace Sys2Proof.Machine

/-- GZB page of terrace t. -/
def gzbPage (t : Nat) : Nat := 0x54 + t

/-- Insert into a rising list. -/
def insertRising (x : Nat) : List Nat → List Nat
  | [] => [x]
  | y :: ys => if x ≤ y then x :: y :: ys else y :: insertRising x ys

/-- Sort, rising. -/
def sortRising (l : List Nat) : List Nat := l.foldr insertRising []

/-- Sum of a list. -/
def total (l : List Nat) : Nat := l.foldl (· + ·) 0

/-- Raise bit b of terrace t's GZB page once per slot. -/
def Dev.gzbOnce (t b : Nat) (d : Dev) : Dev :=
  let g := d.getGzb t
  if bitAt g.once b then d else (d.setGzb t { g with once := withBit g.once b }).raise (gzbPage t) b

/-- The shots, smallest and largest START delay of a channel's bank (R102). -/
def Release.sb (r : Release) (ch : Nat) : Nat := if (ch / 256) % 2 == 0 then r.shots0 else r.shots1
def Release.sMinOf (r : Release) (ch : Nat) : Nat := if (ch / 256) % 2 == 0 then r.sMin0 else r.sMin1
def Release.sMaxOf (r : Release) (ch : Nat) : Nat := if (ch / 256) % 2 == 0 then r.sMax0 else r.sMax1

/-- Bin width in LSB of a released half. -/
def Release.wL (r : Release) : Nat := binLsb r.info.geo.binW

/-- Offset in LSB of a released half. -/
def Release.oL (r : Release) : Nat := 64 * r.info.geo.offset

/-- The number of exposed bins of a channel (R104). -/
def Release.exposed (r : Release) (ch : Nat) : Nat := r.info.geo.beff - ceilDiv (r.sMaxOf ch) r.wL

/-- Words a pass reads of a channel (R125). -/
def Release.words (r : Release) : Nat := (r.info.geo.beff + 7) / 8

/-- Trimmed mean of the block sums per bin, Q8 (R105 steps 1 to 3). -/
def trimmedMean (blocks : List Nat) (trim : Nat) : Nat :=
  let m := blocks.length
  let cut := m * min trim 7 / 16
  let rest := ((sortRising blocks).drop cut).take (m - 2 * cut)
  if rest.length = 0 then 0 else total rest * 256 / (64 * rest.length)

/-- The bins 0 to n − 1 of a channel's half as they stand. -/
def Dev.binsOf (d : Dev) (ch half n : Nat) : List Nat := (List.range n).map (fun b => d.bin ch half b)

/-- The record of the half under scan as it stands: a MODE write or a host write during the scan shows in it (R98, R104). -/
def Dev.scanned (d : Dev) (ch : Nat) (r : Release) : HalfInfo := (d.getOrg (ch / 512)).half r.half

/-- The host has written counters of the half under scan: it is scanned in two passes (R104). -/
def Dev.twoPass (d : Dev) (ch : Nat) (r : Release) : Bool := (d.scanned ch r).hostWritten

/-- The block sums of the m full blocks within the exposed bins: those kept by the increment stream, or those of the
first pass of a host-written half (R104). -/
def Dev.blocksOf (d : Dev) (ch : Nat) (r : Release) (c : ChScan) (m : Nat) : List Nat :=
  if d.twoPass ch r then (List.range m).map (fun b => total ((c.first.drop (64 * b)).take 64))
  else (List.range m).map (fun b => SMap.get 0 d.blocks (blockKey ch r.half b))

/-- λ_tm in Q8 (R105 steps 1 to 5). -/
def Dev.ambientMean (d : Dev) (ch : Nat) (r : Release) (c : ChScan) : Nat :=
  let e := r.exposed ch
  let m := e / 64
  if e = 0 then 0
  else if m < 4 then total (if d.twoPass ch r then c.first.take e else d.binsOf ch r.half e) * 256 / e
  else trimmedMean (d.blocksOf ch r c m) (d.fld (gzbPage (ch / 512)) GZB_AMB_TRIM)

/-- λ corrected for blanking, Q8 (R105). -/
def blankComp (lamTm tBlank nG beff wL : Nat) : Nat :=
  let den := nG * beff * wL
  let f := if den = 0 then 0 else min (tBlank * 256 / den) 128
  lamTm * 256 / (256 - f)

/-- ρ_a in Q8, in units of 0.1 M/s, from λ in Q8 (R105, R107, R119): λ / (S_b × w). -/
def ambientRate (lam sb wL : Nat) : Nat := if sb = 0 then 0 else lam * 3125 * 256 / (sb * wL)

/-- g_a in Q8 from ρ_a in Q8 (R106, R107). -/
def deadGain (rho tauNs alpha : Nat) : Nat :=
  let x := rho * tauNs / 10000
  65536 / (256 - min (x * alpha / 256) 192)

/-- Dead bins D = 3.2 ns / w (R106). -/
def deadBins (wL : Nat) : Nat := 256 / wL

/-- λ' in Q8 (R106). -/
def correctedAmbient (ga lam sb wL : Nat) : Nat :=
  (ga * lam / 256) * sb * 256 / max 256 (sb * 256 - deadBins wL * lam)

/-- Form a channel's ambient estimate (stage 1, and λ' of stage 2). Where a mode switch left the counts
unspecified the mean is a free value (R98). -/
def Dev.formAmbient (ch : Nat) (r : Release) (c : ChScan) (d : Dev) : ChScan × Dev :=
  let p := gzbPage (ch / 512)
  let free := (d.scanned ch r).dirty && !d.twoPass ch r
  let (x, d) := if free then d.draw else (0, d)
  let tm := if r.exposed ch = 0 then 0 else if free then x % 2 ^ 24 else d.ambientMean ch r c
  let lam := if d.on p GZB_CTRL_BLANK_COMP then
      blankComp tm r.tBlank (r.shots0 + r.shots1) r.info.geo.beff r.wL else tm
  let sb := r.sb ch
  let rho := ambientRate lam sb r.wL
  let pile := d.on p GZB_CTRL_PILEUP && !r.info.keep
  let tau := 4 + min (d.fld (0x08 + ch / 512) MDW_DEAD_TIME_DT) 12
  let ga := if pile then deadGain rho tau (d.fld p GZB_AMB_ALPHA) else 256
  let lamP := if pile then correctedAmbient ga lam sb r.wL else lam
  ({ c with formed := true, lam := lam, rho := rho, ga := ga, pileup := pile, lamP := lamP }, d)

/-- Live shots n_i before bin i, from the raw bins read so far (R106). -/
def liveShots (sb dB : Nat) (raw : List Nat) (i : Nat) : Int :=
  (sb : Int) - (total ((raw.drop (i - dB)).take (min dB i)) : Int)

/-- Stage 2 on one bin: the corrected value in Q8 and whether the bin is blind (R106, R107). While pile-up correction is off no bin
counts as blind for SAT (DESIGN CHOICE, log entry 77: the spec does not say whether n_i is formed then). -/
def ChScan.addBin (c : ChScan) (sb dB h : Nat) : ChScan :=
  let i := c.raw.length
  let n := liveShots sb dB c.raw i
  let raw := c.raw ++ [h]
  if !c.pileup then { c with raw := raw, hp := c.hp ++ [256 * h], blind := c.blind ++ [false] }
  else if n ≤ 0 then { c with raw := raw, hp := c.hp ++ [c.lamP], blind := c.blind ++ [true] }
  else { c with raw := raw, hp := c.hp ++ [c.ga * h * sb / n.toNat], blind := c.blind ++ [false] }

/-- A corrected bin; λ' outside the gate (R108, R113, R116). -/
def ChScan.hpAt (c : ChScan) (j : Int) : Nat := if j < 0 then c.lamP else c.hp.getD j.toNat c.lamP

/-- The filter's tap count (GZB.FILT_CFG.TAPS). -/
def Dev.taps (d : Dev) (p : Nat) : Nat :=
  let n := d.fld p GZB_FILT_CFG_TAPS
  if n = 0 then 0 else max 3 (min n 9)

/-- Coefficient c_m. -/
def Dev.coef (d : Dev) (p m : Nat) : Nat := bitsOf (d.reg p (GZB_FILT_C_0 + 4 * (m / 4))) (8 * (m % 4) + 7) (8 * (m % 4))

/-- y_i in Q8 (R108). -/
def ChScan.filter (c : ChScan) (cs : List Nat) (i : Nat) : Nat :=
  let sum := total cs
  if sum = 0 then c.hpAt i
  else
    let mc := (cs.length - 1) / 2
    total ((List.range cs.length).map (fun m => cs.getD m 0 * c.hpAt ((i + m : Nat) - (mc : Nat) : Int))) / sum

/-- The threshold T in Q8 (R109). -/
def threshold (lamP k c : Nat) : Nat := lamP + max 32 (min k 128) * isqrt (lamP * 256) / 16 + c * 16

/-- Stages 3 and 4 on the next bin, when every bin the filter needs has been read (R108, R109, R127). -/
def ChScan.nextY (cs : List Nat) (thr beff : Nat) (c : ChScan) : ChScan :=
  let i := c.y.length
  let ahead := cs.length - 1 - (cs.length - 1) / 2
  if i < c.hp.length && (i + ahead < c.hp.length || beff ≤ c.hp.length) then
    let y := c.filter cs i
    { c with y := c.y ++ [(y, decide (thr < y))] }
  else c

/-- Read 8 bins of word w, or those below B_eff; free values in a half a mode switch left unspecified (R98). -/
def Dev.readWord (ch : Nat) (r : Release) (w : Nat) (d : Dev) : List Nat × Dev :=
  (List.range 8).foldl (fun (x : List Nat × Dev) j =>
    let b := 8 * w + j
    if b < r.info.geo.beff then
      let i := x.2.scanned ch r
      let (v, d) := Dev.readCount (i.dirty && !SMap.get false i.known (binKey ch r.half b)) (x.2.bin ch r.half b) x.2
      (x.1 ++ [v], d)
    else x) ([], d)

/-- One word of the first pass of a host-written half: it feeds the block sums alone (R104). -/
def ChScan.firstPass (c : ChScan) (ws : List Nat) (words : Nat) : ChScan :=
  if c.pos + 1 < words then { c with first := c.first ++ ws, pos := c.pos + 1 }
  else { c with first := c.first ++ ws, pos := 0, firstDone := true }

/-- The next word of channel `ch`'s released half goes through stages 1 to 4 (R105 to R109, R125). -/
def Dev.scanWord (ch : Nat) (d : Dev) : Dev :=
  let t := ch / 512
  let p := gzbPage t
  let g := d.getGzb t
  match g.scan with
  | none => d
  | some r =>
    let c := SMap.get {} g.chans (ch % 512)
    if r.words ≤ c.pos then d
    else
      let (ws, d) := d.readWord ch r c.pos
      if d.twoPass ch r && !c.firstDone then
        d.setGzb t { g with chans := SMap.put {} g.chans (ch % 512) (c.firstPass ws r.words) }
      else
        let (c, d) := if c.formed then (c, d) else d.formAmbient ch r c
        let c := ws.foldl (fun c h => c.addBin (r.sb ch) (deadBins r.wL) h) { c with pos := c.pos + 1 }
        let cs := (List.range (d.taps p)).map (d.coef p)
        let thr := threshold c.lamP (d.fld p GZB_THR_K) (d.fld p GZB_THR_C)
        let c := (List.range 20).foldl (fun c _ => c.nextY cs thr r.info.geo.beff) c
        d.setGzb t { g with chans := SMap.put {} g.chans (ch % 512) c }

/-! ### Stages 5 to 8 -/

/-- y of bin j; λ' outside the gate (R110). -/
def ChScan.yAt (c : ChScan) (j : Int) : Nat := if j < 0 then c.lamP else (c.y.getD j.toNat (c.lamP, false)).1

/-- A candidate: bin and strength. -/
abbrev Cand := Nat × Nat

/-- Bins that are exposed, above threshold and a local maximum (R110). -/
def ChScan.peaks (c : ChScan) (exposed : Nat) : List Cand :=
  (List.range (min exposed c.y.length)).filterMap (fun i =>
    let e := c.y.getD i (0, false)
    if e.2 && c.yAt ((i : Int) - 1) ≤ e.1 && c.yAt ((i : Int) + 1) < e.1 then some (i, e.1) else none)

/-- Stronger first; equal strength, lower bin first. -/
def stronger (a b : Cand) : Bool := b.2 < a.2 || (a.2 == b.2 && a.1 ≤ b.1)

/-- Insert by an order. -/
def insertBy (le : Cand → Cand → Bool) (x : Cand) : List Cand → List Cand
  | [] => [x]
  | y :: ys => if le x y then x :: y :: ys else y :: insertBy le x ys

/-- Sort by an order. -/
def sortBy (le : Cand → Cand → Bool) (l : List Cand) : List Cand := l.foldr (insertBy le) []

/-- Lower bin first. -/
def nearer (a b : Cand) : Bool := a.1 ≤ b.1

/-- Separation (R110): a peak falls to a candidate of greater strength within SEP bins. -/
def separate (sep : Nat) (ps : List Cand) : List Cand :=
  let kept := (sortBy stronger ps).foldl (fun (ks : List Cand) p =>
    if ks.any (fun q => p.1 ≤ q.1 + sep && q.1 ≤ p.1 + sep) then ks else ks ++ [p]) []
  sortBy nearer kept

/-- The weakest of a pool, the later of equals. -/
def weakest : List Cand → Option Cand
  | [] => none
  | x :: xs => match weakest xs with
    | none => some x
    | some y => if x.2 < y.2 then some x else some y

/-- At most 16 candidates (R111): those kept and the number discarded. -/
def capCands (ps : List Cand) : List Cand × Nat :=
  ps.foldl (fun (x : List Cand × Nat) p =>
    if x.1.length < 16 then (x.1 ++ [p], x.2)
    else
      let pool := (x.1.drop 1).dropLast ++ [p]
      match weakest pool with
      | none => (x.1, x.2 + 1)
      | some w => ((x.1 ++ [p]).filter (fun q => q != w), x.2 + 1)) ([], 0)

/-- Coarse time of flight of a candidate, 1/256 LSB (R110). -/
def Release.coarseTof (r : Release) (i : Nat) : Nat := 256 * r.oL + (256 * i + 128) * r.wL

/-- round(ToF × 1.8737029 mm), ToF in 1/256 LSB (R115). -/
def rangeOf (tof : Nat) : Nat := (2 * tof * 18737029 + 2560000000) / 5120000000

/-- WINDOW on a coarse time of flight (Table 05-2). -/
def Dev.isWindow (d : Dev) (ch tof : Nat) : Bool :=
  let p := gzbPage (ch / 512)
  let w : Int := d.fld p GZB_WINDOW_WIN_DIST
  let tol : Int := d.fld p GZB_WINDOW_WIN_TOL
  let r : Int := (rangeOf tof : Int) - d.zeroRange ch
  w != 0 && w - tol ≤ r && r ≤ w + tol

/-- Whether an alien-map entry holds for a slot (R123): later than its listen slot, not later than its expiry. -/
def Alien.live (a : Alien) (slot : Nat) : Bool :=
  let age := (slot + 2 ^ 32 - a.slot) % 2 ^ 32
  0 < age && age < 2 ^ 31 && (match a.life with | none => true | some l => age ≤ l)

/-- ALIEN on a coarse time of flight (R123). -/
def GzbT.isAlien (g : GzbT) (c slot tof : Nat) : Bool :=
  (SMap.get [] g.map c).any (fun a => a.live slot && a.centre ≤ tof + a.width && tof ≤ a.centre + a.width)

/-- Keep up to n candidates by a policy, in its order (Table 05-1). -/
def select (policy n : Nat) (cs : List Cand) : List Cand :=
  if policy == 1 then (sortBy stronger cs).take n
  else if policy == 2 then (sortBy nearer cs).reverse.take n
  else if policy == 3 then
    match sortBy nearer cs with
    | [] => []
    | x :: xs => x :: (sortBy stronger xs).take (n - 1)
  else (sortBy nearer cs).take n

/-- Coarse centroid (R113): refined time of flight in 1/256 LSB. -/
def ChScan.centroid (c : ChScan) (r : Release) (half i : Nat) : Nat :=
  let hw := max 1 half
  let js : List Int := (List.range (2 * hw + 1)).map (fun (k : Nat) => (i : Int) + (k : Int) - (hw : Int))
  let wt (j : Int) : Nat := c.hpAt j - c.lamP
  let ws := total (js.map wt)
  let mo : Int := (js.map (fun j => (j - (i : Int)) * (wt j : Int))).foldl (· + ·) 0
  let p : Int := 256 * (i : Int) + 128 + (if ws = 0 then 0 else (mo * 256) / (ws : Int))
  256 * r.oL + (p * (r.wL : Int)).toNat

/-- The zoom counters of a channel's released half, window by window, as the scan reads them (R96, R98, R114). -/
def Dev.readZoom (ch : Nat) (r : Release) (d : Dev) : List Nat × Dev :=
  let x := (List.range 256).foldl (fun (x : List Nat × Dev) j =>
    let i := x.2.scanned ch r
    let (v, d) := Dev.readCount (i.dirty && !SMap.get false i.zknown (zoomKey ch r.half 0 j)) (x.2.zbin ch r.half 0 j) x.2
    (v :: x.1, d)) ([], d)
  (x.1.reverse, x.2)

/-- Refinement in the zoom store (R114): the refined time of flight where some window qualifies. A window without any weight refines
nothing, ZMIN = 0 or not (DESIGN CHOICE, log entry 77: its centroid would divide by 0). -/
def Dev.zoomRefine (ch : Nat) (r : Release) (c : ChScan) (tof : Nat) (d : Dev) : Option Nat :=
  let l := ch % 512
  let lz := c.lamP / r.wL
  if SMap.get false r.info.zsat l then none
  else
    (List.range 4).findSome? (fun k =>
      let w := SMap.get 0 r.info.zwin (4 * l + k)
      let z := w % 2 ^ 19
      if bitAt w 31 && 256 * (z + 8) ≤ tof && tof < 256 * (z + 56) then
        let wt (b : Nat) : Nat := 256 * c.zraw.getD (64 * k + b) 0 - lz
        let ws := total ((List.range 64).map wt)
        let mo := total ((List.range 64).map (fun b => (2 * b + 1) * wt b))
        if 256 * d.fld (gzbPage (ch / 512)) GZB_PEAK_ZMIN ≤ ws && 0 < ws then some (256 * z + mo * 128 / ws) else none
      else none)

/-- The extent of a peak (R116): bins below and above it whose y stays at half level. -/
def extentDown (ys : Int → Nat) (half : Nat) : Nat → Nat → Nat
  | 0, i => i
  | fuel + 1, i => if 0 < i && half ≤ ys ((i : Int) - 1) then extentDown ys half fuel (i - 1) else i

def extentUp (ys : Int → Nat) (half beff : Nat) : Nat → Nat → Nat
  | 0, i => i
  | fuel + 1, i => if i + 1 < beff && half ≤ ys ((i : Int) + 1) then extentUp ys half beff fuel (i + 1) else i

/-- HOP (Table 05-2): a hop's interval overlaps the span of the bins lo to hi, as times of flight in LSB. -/
def hopOverlap (r : Release) (ch : Nat) (lo hi : Int) : Bool :=
  let a : Int := (r.oL : Int) + lo * (r.wL : Int)
  let b : Int := (r.oL : Int) + (hi + 1) * (r.wL : Int)
  (SMap.get [] r.hops (ch % 512)).any (fun th =>
    ((th : Int) - (r.sMaxOf ch : Int) < b) && (a ≤ (th : Int) - (r.sMinOf ch : Int) + 48))

/-- Stages 6 to 8 on one selected candidate, BLOOM apart (R113 to R117). -/
def Dev.refine (ch : Nat) (r : Release) (c : ChScan) (slotListen alien window : Bool) (cand : Cand) (d : Dev) : Echo :=
  let p := gzbPage (ch / 512)
  let i := cand.1
  let beff := r.info.geo.beff
  let sb := r.sb ch
  let coarse := c.centroid r (d.fld p GZB_PEAK_HALF) i
  let z := d.zoomRefine ch r c coarse
  let tof := z.getD coarse
  let half := (cand.2 + c.lamP) / 2
  let lo := extentDown c.yAt half beff i
  let hi := extentUp c.yAt half beff beff i
  let wid := (hi + 1 - lo) * r.wL / 8
  let x := d.fld p GZB_PEAK_AREA_EXT
  let js : List Int := (List.range (hi + 1 - lo + 2 * x)).map (fun (k : Nat) => (lo : Int) + (k : Int) - (x : Int))
  let area : Int := (js.map (fun j => (c.hpAt j : Int) - (c.lamP : Int))).foldl (· + ·) 0
  let inten := min 65535 (area.toNat / max 1 sb)
  let inside := js.filter (fun j => 0 ≤ j && j < (beff : Int))
  let sat := SMap.get false r.info.sat (ch % 512)
    || (!r.info.keep && 4 ≤ sb && inside.any (fun j => (15 * sb + 15) / 16 ≤ c.raw.getD j.toNat 0))
    || inside.any (fun j => c.blind.getD j.toNat false)
  let sun := !r.info.keep && 256 * d.fld p GZB_SUN_SUN_RATE ≤ c.rho
  let vw := d.fld p GZB_VOL_VOL_WIDTH
  let vol := vw != 0 && 10 * vw ≤ (hi + 1 - lo) * r.wL / 8
    && (cand.2 - c.lamP) / max 1 sb < d.fld p GZB_VOL_VOL_AMP
  let hop := hopOverlap r ch ((lo : Int) - (x : Int)) ((hi : Int) + (x : Int))
  let fl := (if sun then 1 else 0) + (if vol then 2 else 0) + (if alien || slotListen then 8 else 0)
    + (if sat then 16 else 0) + (if z.isSome then 32 else 0) + (if hop then 64 else 0) + (if window then 128 else 0)
  { ch := ch, range := (clampI 0 1048575 ((rangeOf tof : Int) - d.zeroRange ch)).toNat, tof := tof,
    intensity := inten, width := min 65535 wid, flags := fl, amb := min 65535 (c.rho / 256) }

/-- Number the echoes of a channel and mark the last. -/
def numberEchoes (es : List Echo) : List Echo :=
  (List.range es.length).zip es |>.map (fun x => { x.2 with num := x.1, last := x.1 + 1 == es.length })

/-- The life of an entry of listen slot `slot` that lasts until the next listen slot, once slot n is that one (R122): it holds for the
slots before n. -/
def lifeUntil (slot n : Nat) : Nat := (n + 2 ^ 32 - 1 - slot) % 2 ^ 32

/-- The alien-map entries that a listen slot's echoes make (R122). With LIFE = 0 they last until the next listen slot, which may have
started already. -/
def Dev.alienEntries (ch : Nat) (r : Release) (es : List Echo) (d : Dev) : List Alien :=
  let p := gzbPage (ch / 512)
  let life := d.fld p GZB_ALIEN_LIFE
  let till := if life != 0 then some life
    else match d.bnd.listenNum with
      | some n => if n == r.info.slot then none else some (lifeUntil r.info.slot n)
      | none => none
  es.map (fun e => ⟨e.tof, 256 * r.wL * d.fld p GZB_ALIEN_W, r.info.slot, till⟩)

/-- Listen slot n starts: the entries that last until the next listen slot end (R122, R123). -/
def Dev.aliensEnd (n : Nat) (d : Dev) : Dev :=
  let d := { d with bnd := { d.bnd with listenNum := some n } }
  (List.range 4).foldl (fun (d : Dev) t =>
    let g := d.getGzb t
    d.setGzb t { g with map := g.map.map (fun (e : Nat × List Alien) =>
      (e.1, e.2.map (fun a => { a with life := some (a.life.getD (lifeUntil a.slot n)) }))) }) d

/-- What stages 5 to 8 find on a channel: echoes for every consumer, ALIEN candidates for the echo feed alone, and
WINDOW candidates for the contamination monitor (R112, R119, R124). -/
structure Found where
  echoes : List Echo := []
  feed : List Echo := []
  window : List Echo := []
  discards : Nat := 0
  aliens : Nat := 0
deriving DecidableEq, Repr

/-- Stages 5 to 8 on a channel all of whose words have been read (R110 to R117, R122, R123). Candidates of a listen slot are tested
like any others, against the entries that theirs replace. -/
def Dev.find (ch : Nat) (r : Release) (c : ChScan) (g : GzbT) (d : Dev) : Found :=
  let p := gzbPage (ch / 512)
  if r.sb ch = 0 || r.exposed ch = 0 then {}
  else
    let (cs, disc) := capCands (separate (max 1 (d.fld p GZB_PEAK_SEP)) (c.peaks (r.exposed ch)))
    let alien (x : Cand) : Bool := g.isAlien (ch % 512) r.info.slot (r.coarseTof x.1)
    let win (x : Cand) : Bool := d.isWindow ch (r.coarseTof x.1)
    let make (x : Cand) : Echo := d.refine ch r c r.listen (alien x) (win x) x
    let am := d.on p GZB_CTRL_ALIEN_MODE
    let kept := cs.filter (fun x => !(am && alien x) && !(d.on p GZB_CTRL_WIN_EXCL && win x))
    let sel := if r.listen then select 1 4 kept
      else select (d.fld p GZB_CTRL_POLICY) (d.fld p GZB_CTRL_MAX_ECHO_M1 + 1) kept
    { echoes := numberEchoes (sel.map make)
      feed := ((cs.filter (fun x => d.hasLodge && am && alien x)).map make).map (fun e => { e with feedOnly := true })
      window := (cs.filter win).map make
      discards := disc
      aliens := (cs.filter alien).length }

/-- The SAT echoes of channel m in a slot, as time of flight and intensity (R118). -/
def Dev.satOf (d : Dev) (slot m : Nat) : List (Nat × Nat) :=
  let x := SMap.get (0, []) d.satEchoes m
  if x.1 == slot then x.2 else []

/-- BLOOM of an echo (R118). -/
def Dev.isBloom (d : Dev) (slot wL : Nat) (e : Echo) : Bool :=
  let p := gzbPage (e.ch / 512)
  let nb := d.fld p GZB_BLOOM_NB
  let tol := 256 * wL * d.fld p GZB_BLOOM_DT
  let ratio := d.fld p GZB_BLOOM_RATIO
  !bitAt e.flags 4 && (List.range (2 * nb + 1)).any (fun k =>
    let m := e.ch + k - nb
    nb ≤ e.ch + k && m != e.ch && m < 2048 &&
    (d.satOf slot m).any (fun s =>
      s.1 ≤ e.tof + tol && e.tof ≤ s.1 + tol && e.intensity * 256 ≤ s.2 * ratio))

/-- Whether channel m has completed stage 7 for a slot, or its terrace has no half of that slot to extract (R118). -/
def Dev.stage7Done (d : Dev) (slot m : Nat) : Bool :=
  let g := d.getGzb (m / 512)
  match g.scan with
  | some r => r.info.slot != slot || (SMap.get {} g.chans (m % 512)).extracted
  | none => true

/-- Whether channel n's records may leave (R118). -/
def Dev.bloomReady (d : Dev) (slot n : Nat) : Bool :=
  let nb := d.fld (gzbPage (n / 512)) GZB_BLOOM_NB
  (List.range (2 * nb + 1)).all (fun k => n + k < nb || 2048 ≤ n + k - nb || d.stage7Done slot (n + k - nb))

/-- GZB.STATUS.MAP_ENTRIES (R129): unexpired entries, as of the current slot number. -/
def Dev.mapEntries (d : Dev) (t : Nat) : Nat :=
  let slot := d.regN 0x83 BND_SLOT_NUM
  total (((d.getGzb t).map).map (fun e => (e.2.filter (fun a => a.slot == slot || a.live slot)).length))

/-- CHANNEL_EXTRACTION's effect on Gazebo's own state (R110 to R117, R122 to R124, R128): the channel's echoes wait
for delivery, the counters and events follow. Answers the WINDOW candidates for the contamination monitor. -/
def Dev.extractChannel (ch : Nat) (d : Dev) : Dev × List Echo :=
  let t := ch / 512
  let p := gzbPage t
  let l := ch % 512
  let g := d.getGzb t
  match g.scan with
  | none => (d, [])
  | some r =>
    let c := SMap.get {} g.chans l
    if c.extracted || c.pos < r.words || (d.twoPass ch r && !c.firstDone && 0 < r.words) then (d, [])
    else
      let (c, d) := if c.formed then (c, d) else d.formAmbient ch r c
      let (z, d) := d.readZoom ch r
      let c := { c with zraw := z }
      let f := d.find ch r c g
      let sun := !r.info.keep && 256 * d.fld p GZB_SUN_SUN_RATE ≤ c.rho && r.sb ch != 0
      let report := !r.listen || d.on 0x54 GZB_LISTEN_REPORT
      let out := f.feed ++ (if report then f.echoes else [])
      let ents := d.alienEntries ch r f.echoes
      let g := { g with
        chans := SMap.put {} g.chans l { c with extracted := true }
        echoes := g.echoes ++ out
        sun := if sun then g.sun + 1 else g.sun
        map := if r.listen then SMap.put [] g.map l ents else g.map
        track := if r.listen then g.track else f.echoes.foldl (fun m e => SMap.put 0 m (4 * l + e.num) (e.tof + 1)) g.track }
      let d := d.setGzb t g
      let sat := (f.echoes.filter (fun e => bitAt e.flags 4)).map (fun e => (e.tof, e.intensity))
      let d := { d with satEchoes := SMap.put (0, []) d.satEchoes ch (if sat.isEmpty then (0, []) else (r.info.slot, sat)) }
      let d := if 0 < f.discards then Dev.gzbOnce t 1 (d.bumpBy p GZB_CAND_OVF f.discards) else d
      let d := if 0 < f.aliens then d.bumpBy p GZB_ALIEN_CNT f.aliens else d
      let d := if f.window.isEmpty then d else Dev.gzbOnce t 5 (d.bumpBy p GZB_WIN_CNT f.window.length)
      let d := if r.listen && !ents.isEmpty then d.gzbOnce t 3 else d
      (d, f.window)

/-- Whether every channel of the half under scan has completed stage 7. -/
def GzbT.allDone (g : GzbT) : Bool := (List.range 512).all (fun l => (SMap.get {} g.chans l).extracted)

/-- The end of a slot's extraction (R88, R89, R128): tracking gets the slot's echoes, SUN_CH_LAST and GZB_SUN_HIGH follow. -/
def Dev.extractionEnd (t : Nat) (d : Dev) : Dev :=
  let p := gzbPage t
  let g := d.getGzb t
  let o := d.getOrg t
  let d := d.setOrg t { o with track := g.track }
  let d := d.setFld p GZB_SUN_CH_LAST_COUNT g.sun
  let lim := d.fld p GZB_SUN_SUN_CH
  if lim != 0 && lim ≤ g.sun then d.raise p 0 else d

/-- Abandon the channels of the half under scan whose stage 7 is not complete (R126). -/
def Dev.abandonScan (t : Nat) (d : Dev) : Dev :=
  let g := d.getGzb t
  match g.scan with
  | none => d
  | some _ =>
    let left := ((List.range 512).filter (fun l => !(SMap.get {} g.chans l).extracted)).length
    let d := d.setGzb t { g with scan := none, chans := [] }
    let d := d.setFld (orgPage t) ORG_WIN_STATUS_SCANNING 0
    if left = 0 then d
    else Dev.raise (gzbPage t) 4 (d.bumpBy (gzbPage t) GZB_ABANDON left)

/-- A write of GZB.LISTEN clears every terrace's alien map (R123). -/
def Dev.clearAlienMaps (d : Dev) : Dev :=
  (List.range 4).foldl (fun d t => d.setGzb t { d.getGzb t with map := [] }) d

end Sys2Proof.Machine
end

