-- ==== Sys2Proof/Machine/TimeBase.lean ====
section
/-! DEFINITION. The device time base and the park: sync frames, steps and phase moves, lock, loads (Point records, frames
and the device time base, R141 to R149). -/
namespace Sys2Proof.Machine

/-- The device is a park member. -/
def Dev.parkEn (d : Dev) : Bool := d.on 0x03 DTB_CTRL_PARK_EN

/-- The device is a park follower (R142). -/
def Dev.isFollower (d : Dev) : Bool := d.parkEn && d.on 0x03 DTB_CTRL_PARK_INDEX

/-- The device is the park's leader (R142). -/
def Dev.isLeader (d : Dev) : Bool := d.parkEn && !d.on 0x03 DTB_CTRL_PARK_INDEX

/-- The device runs the loop measurement: LOOP = 1 and PARK_EN = 0 (R142). -/
def Dev.inLoop (d : Dev) : Bool := !d.parkEn && d.on 0x03 DTB_CTRL_LOOP

/-- TIME period in LSB (DTB.SYNC_CFG). -/
def Dev.timePeriod (d : Dev) : Nat := 64 * 2 ^ (max 16 (min (d.fld 0x03 DTB_SYNC_CFG_PERIOD_LOG2) 24))

/-- One bit of a sync frame, 6.4 ns, in LSB (R143). -/
abbrev syncBit : Nat := 512

/-- A sync frame: TYPE, payload, CRC over both, most significant byte first (R143, Table 06-6). -/
def syncFrame (type payload : Nat) : Nat × Nat × Nat :=
  (type, payload, (crc8 (type :: beBytes (if type == 0x5A then 8 else 4) payload)).toNat)

/-- Set LOCKED, with the change noted for triggers of an earlier time (R290): no source delivers later than 250 ms after its time. -/
def Dev.setLocked (b : Bool) (d : Dev) : Dev :=
  let was := d.on 0x03 DTB_STATUS_LOCKED
  let log := d.dtb.lockLog.filter (fun x => d.edgeTime ≤ x.1 + Config.ms 250)
  let d := if was == b then d else { d with dtb := { d.dtb with lockLog := (d.edgeTime, was) :: log } }
  d.setFld 0x03 DTB_STATUS_LOCKED b.toNat

/-- LOCKED falls (R144): counted and raised. -/
def Dev.syncLoss (d : Dev) : Dev :=
  if d.on 0x03 DTB_STATUS_LOCKED then
    let d := (d.setLocked false).bump 0x03 DTB_SYNC_LOSS_CNT
    Dev.raise 0x03 1 { d with dtb := { d.dtb with good := 0 } }
  else { d with dtb := { d.dtb with good := 0 } }

/-- LOCKED rises (R144). -/
def Dev.syncLock (d : Dev) : Dev :=
  if d.on 0x03 DTB_STATUS_LOCKED then d else (d.setLocked true).raise 0x03 0

/-- TIME_SAT falls when device time has been set to a value whose bits 63 to 19 are not all ones (R141). -/
def Dev.timeSet (d : Dev) : Dev :=
  if timeSaturated d.dtb.dt then d
  else Dev.setFld { d with dtb := { d.dtb with carried := false } } 0x03 DTB_STATUS_TIME_SAT 0

/-- Set device time (R141, R145). -/
def Dev.setTime (v : Nat) (d : Dev) : Dev := Dev.timeSet { d with dtb := { d.dtb with dt := v % 2 ^ 64 } }

/-- Apply a step or a phase move of a follower (R144); device time does not wrap (R141). -/
def Dev.applyMove (m : Int × Bool) (d : Dev) : Dev :=
  let d := if 0 ≤ m.1 then (d.countOn m.1.toNat).timeSet else d.setTime (d.edgeTime - m.1.natAbs)
  if m.2 then
    ((d.bump 0x03 DTB_STEP_CNT).setFld 0x03 DTB_STATUS_ACQUIRED 1).raise 0x03 2
  else d

/-- Apply what waits: a load, or a step or move (R144, R145). -/
def Dev.applyPending (d : Dev) : Dev :=
  let d := match d.dtb.pendLoad with
    | some v => { d with dtb := { d.dtb with pendLoad := none } }.setTime v
    | none => d
  match d.dtb.pendMove with
  | some m => Dev.applyMove m { d with dtb := { d.dtb with pendMove := none } }
  | none => d

/-- Outside SCANNING a change of time is applied at once; in SCANNING it waits for a slot trigger (R144). -/
def Dev.applyIfIdle (d : Dev) : Dev := if d.devState == stScanning then d else d.applyPending

/-- SYNC_TIME_FRAME_SEND (R143): at each multiple of the TIME period the leader, or a device in loop mode, sends a
TIME frame. -/
def Dev.timeFrameSend (d : Dev) : Dev :=
  let off := d.edgeTime % d.timePeriod
  if d.dtb.run && (d.isLeader || d.inLoop) && off ≤ 2 then
    { d with dtb := { d.dtb with
        sent := d.dtb.sent ++ [syncFrame 0x5A (d.edgeTime - off)], busyUntil := d.now + syncBit * (81 + 8) } }
  else d

/-- The oldest EVENT that waits leaves at the first bit time at which the line is free, unless it would overlap the next TIME frame
(R143). -/
def Dev.eventDue (d : Dev) : Dev :=
  match d.dtb.events with
  | [] => d
  | p :: rest =>
    let at_ := d.dtb.busyUntil
    let then_ := d.edgeTime - (d.now - at_)
    if at_ ≤ d.now && syncBit * 57 ≤ d.timePeriod - then_ % d.timePeriod then
      { d with dtb := { d.dtb with
          sent := d.dtb.sent ++ [syncFrame 0xA5 p], events := rest, busyUntil := at_ + syncBit * 57 } }
    else d

/-- Every EVENT that could leave by now has left (R143). -/
def Dev.eventsDue (d : Dev) : Dev := (List.range d.dtb.events.length).foldl (fun (d : Dev) _ => d.eventDue) d

/-- The leader sends an EVENT frame that dates a SYNC_IN edge, at the next free bit time (R143). -/
def Dev.eventFrameSend (te : Nat) (d : Dev) : Dev :=
  Dev.eventsDue { d with dtb := { d.dtb with
    events := d.dtb.events ++ [te % 2 ^ 32]
    busyUntil := if d.dtb.events.isEmpty then max d.dtb.busyUntil d.now else d.dtb.busyUntil } }

/-- A frame whose CRC is wrong is discarded and counted (R143). -/
def Dev.syncCrcError (d : Dev) : Dev := d.bumpFirst 0x03 DTB_CRC_ERR 3

/-- A step waits to be applied. -/
def Dev.stepWaits (d : Dev) : Bool := match d.dtb.pendMove with | some (_, s) => s | none => false

/-- The follower's action on the error e of a TIME frame (R144). A step that waits for a slot trigger is kept when a later frame asks for
a move or for none, and replaced by a later step (DESIGN CHOICE, log entry 78). -/
def Dev.follow (e : Int) (d : Dev) : Dev :=
  let step (d : Dev) : Dev := { d with dtb := { d.dtb with pendMove := some (-e, true), reacquire := false } }
  let d :=
    if d.dtb.reacquire then step d
    else if 64 < e.natAbs then step d
    else if d.stepWaits then d
    else if e == 0 then { d with dtb := { d.dtb with pendMove := none } }
    else { d with dtb := { d.dtb with pendMove := some (if 0 < e then (-1, false) else (1, false)) } }
  let d := if 8 < e.natAbs then
      (let was := d.on 0x03 DTB_STATUS_LOCKED
       let d := d.syncLoss
       if was && e.natAbs ≤ 64 then { d with dtb := { d.dtb with reacquire := true } } else d)
    else if e.natAbs ≤ 4 then { d with dtb := { d.dtb with good := d.dtb.good + 1 } }
    else { d with dtb := { d.dtb with good := 0 } }
  let d := if 4 ≤ d.dtb.good then d.syncLock else d
  d.applyIfIdle

/-- SYNC_TIME_FRAME_RECEIVE (R142 to R144): a TIME frame with leader time `tm`, its CRC right or wrong, whose marker
arrives now. -/
def Dev.timeFrameReceive (tm : Nat) (crcOk : Bool) (d : Dev) : Dev :=
  if !(d.isFollower || d.inLoop) then d
  else if !crcOk then d.syncCrcError
  else
    let a := d.edgeTime
    let d := { d with dtb := { d.dtb with lastTm := tm, lastA := a } }
    if d.inLoop then
      d.setFld 0x03 DTB_LOOP_DELAY_DELAY (toBits 16 ((a : Int) - (tm : Int)))
    else
      let e : Int := (a : Int) - (d.fld 0x03 DTB_CABLE_DELAY_DELAY : Int) - (tm : Int)
      let d := d.setFld 0x03 DTB_PHASE_ERR_E (toBits 16 (clampI (-32767) 32767 e))
      (d.setFld 0x03 DTB_STATUS_MISSED 0).follow e

/-- SYNC_FRAME_MISSED (R144): an expected TIME frame has not arrived. -/
def Dev.frameMissed (d : Dev) : Dev :=
  if !d.isFollower then d
  else
    let n := min 255 (d.fld 0x03 DTB_STATUS_MISSED + 1)
    let d := d.setFld 0x03 DTB_STATUS_MISSED n
    if 2 ≤ n && d.on 0x03 DTB_STATUS_LOCKED then
      let d := d.syncLoss
      { d with dtb := { d.dtb with reacquire := true } }
    else d

/-- The device time nearest to the present one whose low 32 bits are `p` (R143). -/
def Dev.fullTime (d : Dev) (p : Nat) : Nat :=
  let now := d.edgeTime
  let c := (now / 2 ^ 32) * 2 ^ 32 + p % 2 ^ 32
  if c ≤ now then (if now - c ≤ 2 ^ 31 then c else c + 2 ^ 32)
  else if c - now ≤ 2 ^ 31 || c < 2 ^ 32 then c else c - 2 ^ 32

/-- A write of 1 to DTB.CTRL.LOAD (R145). -/
def Dev.dtbLoad (d : Dev) : Dev :=
  if d.isFollower then d
  else
    Dev.applyIfIdle { d with dtb := { d.dtb with
      pendLoad := some (d.regN 0x03 DTB_LOAD_HI * 2 ^ 32 + d.regN 0x03 DTB_LOAD_LO) } }

/-- A write of 1 to DTB.CTRL.RESYNC (R144). -/
def Dev.dtbResync (d : Dev) : Dev :=
  if d.isFollower then { d with dtb := { d.dtb with reacquire := true } } else d

/-- What a write of DTB.CTRL does beside LOAD and RESYNC: LEADER, LOCKED and ACQUIRED follow the device's part in the
park; a device that becomes a follower clears LOCKED and acquires at the next TIME frame (R144, R148). A device that is no follower
never steps its time, a follower takes no load, and only a leader sends EVENT frames (R142, R145). LOCKED that returns to 1 on a device
that ceases to be a follower raises no DTB_SYNC_LOCK, and a write that leaves a follower a follower starts no new acquisition (DESIGN
CHOICE, log entry 78). -/
def Dev.dtbCtrlWritten (old : Word) (d : Dev) : Dev :=
  let was := bitAt old.toNat 0 && bitsOf old 3 1 != 0
  let d := { d with dtb := { d.dtb with
    pendMove := if d.isFollower then d.dtb.pendMove else none
    pendLoad := if d.isFollower then none else d.dtb.pendLoad
    events := if d.isLeader then d.dtb.events else []
    reacquire := d.isFollower && d.dtb.reacquire } }
  let d := d.setFld 0x03 DTB_STATUS_LEADER (if d.isLeader then 1 else 0)
  let d := if bitAt old.toNat 0 != d.parkEn then d.setFld 0x03 DTB_STATUS_ACQUIRED 0 else d
  if d.isFollower then
    if was then d
    else
      let d := d.syncLoss
      { d with dtb := { d.dtb with reacquire := true } }.setFld 0x03 DTB_STATUS_MISSED 0
  else (d.setLocked true).setFld 0x03 DTB_STATUS_MISSED 0

/-- DEVICE_TIME_SATURATE (R141): the count would have carried out of bit 63. -/
def Dev.timeSaturate (d : Dev) : Dev :=
  if d.dtb.carried && !d.on 0x03 DTB_STATUS_TIME_SAT then
    (d.setFld 0x03 DTB_STATUS_TIME_SAT 1).raise 0x03 4
  else d

end Sys2Proof.Machine
end

