-- ==== Sys2Proof/Machine/Promenade.lean ====
section
/-! DEFINITION. Promenade: payloads byte by byte, packets and their numbers, the egress buffer, alignment of the link, lanes
(Point records, R130 to R140; Serial lanes and the Promenade link, R150 to R174). -/
namespace Sys2Proof.Machine

/-- PRM page of lane n. -/
def lanePage (n : Nat) : Nat := 0x78 + n

/-- One block on a lane LN0 to LN7, 66 bits of 80 ps, in tenths of an LSB (R150, R153). -/
abbrev blockTenths : Nat := 4224

/-! ### Payloads -/

/-- The 32 flag bits of a slot header (Table 06-2, bytes 24 to 27). -/
def SlotRec.flags (s : SlotRec) (taps : Bool) : Nat :=
  s.touched.toNat + 2 * s.skipped.toNat + 4 * s.listen.toNat + 8 * s.fbLost.toNat + 16 * s.hold.toNat
    + 32 * s.inhibited.toNat + 64 * taps.toNat + 128 * s.unsync.toNat + 256 * (s.startLost % 256)
    + 65536 * (s.lock % 16) + 2 ^ 20 * (s.notExtracted % 16) + 2 ^ 24 * (s.shots % 32) + 2 ^ 29 * s.seqLate.toNat

/-- A slot header, 64 bytes (R133). -/
def SlotRec.header (s : SlotRec) (taps : Bool) : List Nat :=
  leBytes 4 s.num ++ leBytes 2 s.frame ++ leBytes 2 (s.inFrame % 4096) ++ leBytes 8 s.devTime
    ++ leBytes 4 (toBits 32 s.angle) ++ leBytes 4 (toBits 24 s.omega) ++ leBytes 4 (s.flags taps)
    ++ leBytes 2 (s.records.length / 16) ++ leBytes 2 0
    ++ (List.range 16).flatMap (fun i => leBytes 2 (sat16 (s.sums.getD i 0)))

/-- An echo record, 16 bytes (R135). -/
def Echo.record (e : Echo) (slot : Nat) : List Nat :=
  leBytes 2 (e.ch % 2048 + 2048 * (e.num % 4) + 8192 * e.last.toNat)
    ++ leBytes 3 (e.range % 2 ^ 20 + 2 ^ 20 * (slot % 16)) ++ [e.flags % 256]
    ++ leBytes 2 e.intensity ++ leBytes 2 e.width ++ leBytes 2 e.amb ++ leBytes 4 (e.tof % 2 ^ 27)

/-- A frame marker, 32 bytes (R139); `fin` for END. -/
def FrameRec.marker (f : FrameRec) (park : Nat) (fin : Bool) : List Nat :=
  let bits := (fin && f.ended == some true).toNat + 2 * (f.buf % 2) + 4 * f.unsync.toNat
  leBytes 4 (if fin then f.lastNum else f.firstNum) ++ leBytes 2 f.num ++ [fin.toNat, bits]
    ++ leBytes 8 (if fin then f.lastTime else f.firstTime)
    ++ leBytes 2 ((if fin then f.slots else f.entries) % 4096)
    ++ leBytes 2 (if fin then f.skips else 0) ++ leBytes 2 (if fin then f.touched else 0)
    ++ [park % 8] ++ List.replicate 9 0

/-- A histogram-tap payload of channel-local settings `tp` on terrace t (R96, R140). -/
def tapPayload (r : Release) (t : Nat) (tp : TapCfg) (raw : List Nat) (zooms : List Nat) : List Nat :=
  let count := if tp.zoom then 256 else tp.len
  let c := 512 * t + tp.ch
  leBytes 4 r.info.slot
    ++ leBytes 2 (c + 2048 * tp.zoom.toNat + 4096 * (SMap.get false r.info.sat tp.ch).toNat
        + 8192 * (SMap.get false r.info.zsat tp.ch).toNat + 16384 * (r.info.geo.binW % 4))
    ++ leBytes 2 (if tp.zoom then 0 else tp.first % 16384) ++ leBytes 2 count
    ++ leBytes 2 (r.info.geo.offset % 16384) ++ leBytes 2 r.info.geo.beff ++ [tp.idx % 16, 0]
    ++ (List.range 4).flatMap (fun k => leBytes 4 (SMap.get 0 r.info.zwin (4 * tp.ch + k)))
    ++ (if tp.zoom then zooms.flatMap (leBytes 2)
        else (List.range tp.len).flatMap (fun i =>
          leBytes 2 (if tp.first + i < r.info.geo.beff then raw.getD (tp.first + i) 0 else 0)))

/-! ### Egress -/

/-- The lane cluster is gated (R469). -/
def Dev.lanesGated (d : Dev) : Bool := d.gated 8

/-- Bytes held in the egress buffer: packets, the one in transmission, records of open slots (R167). -/
def Dev.egressBytes (d : Dev) : Nat :=
  total (d.prm.queue.map (fun p => p.payload.length))
    + (match d.prm.inFlight with | some (p, _) => p.payload.length | none => 0)
    + total (d.slots.map (fun (s : SlotRec) => s.records.length))

/-- PRM.EGRESS follows the occupancy (R174). -/
def Dev.egressUpdate (d : Dev) : Dev :=
  let l := min 8192 (ceilDiv d.egressBytes 64)
  (d.setFld 0x82 PRM_EGRESS_LEVEL l).setFld 0x82 PRM_EGRESS_PEAK (max l (d.fld 0x82 PRM_EGRESS_PEAK))

/-- Whether n more bytes fit the 512 KiB (R167); a capture image longer than the buffer enters an empty one (log entry 10). -/
def Dev.hasSpace (d : Dev) (n : Nat) : Bool := d.egressBytes + min n 524288 ≤ 524288

/-- Take the next packet number (R166). -/
def Dev.takeSeq (d : Dev) : Nat × Dev :=
  let n := d.fld 0x82 PRM_SEQ_NEXT_SEQ
  (n, d.setFld 0x82 PRM_SEQ_NEXT_SEQ (n + 1))

/-- Discard a packet that was created: its number is consumed and it is counted (R160, R166). -/
def Dev.discardPacket (d : Dev) : Dev := (d.takeSeq.2).bump 0x82 PRM_DISCARD_PKT

/-- Create a packet (R160, R166, R469). Off ALIGNED it is discarded; after a return to ALIGNED packets of the other types
wait out the first frame marker or slot packet, discarded too. `late` is the frame of a skipped slot (R134). -/
def Dev.createPacket (type : Nat) (payload : List Nat) (d : Dev) (late : Option Nat := none) : Dev :=
  if d.lanesGated then d
  else if !d.prm.aligned || (d.prm.await && type != 1 && type != 2) then d.discardPacket
  else
    let (n, d) := d.takeSeq
    Dev.egressUpdate { d with prm := { d.prm with queue := d.prm.queue ++ [⟨type, n, payload, late⟩], await := false } }

/-- An item that the discard stub takes in the gated lane cluster's place (R469). -/
def Dev.laneDiscard (d : Dev) : Dev := d.bump 0x01 PWR_LANE_DISCARD

/-- Offer a payload of type 0x04 or 0x05: taken by the stub, discarded off ALIGNED, or entered when there is space.
Answers whether it was accepted (R167, R469). -/
def Dev.offerPayload (type : Nat) (payload : List Nat) (d : Dev) : Dev × Bool :=
  if d.lanesGated then (d.laneDiscard, true)
  else if d.prm.aligned && !d.hasSpace payload.length then (d, false)
  else (d.createPacket type payload, true)

/-- Offer a record of the slot `num` (R160, R167, R469). Answers whether it was accepted. -/
def Dev.offerRecord (num : Nat) (bytes : List Nat) (d : Dev) : Dev × Bool :=
  if d.lanesGated then (d.laneDiscard, true)
  else if !d.prm.aligned then
    ({ d with slots := d.slots.map (fun (s : SlotRec) => if s.num == num then { s with lost := true } else s) }, true)
  else if !d.hasSpace bytes.length then (d, false)
  else
    (Dev.egressUpdate { d with slots := d.slots.map (fun (s : SlotRec) =>
        if s.num == num && !s.lost then { s with records := s.records ++ bytes } else s) }, true)

/-- A slot's staged taps in terrace order (R132), whatever the order in which the terraces' scans ended. -/
def SlotRec.tapList (s : SlotRec) : List (List Nat) :=
  (List.range 4).flatMap (fun t => (s.taps.filter (fun (x : Nat × List Nat) => x.1 == t)).map (fun (x : Nat × List Nat) => x.2))

/-- Admit the staged taps of a slot one by one while the reserve stays free (R168): those admitted, and the number dropped. -/
def admitTaps (reserve : Nat) : Nat → List (List Nat) → List (List Nat × Bool)
  | _, [] => []
  | used, p :: ps =>
    if used + p.length + reserve ≤ 524288 then (p, true) :: admitTaps reserve (used + p.length) ps
    else (p, false) :: admitTaps reserve used ps

/-- Create the END marker of a frame all of whose slots have been committed (R132, R139). -/
def Dev.closeFrame (num : Nat) (d : Dev) : Dev :=
  match d.frames.find? (fun f => f.num == num) with
  | none => d
  | some f =>
    if f.ended.isSome && f.started && !(d.slots.any (fun s => s.frame == num)) then
      let d := { d with frames := d.frames.filter (fun f => f.num != num) }
      d.createPacket 2 (f.marker (d.fld 0x03 DTB_CTRL_PARK_INDEX) true)
    else d

/-- SLOT_HEADER_COMMIT (R132 to R134, R139, R167, R168): the oldest slot whose last record has been accepted is finalised;
START marker, slot packet, taps and END marker are created in the order of R132. -/
def Dev.commitSlot (d : Dev) : Dev :=
  match d.slots with
  | [] => d
  | s :: rest =>
    if s.acquiring || s.due != 0 || (d.prm.aligned && !d.hasSpace 128) then d
    else
      let f? := d.frames.find? (fun f => f.num == s.frame)
      let park := d.fld 0x03 DTB_CTRL_PARK_INDEX
      let d := match f? with
        | some f => if f.started then d
            else Dev.createPacket 2 (f.marker park false)
              { d with frames := d.frames.map (fun (g : FrameRec) => if g.num == f.num then { g with started := true } else g) }
        | none => d
      let used := d.egressBytes + 64
      let taps := admitTaps (1024 * d.fld 0x82 PRM_LINK_CFG_TAP_RESERVE) used s.tapList
      let bad := s.lost || !d.prm.aligned
      let d := { d with slots := rest }
      let d := if d.lanesGated then d
        else if bad then
          (List.range (1 + s.taps.length)).foldl (fun d _ => d.discardPacket) d
        else
          let d := d.createPacket 1 (s.header (taps.any (fun (x : List Nat × Bool) => x.2)) ++ s.records)
            (if s.skipped then some s.frame else none)
          let dropped := (taps.filter (fun (x : List Nat × Bool) => !x.2)).length
          let d := taps.foldl (fun (d : Dev) (x : List Nat × Bool) =>
            if x.2 then d.createPacket 3 x.1 else (d.takeSeq.2).bump 0x82 PRM_TAP_DROP) d
          if 0 < dropped then d.raise 0x82 2 else d
      let d := { d with frames := d.frames.map (fun (g : FrameRec) =>
        if g.num == s.frame && s.touched then { g with touched := g.touched + 1 } else g) }
      (Dev.closeFrame s.frame d).egressUpdate

/-! ### Sending -/

/-- IDLE, and TRAIN in its place while the link is not ALIGNED (Table 07-2). -/
def Block.idle : Block := ⟨true, [0x1E, 0, 0, 0, 0, 0, 0, 0]⟩
def Block.train : Block := ⟨true, [0x2D, 0, 0, 0, 0, 0, 0, 0]⟩

/-- An AM block (Table 07-2). -/
def Block.am (id status : Nat) : Block := ⟨true, [0xAA, id % 256, status % 256, 0x5C, 0xC5, 0x3A, 0xA3, 0x96]⟩

/-- A lane that carries none of the coded stream at a block, or the place of an AM column among a packet's (R155, R163). -/
def Block.none : Block := ⟨true, []⟩

/-- SOP bytes 1 to 7 (Table 07-7). -/
def Packet.sop (p : Packet) (park : Nat) : List Nat := [p.type, park % 8] ++ leBytes 2 p.seq ++ leBytes 3 p.payload.length

/-- EOP with its STATUS: 0 complete, 1 aborted (R160, R165, Table 07-7). -/
def Packet.eop (p : Packet) (park status : Nat) : Block :=
  let len := p.payload.length
  ⟨true, [0x87] ++ leBytes 4 (crc32c (p.sop park ++ p.payload)).toNat ++ [8 * ((len + 7) / 8) - len, status, 0]⟩

/-- The blocks of a packet (R164, Table 07-7): SOP, padded payload, EOP. -/
def Packet.blocks (p : Packet) (park : Nat) : List Block :=
  let len := p.payload.length
  let n := (len + 7) / 8
  let body := p.payload ++ List.replicate (8 * n - len) 0
  ⟨true, 0x78 :: p.sop park⟩ :: ((List.range n).map (fun i => ⟨false, (body.drop (8 * i)).take 8⟩) ++ [p.eop park 0])

/-- Columns a packet of `len` payload bytes occupies (R170). -/
def packetColumns (len : Nat) : Nat := ((len + 7) / 8 + 2 + 7) / 8

/-- Blocks in columns, lane 0 first, IDLE after the last (R164). -/
def columnsOf (bs : List Block) : List (List Block) :=
  (List.range ((bs.length + 7) / 8)).map (fun i =>
    let c := (bs.drop (8 * i)).take 8
    c ++ List.replicate (8 - c.length) Block.idle)

/-- A packet's columns from position p of the AM period on: an AM column and the IDLE column after it come between (R155, R164). -/
def weave : Nat → List (List Block) → List (List Block)
  | _, [] => []
  | p, c :: cs =>
    if p % 4096 == 0 then List.replicate 8 Block.none :: List.replicate 8 Block.idle :: c :: weave (p + 3) cs
    else if p % 4096 == 1 then List.replicate 8 Block.idle :: c :: weave (p + 2) cs
    else c :: weave (p + 1) cs

/-- AM columns and the IDLE columns after them among the first x columns of the grid (R155). -/
def amColumns (x : Nat) : Nat := 2 * (x / 4096) + min 2 (x % 4096)

/-- Columns that n columns of a packet take from position p on (R155). -/
def spanFrom (p n : Nat) : Nat :=
  if n = 0 then 0
  else
    let q := max 2 (p % 4096)
    (q - p % 4096) + n + 2 * ((q - 2 + (n - 1)) / 4094)

/-- The position in the AM period of the next column; 2 while no AM column has been sent. -/
def Dev.amPos (d : Dev) : Nat :=
  match d.prm.lastAm with
  | some a => ceilDiv ((d.now - a) * 10) blockTenths % 4096
  | Option.none => 2

/-- When n columns that start now have gone. -/
def Dev.columnsEnd (n : Nat) (d : Dev) : Nat := d.now + ceilDiv (n * blockTenths) 10

/-- n bits, least significant first, through the self-synchronous scrambler x^58 + x^39 + 1 in state s, its last 58 bits with the latest
as bit 0 (R153): the bits sent and the new state. -/
def scramble : Nat → Nat → Nat → Nat × Nat
  | 0, _, s => (0, s)
  | n + 1, v, s =>
    let b := (v + s / 2 ^ 38 + s / 2 ^ 57) % 2
    let r := scramble n (v / 2) ((2 * s + b) % 2 ^ 58)
    (b + 2 * r.1, r.2)

/-- The 66 bits of a block, the first as bit 0: header 01 of data, 10 of control, then the payload, scrambled but in an AM block (R153). -/
def Block.send (b : Block) (s : Nat) : Nat × Nat :=
  if b.bytes.isEmpty then (0, s)
  else
    let head := if b.ctrl then 1 else 2
    if b.ctrl && b.bytes.headD 0 == 0xAA then (head + 4 * ofLe b.bytes, s)
    else
      let r := scramble 64 (ofLe b.bytes) s
      (head + 4 * r.1, r.2)

/-- The words of one lane for its blocks in order, and its scrambler after them. -/
def sendLane (bs : List Block) (s : Nat) : List Nat × Nat :=
  bs.foldl (fun (x : List Nat × Nat) b => let r := b.send x.2; (x.1 ++ [r.1], r.2)) ([], s)

/-- Columns go onto the lanes. The scramblers go on from the columns before; where other columns have gone since, which no command
shows, or none before, their state is free (R153 gives no seed; log entry 79). -/
def Dev.putColumns (cs : List (List Block)) (d : Dev) : Dev :=
  let next := match d.prm.scramAt with
    | some a => decide ((d.now - a) * 10 < blockTenths)
    | Option.none => false
  let (s, d) := if next then (d.prm.scram, d)
    else let (x, d) := d.draw; ((List.range 8).map (fun n => x / 2 ^ (58 * n) % 2 ^ 58), d)
  let ls := (List.range 8).map (fun n => sendLane (cs.map (fun c => c.getD n Block.none)) (s.getD n 0))
  { d with prm := { d.prm with
      out := cs, line := ls.map (fun l => l.1), scram := ls.map (fun l => l.2), scramAt := some (d.columnsEnd cs.length) } }

/-- The packet in transmission is complete once its last column has gone (R164). -/
def Dev.sendSettle (d : Dev) : Dev :=
  match d.prm.inFlight with
  | some (_, e) =>
    if e ≤ d.now && d.prm.holdFrom.isNone then
      Dev.egressUpdate (Dev.bump { d with prm := { d.prm with inFlight := none } } 0x82 PRM_PKT_SENT)
    else d
  | none => d

/-- PACKET_SEND (R155, R164, R167): the oldest ready packet goes onto the lanes while the link is ALIGNED and not held; AM columns come
between its columns as they fall due. -/
def Dev.packetSend (d : Dev) : Dev :=
  match d.prm.queue with
  | [] => d
  | p :: rest =>
    if d.prm.aligned && d.prm.inFlight.isNone && d.prm.holdFrom.isNone then
      let e := d.columnsEnd (spanFrom d.amPos (packetColumns p.payload.length))
      let d := d.putColumns (weave d.amPos (columnsOf (p.blocks (d.fld 0x03 DTB_CTRL_PARK_INDEX))))
      { d with prm := { d.prm with queue := rest, inFlight := some (p, e) } }
    else d

/-- An accepted pulse of a marked source as a payload of type 0x05 (R448, Table 14-6). -/
def Marker.payload (m : Marker) : List Nat :=
  [0, 0xFF, 1, 0] ++ leBytes 4 m.slot ++ leBytes 8 m.time ++ leBytes 4 m.src

/-- Accept the pulses that waited behind a full marker queue, oldest first (R446, R448). -/
def Evm.acceptWaiting (e : Evm) : Evm :=
  match e.waiting with
  | [] => e
  | m :: ms => if e.markers.length < 16 then { e with markers := e.markers ++ [m], waiting := ms } else e

/-- MARKER_SEND (R448, R469): the oldest marker enters Promenade when there is egress space. -/
def Dev.markerSend (d : Dev) : Dev :=
  match d.evm.markers with
  | [] => d
  | m :: rest =>
    let (d', ok) := d.offerPayload 5 m.payload
    if ok then { d' with evm := Evm.acceptWaiting { d'.evm with markers := rest } } else d

/-! ### Alignment -/

/-- Receive record of a lane. -/
def Dev.lane (d : Dev) (n : Nat) : LaneRx := SMap.get {} d.prm.lanes n
def Dev.setLane (d : Dev) (n : Nat) (x : LaneRx) : Dev := { d with prm := { d.prm with lanes := SMap.put {} d.prm.lanes n x } }

/-- LOOPBACK as it acts: values 4 to 7 as 0 (R174). -/
def Dev.loopback (d : Dev) : Nat := let l := d.fld 0x82 PRM_LINK_CTRL_LOOPBACK; if 3 < l then 0 else l

/-- Every lane LN0 to LN7 has a status bit. -/
def Dev.allLanes (d : Dev) (f : Fld) : Bool := (List.range 8).all (fun n => d.on (lanePage n) f)

/-- PRM.LINK_STATUS.STATE (R174): LOOPBACK and IDLE or DEEP first, then how far all eight lanes have come. -/
def Dev.linkState (d : Dev) : Nat :=
  if d.loopback != 0 then 6
  else if d.on 0x82 PRM_LINK_CTRL_PSTATE then 7
  else if d.prm.aligned then 5
  else if d.prm.localAligned then 4
  else if d.allLanes PRM_LANE_STATUS_AM_LOCK then 3
  else if d.allLanes PRM_LANE_STATUS_BLOCK_LOCK then 2
  else if d.allLanes PRM_LANE_STATUS_CDR_LOCK then 1
  else 0

/-- Store the link state. -/
def Dev.linkUpdate (d : Dev) : Dev := d.setFld 0x82 PRM_LINK_STATUS_STATE d.linkState

/-- The packet in transmission ends at the next column, with an EOP that marks the abort (R160). -/
def Dev.abortPacket (d : Dev) : Dev :=
  match d.prm.inFlight with
  | some (p, _) => (d.putColumns (columnsOf [p.eop (d.fld 0x03 DTB_CTRL_PARK_INDEX) 1])).bump 0x82 PRM_ABORT_CNT
  | none => d

/-- Leaving ALIGNED (R158, R160, R166): the packet in transmission is aborted, buffered packets and staged taps are discarded
and counted, the taps with the numbers that they take; a slot some of whose records are among them is lost, XOFF is cleared. -/
def Dev.leaveAligned (d : Dev) : Dev :=
  if !d.prm.aligned then d.linkUpdate
  else
    let staged := total (d.slots.map (fun (s : SlotRec) => s.taps.length))
    let n := d.prm.queue.length + staged + d.prm.inFlight.isSome.toNat
    let d := d.abortPacket
    let d := { d with
      prm := { d.prm with aligned := false, queue := [], inFlight := none, holdFrom := none, warned := false,
                          held := 0, await := true }
      slots := d.slots.map (fun (s : SlotRec) => { s with lost := s.lost || !s.records.isEmpty, records := [], taps := [] }) }
    let d := d.setFld 0x82 PRM_SEQ_NEXT_SEQ (d.fld 0x82 PRM_SEQ_NEXT_SEQ + staged)
    let d := ((d.bumpBy 0x82 PRM_DISCARD_PKT n).bump 0x82 PRM_ALIGN_LOSS_CNT).setFld 0x82 PRM_LINK_STATUS_XOFF 0
    (d.egressUpdate.linkUpdate).raise 0x82 1

/-- The link's other conditions to carry packets: lanes ACTIVE, no loopback, no PRBS on LN0 to LN7 (R158). -/
def Dev.linkFree (d : Dev) : Bool :=
  d.loopback == 0 && !d.on 0x82 PRM_LINK_CTRL_PSTATE && !d.down 8
    && (List.range 8).all (fun n => !d.on (lanePage n) PRM_LANE_CTRL_PRBS)

/-- Half the time between two AM columns, in LSB (R155). -/
abbrev amHalf : Nat := 865075

/-- The times of the AMs of one column: the latest column of which every lane has its AM. -/
def Dev.amColumn (d : Dev) : List Nat :=
  let ts := (List.range 8).map (fun n => (d.lane n).amAt.getD 0)
  let late := ts.foldl max 0
  let new (t : Nat) : Bool := decide (late - t < amHalf)
  if ts.all new then ts
  else (List.range 8).map (fun n =>
    let t := (d.lane n).amAt.getD 0
    if new t then (d.lane n).amPrev.getD t else t)

/-- Lane skews in blocks after the earliest lane, from the AMs of one column (R156, R157). -/
def Dev.skews (d : Dev) : List Nat :=
  let ts := d.amColumn
  let first := ts.foldl min (ts.headD 0)
  ts.map (fun t => ((t - first) * 10 + blockTenths / 2) / blockTenths)

/-- LOCAL_ALIGNED holds now: AM lock on all lanes, each LANE_ID once, skew at most 63 blocks (R157). -/
def Dev.canLocalAlign (d : Dev) : Bool :=
  d.allLanes PRM_LANE_STATUS_AM_LOCK
    && (List.range 8).all (fun i => (List.range 8).any (fun n => (d.lane n).amId == i))
    && d.skews.all (fun k => k ≤ 63)

/-- Store the lane skews. -/
def Dev.storeSkews (d : Dev) : Dev :=
  let ks := d.skews
  let d := (List.range 8).foldl (fun d n => d.setFld (lanePage n) PRM_LANE_STATUS_SKEW (min 63 (ks.getD n 0))) d
  d.setFld 0x82 PRM_LINK_STATUS_SKEW_MAX (min 63 (ks.foldl max 0))

/-- What follows when a lane or the far end has changed (R157, R158): LOCAL_ALIGNED, ALIGNED. -/
def Dev.linkEvaluate (d : Dev) : Dev :=
  let la := d.canLocalAlign
  let d := { d with prm := { d.prm with localAligned := la } }
  if !la || !d.linkFree then d.leaveAligned
  else
    let d := d.storeSkews
    if d.prm.aligned then d.linkUpdate
    else if d.allLanes PRM_LANE_STATUS_FAR_ALIGNED then
      (Dev.linkUpdate { d with prm := { d.prm with aligned := true, await := true } }).raise 0x82 0
    else d.linkUpdate

/-- Clear the AM lock of a lane. -/
def Dev.dropAm (n : Nat) (d : Dev) : Dev :=
  (d.setFld (lanePage n) PRM_LANE_STATUS_AM_LOCK 0).setLane n { d.lane n with amAt := none, amPrev := none }

/-- Block lock of a lane is lost: AM lock with it, PRM_BLOCK_LOSS (Table 07-4, Table 07-9). -/
def Dev.dropBlock (n : Nat) (d : Dev) : Dev :=
  let had := d.on (lanePage n) PRM_LANE_STATUS_BLOCK_LOCK
  let d := Dev.dropAm n (d.setFld (lanePage n) PRM_LANE_STATUS_BLOCK_LOCK 0)
  let d := d.setLane n { d.lane n with invalid := [], validFrom := d.now }
  if had then d.raise (lanePage n) 2 else d

/-- The link follows a lane of LN0 to LN7; LN8 and LN9 act on their lane alone (R171). -/
def Dev.laneChanged (n : Nat) (d : Dev) : Dev := if n < 8 then d.linkEvaluate else d

/-- Power state of a lane: 0 ACTIVE, 1 IDLE, 2 or 3 DEEP. -/
def Dev.laneState (d : Dev) (n : Nat) : Nat := d.fld (lanePage n) PRM_LANE_CTRL_PSTATE

/-- The lane's receiver is on (Table 07-5) and its cluster powered. -/
def Dev.laneOn (d : Dev) (n : Nat) : Bool := !d.lanesGated && d.laneState n < 2 && d.on 0x01 PWR_STATUS_LANE_PLL_LOCKED

/-- The lane's transmitter sends (Table 07-5). -/
def Dev.laneSends (d : Dev) (n : Nat) : Bool := d.laneOn n && d.laneState n == 0

/-- Whether losses on the external receiver change the link: not in a near-end loopback (R162). -/
def Dev.nearEnd (d : Dev) : Bool := d.loopback == 1 || d.loopback == 2

/-- What reaches a lane's receiver at the balls is ignored in a near-end loopback (Table 07-6). -/
def Dev.deaf (d : Dev) (n : Nat) : Bool := n < 8 && d.nearEnd

/-- CDR_LOCK (R157). In a near-end loopback the signal at the balls does not count (R162). The search for block lock begins. -/
def Dev.cdrLock (n : Nat) (d : Dev) : Dev :=
  let p := lanePage n
  if d.laneOn n && (!d.on p PRM_LANE_STATUS_LOS || d.deaf n) then
    let d := if d.on p PRM_LANE_STATUS_CDR_LOCK then d else d.setLane n { d.lane n with validFrom := d.now }
    Dev.laneChanged n (d.setFld p PRM_LANE_STATUS_CDR_LOCK 1)
  else d

/-- Whether 64 sync headers in a row have been valid (R157). -/
def Dev.headersValid (d : Dev) (n : Nat) : Bool := 64 * blockTenths ≤ (d.now - (d.lane n).validFrom) * 10

/-- BLOCK_LOCK_ACQUIRE (R157, R171): 64 valid headers in a row give block lock; the parallel loopback needs no CDR. On LN8 and LN9 it is
the Clause 36 synchronisation. -/
def Dev.blockLock (n : Nat) (d : Dev) : Dev :=
  let p := lanePage n
  if d.on p PRM_LANE_STATUS_BLOCK_LOCK then d
  else if d.laneOn n && (d.on p PRM_LANE_STATUS_CDR_LOCK || (n < 8 && d.loopback == 2)) && (8 ≤ n || d.headersValid n) then
    let d := d.setLane n { d.lane n with invalid := [], bad := 0 }
    Dev.laneChanged n (d.setFld p PRM_LANE_STATUS_BLOCK_LOCK 1)
  else d

/-- A code-group or disparity error on LN8 or LN9 (R171): counted; the fourth without four good code groups in a row for each loses the
Clause 36 synchronisation (PRESUMED from IEEE 802.3 Clause 36, log entry 80). A code group lasts 640 LSB. -/
def Dev.codeGroupError (n : Nat) (d : Dev) : Dev :=
  let l := d.lane n
  let good := (d.now - l.badAt) / 640 - 1
  let bad := (l.bad - good / 4) + 1
  let d := (d.bump (lanePage n) PRM_HDR_ERR).setLane n { l with bad := bad, badAt := d.now }
  if 4 ≤ bad && d.on (lanePage n) PRM_LANE_STATUS_BLOCK_LOCK then d.dropBlock n else d

/-- INVALID_HEADER_RECEIVE (R157, R171): the search slips by one bit; with block lock the header is counted, and 32 of
them within 1,024 blocks lose block lock. -/
def Dev.invalidHeader (n : Nat) (d : Dev) : Dev :=
  let p := lanePage n
  if !d.laneOn n || !d.on p PRM_LANE_STATUS_CDR_LOCK || d.deaf n then d
  else if 8 ≤ n then d.codeGroupError n
  else if !d.on p PRM_LANE_STATUS_BLOCK_LOCK then
    d.setLane n { d.lane n with slip := ((d.lane n).slip + 1) % 66, validFrom := d.now }
  else
    let d := d.bump p PRM_HDR_ERR
    let inv := ((d.lane n).invalid.filter (fun a => (d.now - a) * 10 < 1024 * blockTenths)) ++ [d.now]
    let d := d.setLane n { d.lane n with invalid := inv }
    if 32 ≤ inv.length then Dev.laneChanged n (d.dropBlock n) else d

/-- UNKNOWN_CONTROL_BLOCK (R154), on a lane that carries blocks. -/
def Dev.unknownBlock (n : Nat) (d : Dev) : Dev :=
  if n < 8 && d.laneOn n && !d.deaf n && d.on (lanePage n) PRM_LANE_STATUS_BLOCK_LOCK then d.bump (lanePage n) PRM_HDR_ERR else d

/-- 4,096 columns in LSB (R155, R157). -/
abbrev amPeriod : Nat := 1730150

/-- Whether two AMs are one AM period apart, the sink's clock and its IDLE columns allowed for (R151, R155). -/
def onePeriod (a b : Nat) : Bool := amPeriod ≤ b - a + 1100 && b - a ≤ amPeriod + 1100

/-- An AM with LANE_ID `id` and RX_ALIGNED `far` reaches the receive PCS of lane n (R154, R157, R158). On a lane with AM lock one with
another LANE_ID shows in AM_LANE and FAR_ALIGNED (R174) and matches nothing. -/
def Dev.amHear (n id : Nat) (far : Bool) (d : Dev) : Dev :=
  let p := lanePage n
  if 8 ≤ n || !d.laneOn n || !d.on p PRM_LANE_STATUS_BLOCK_LOCK then d
  else
    let l := d.lane n
    let second := match l.amAt with | some a => onePeriod a d.now && l.amId == id % 256 | none => false
    let strange := d.on p PRM_LANE_STATUS_AM_LOCK && l.amId != id % 256
    let d := (d.setFld p PRM_LANE_STATUS_AM_LANE id).setFld p PRM_LANE_STATUS_FAR_ALIGNED far.toNat
    let zeroBefore := (List.range 8).any (fun m => match (d.lane m).farZeroAt with
      | some a => amHalf < d.now - a && d.now - a ≤ amPeriod + amHalf | none => false)
    let l := { l with farZeroAt := if far then l.farZeroAt else some d.now }
    let d := d.setLane n (if strange then l else { l with amAt := some d.now, amPrev := l.amAt, amId := id % 256 })
    let d := if second then d.setFld p PRM_LANE_STATUS_AM_LOCK 1 else d
    let d := if !far && zeroBefore then d.leaveAligned else d
    d.linkEvaluate

/-- AM_BLOCK_RECEIVE (R154, R157, R158): an AM with LANE_ID `id` and AM_STATUS `status` arrives at the balls of lane n. In a near-end
loopback it is ignored; in far-end loopback a lane with block lock retransmits it unchanged (R162). -/
def Dev.amReceive (n id status : Nat) (d : Dev) : Dev :=
  if d.deaf n then d
  else
    let d := if n < 8 && d.loopback == 3 && d.laneSends n && d.on (lanePage n) PRM_LANE_STATUS_BLOCK_LOCK then
        { d with prm := { d.prm with relayed := SMap.put Block.none d.prm.relayed n (Block.am id status) } }
      else d
    d.amHear n id (bitAt status 2)

/-- AM_LOCK_LOSS (R157): no matching AM at 4 consecutive AM positions. -/
def Dev.amLoss (n : Nat) (d : Dev) : Dev :=
  match (d.lane n).amAt with
  | some a =>
    if n < 8 && d.on (lanePage n) PRM_LANE_STATUS_AM_LOCK && 4 * amPeriod ≤ d.now - a + 4400 then
      Dev.laneChanged n (d.dropAm n)
    else d
  | none => d

/-- LOS_ASSERT (R159, Table 07-4). -/
def Dev.losAssert (n : Nat) (d : Dev) : Dev :=
  let p := lanePage n
  if d.lanesGated || 2 ≤ d.laneState n || d.on p PRM_LANE_STATUS_LOS then d
  else
    let d := ((d.setFld p PRM_LANE_STATUS_LOS 1).bump p PRM_LOS_CNT).raise p 0
    if n < 8 && d.nearEnd then d
    else Dev.laneChanged n (Dev.dropBlock n (d.setFld p PRM_LANE_STATUS_CDR_LOCK 0))

/-- LOS_CLEAR (R159). -/
def Dev.losClear (n : Nat) (d : Dev) : Dev := d.setFld (lanePage n) PRM_LANE_STATUS_LOS 0

/-- LOSS_OF_LOCK (R159, Table 07-4): block and AM lock are cleared, the CDR re-acquires. -/
def Dev.lossOfLock (n : Nat) (d : Dev) : Dev :=
  let p := lanePage n
  if d.lanesGated || 2 ≤ d.laneState n then d
  else
    let d := (d.bump p PRM_LOL_CNT).raise p 1
    if n < 8 && d.nearEnd then d
    else Dev.laneChanged n (Dev.dropBlock n (d.setFld p PRM_LANE_STATUS_CDR_LOCK 0))

/-- The columns of the packet in transmission that are still to go (R155, R169). -/
def Dev.columnsLeft (d : Dev) : Nat :=
  match d.prm.inFlight with
  | some (_, e) =>
    let n := ceilDiv ((e - d.now) * 10) blockTenths
    n - (amColumns (d.amPos + n) - amColumns d.amPos)
  | none => 0

/-- XOFF_RECEIVE (R169): transmission is held; the packet in transmission keeps what is left of it. The limit of the hold is XOFF_WARN
as it begins (R172). -/
def Dev.xoff (d : Dev) : Dev :=
  if d.prm.aligned && d.prm.holdFrom.isNone then
    let d : Dev := { d with prm := { d.prm with
      holdFrom := some d.now, warned := false, held := d.columnsLeft, holdLimit := d.fld 0x82 PRM_LINK_CFG_XOFF_WARN } }
    (d.setFld 0x82 PRM_LINK_STATUS_XOFF 1).bump 0x82 PRM_XOFF_CNT
  else d

/-- XON_RECEIVE (R169); an XOFF of the same column on another lane holds. -/
def Dev.xon (xoffToo : Bool) (d : Dev) : Dev :=
  if xoffToo then d
  else if d.prm.holdFrom.isSome then
    let e := d.columnsEnd (spanFrom d.amPos d.prm.held)
    let d := match d.prm.inFlight with
      | some (p, _) =>
        let cs := columnsOf (p.blocks (d.fld 0x03 DTB_CTRL_PARK_INDEX))
        let d := d.putColumns (weave d.amPos (cs.drop (cs.length - d.prm.held)))
        { d with prm := { d.prm with inFlight := some (p, e) } }
      | none => d
    Dev.setFld { d with prm := { d.prm with holdFrom := none, held := 0 } } 0x82 PRM_LINK_STATUS_XOFF 0
  else d

/-- XOFF_LONG (R169): a hold longer than its limit. -/
def Dev.xoffLong (d : Dev) : Dev :=
  let w := d.prm.holdLimit
  match d.prm.holdFrom with
  | some a =>
    if w != 0 && a + Config.us w < d.now && !d.prm.warned then
      Dev.raise 0x82 3 { d with prm := { d.prm with warned := true } }
    else d
  | none => d

/-- An AM column may go: every 4,096th column is one, counted from the first after the transmitters start (R155). -/
def Dev.amDue (d : Dev) : Bool :=
  match d.prm.lastAm with
  | some a => let n := ((d.now - a) * 10 + blockTenths / 2) / blockTenths; n % 4096 == 0 && 0 < n
  | none => true

/-- The AM block of lane n: LANE_ID n and the receiver's AM_STATUS; none on a lane whose stream PRBS replaces (R154, R163). -/
def Dev.amBlock (d : Dev) (n : Nat) : Block :=
  if bitAt (d.fld (lanePage n) PRM_LANE_CTRL_PRBS) 0 then Block.none
  else Block.am n (d.fld (lanePage n) PRM_LANE_STATUS_BLOCK_LOCK
    + 2 * d.fld (lanePage n) PRM_LANE_STATUS_AM_LOCK + 4 * d.prm.localAligned.toNat)

/-- AM_COLUMN_SEND (R154, R155): the AM column and the all-IDLE column after it, a packet in transmission giving way to them. In far-end
loopback the lanes carry the sink's blocks instead; in a near-end one each lane hears its own AM (R162). -/
def Dev.amSend (d : Dev) : Dev :=
  if d.lanesGated || !d.on 0x01 PWR_STATUS_LANE_PLL_LOCKED || d.on 0x82 PRM_LINK_CTRL_PSTATE || d.loopback == 3 || !d.amDue then d
  else
    let col := (List.range 8).map d.amBlock
    let far := d.prm.localAligned
    let d := { d with prm := { d.prm with amSent := d.prm.amSent + 1, amOut := col, lastAm := some d.now } }
    let d := if d.prm.inFlight.isSome && d.prm.holdFrom.isNone then d else d.putColumns [col, List.replicate 8 Block.idle]
    if d.nearEnd then
      (List.range 8).foldl (fun (d : Dev) n => if (col.getD n Block.none).bytes.isEmpty then d else d.amHear n n far) d
    else d

/-- The time of 32 bits on a lane: 12.5 Gb/s on LN0 to LN7, 1.25 Gb/s on LN8 and LN9 (R150). -/
def bits32 (n : Nat) : Nat := if n < 8 then 205 else 2048

/-- PRBS_BIT_ERROR (R163): a synchronised checker counts one bit in error; before 32 bits without an error it starts them anew. -/
def Dev.prbsError (n : Nat) (d : Dev) : Dev :=
  if d.laneOn n && bitAt (d.fld (lanePage n) PRM_LANE_CTRL_PRBS) 1 then
    if (d.lane n).prbsFrom + bits32 n ≤ d.now then d.bumpFirst (lanePage n) PRM_PRBS_ERR 3
    else d.setLane n { d.lane n with prbsFrom := d.now }
  else d

/-- SGMII_CONTROL_WORD (R171): the PHY's word, which only a synchronised lane receives, is acknowledged; FAR_ALIGNED shows a link up at
1000 Mb/s, full duplex. -/
def Dev.sgmiiWord (n : Nat) (up gig full : Bool) (d : Dev) : Dev :=
  if d.variant == .is && 8 ≤ n && n < 10 && d.laneOn n && d.on (lanePage n) PRM_LANE_STATUS_BLOCK_LOCK then
    Dev.setFld { d with prm := { d.prm with sgmiiAck := SMap.put false d.prm.sgmiiAck n true } }
      (lanePage n) PRM_LANE_STATUS_FAR_ALIGNED (up && gig && full).toNat
  else d

/-! ### Register writes (R161 to R163, R172) -/

/-- A lane enters DEEP: its receiver loses every lock. -/
def Dev.laneDeep (n : Nat) (d : Dev) : Dev :=
  Dev.dropBlock n ((d.setFld (lanePage n) PRM_LANE_STATUS_CDR_LOCK 0).setFld (lanePage n) PRM_LANE_STATUS_FAR_ALIGNED 0)

/-- The lane PLL is off while every lane is in DEEP (Table 07-5). -/
def Dev.lanePllFollow (d : Dev) : Dev :=
  if (List.range 10).all (fun n => 2 ≤ d.laneState n) then d.setFld 0x01 PWR_STATUS_LANE_PLL_LOCKED 0 else d

/-- A write of PRM.LINK_CTRL (R161, R162, R172): the columns count anew once transmitters that stop start again. -/
def Dev.linkCtrlWritten (d : Dev) : Dev :=
  let ps := d.fld 0x82 PRM_LINK_CTRL_PSTATE
  let d := (List.range 8).foldl (fun d n =>
    let d := d.setFld (lanePage n) PRM_LANE_CTRL_PSTATE ps
    if 2 ≤ ps then d.laneDeep n else d) d
  let d := if ps != 0 then { d with prm := { d.prm with lastAm := none, scramAt := none } } else d
  d.lanePllFollow.linkEvaluate

/-- A write of a PRM.LANE_CTRL, `old` before it. -/
def Dev.laneCtrlWritten (n : Nat) (old : Word) (d : Dev) : Dev :=
  let p := lanePage n
  let d := if n < 8 || d.variant != .is then d.setFld p PRM_LANE_CTRL_PSTATE (bitsOf old 1 0) else d
  let d := if bitsOf old 7 6 != d.fld p PRM_LANE_CTRL_PRBS then d.setLane n { d.lane n with prbsFrom := d.now } else d
  let d := if 8 ≤ n && 2 ≤ d.laneState n then d.laneDeep n else d
  let d := if bitAt old.toNat 5 != d.on p PRM_LANE_CTRL_RX_INV then d.dropBlock n else d
  d.lanePllFollow.laneChanged n

end Sys2Proof.Machine
end

