-- ==== Sys2Proof/Machine/Operands.lean ====
section
/-! DEFINITION. Every operand form of a Pergola instruction: fields, registers, accumulators, memory fields (Point-processing
cores, R299 to R302, R307). -/
namespace Sys2Proof.Machine

def Dev.getCore (d : Dev) (k : Nat) : Core := SMap.get {} d.cores k
def Dev.setCore (d : Dev) (k : Nat) (x : Core) : Dev := { d with cores := SMap.put {} d.cores k x }

/-- Page of core k (R297). -/
def pglPage (k : Nat) : Nat := 0x58 + k

/-- First page of the terrace of core k (R297). -/
def pglTerrace (k : Nat) : Nat := 0x58 + 8 * (k / 8)

/-- A core of the safety pair (R298). -/
def Dev.safetyCore (d : Dev) (k : Nat) : Bool := d.variant == .is && (k == 30 || k == 31)

/-- The fields of an instruction (Table 14-2). -/
structure PglFields where
  op : Nat
  d : Nat
  s : Nat
  t : Nat
  m1 : Nat
  m2 : Nat
deriving DecidableEq, Repr

/-- The fields of an instruction word. -/
def pglFields (w : BitVec 48) : PglFields :=
  let n := w.toNat
  ⟨n / 2 ^ 42 % 64, n / 2 ^ 36 % 64, n / 2 ^ 30 % 64, n / 2 ^ 24 % 64, n / 2 ^ 12 % 4096, n % 4096⟩

/-- IMM[23:0]. -/
def PglFields.imm (f : PglFields) : Nat := f.m1 * 4096 + f.m2

/-- The word of an instruction. -/
def PglFields.word (f : PglFields) : BitVec 48 :=
  BitVec.ofNat 48 (f.op * 2 ^ 42 + f.d * 2 ^ 36 + f.s * 2 ^ 30 + f.t * 2 ^ 24 + f.m1 * 2 ^ 12 + f.m2)

/-- The iteration phase (R300). -/
def Dev.iph (d : Dev) (k : Nat) : Nat := d.fld (pglPage k) PGL_STATUS_IPH

/-- Physical register of the rotating name of code 4k + a under phase `iph` (R300). -/
def rotPhys (iph code : Nat) : Nat := 4 * (code / 4) + (iph + 4 - code % 4) % 4

/-- The physical register that a D code of a register names: rotating, static, or none (R307). -/
def physOf (iph code : Nat) : Nat := if code < 32 then rotPhys iph code else code

/-- Read a 24-bit operand (R307): rotating, static, ZERO; none for a code that names no 24-bit register. -/
def Core.readReg (x : Core) (iph code : Nat) : Option W24 :=
  if code < 32 then some (SMap.get 0 x.v (rotPhys iph code))
  else if code < 48 then some (SMap.get 0 x.k (code - 32))
  else if code == 50 then some 0
  else none

/-- Write a physical 24-bit register; ZERO discards it (R307). -/
def Core.writePhys (x : Core) (phys : Nat) (w : W24) : Core :=
  if phys < 32 then { x with v := SMap.put 0 x.v phys w }
  else if phys < 48 then { x with k := SMap.put 0 x.k (phys - 32) w }
  else x

/-- Whether a code can be the destination of a 24-bit result. -/
def isDest (code : Nat) : Bool := code < 48 || code == 50

/-- Whether a code names an accumulator. -/
def isAcc (code : Nat) : Bool := code == 48 || code == 49

/-- Read an accumulator. -/
def Core.readAcc (x : Core) (code : Nat) : W56 := if code == 48 then x.a0 else x.a1

/-- Write an accumulator. -/
def Core.writeAcc (x : Core) (code : Nat) (a : W56) : Core := if code == 48 then { x with a0 := a } else { x with a1 := a }

/-- A memory field M (R307): enabled, pointer, mode, signed offset. -/
def memEn (m : Nat) : Bool := bitAt m 11
def memPtr (m : Nat) : Nat := m / 256 % 8
def memMode (m : Nat) : Nat := m / 64 % 4
def memOfs (m : Nat) : Int := signed 6 (m % 64)

/-- The address of a memory field: bits 15 to 0 of the sum (R307). -/
def Core.memAddr (x : Core) (m : Nat) : Nat :=
  let p : Int := (SMap.get 0 x.k (memPtr m)).toNat
  ((if memMode m == 2 then p + memOfs m else p) % 65536).toNat

/-- The post-increment of a memory field (R307). -/
def Core.memPost (x : Core) (m : Nat) : Core :=
  if memMode m == 1 then
    { x with k := SMap.put 0 x.k (memPtr m) (SMap.get 0 x.k (memPtr m) + BitVec.ofInt 24 (memOfs m)) }
  else x

/-- Words of a core's data memory (R301). -/
abbrev pglDataWords : Nat := 49152

/-- Trap causes (Table 14-7). -/
abbrev trapIllegal : Nat := 1
abbrev trapMode : Nat := 2
abbrev trapMemRange : Nat := 3
abbrev trapCodeRange : Nat := 4
abbrev trapOutFull : Nat := 5
abbrev trapNest : Nat := 6
abbrev trapDetached : Nat := 7
abbrev trapEcc : Nat := 8

/-- Check of an enabled memory field: the trap it causes, if any (R307). -/
def Core.memTrap (x : Core) (m : Nat) : Option Nat :=
  if memMode m == 3 then some trapIllegal
  else if pglDataWords ≤ x.memAddr m then some trapMemRange
  else none

/-- The same of a field that reads: a double-bit error of the word traps too (R301). -/
def Core.readTrap (x : Core) (m : Nat) : Option Nat :=
  match x.memTrap m with
  | some c => some c
  | none => if 2 ≤ SMap.get 0 x.ecc (x.memAddr m) then some trapEcc else none

/-- Reads of memory fields whose single-bit error is corrected (R301). -/
def Core.corrected (x : Core) (ms : List Nat) : Nat :=
  (ms.filter (fun m => memEn m && SMap.get 0 x.ecc (x.memAddr m) == 1)).length

/-- A data word is stored, free of errors (R301). -/
def Core.putWord (x : Core) (w : Nat) (v : W24) : Core := { x with data := SMap.put 0 x.data w v, ecc := SMap.put 0 x.ecc w 0 }

/-- What an operand read gives: a value, or a trap. -/
inductive Opnd where
  | val (w : W24)
  | trap (cause : Nat)
deriving DecidableEq, Repr

/-- A source operand: the load of its memory field where that is enabled, else the register of its code (R307). -/
def Core.source (x : Core) (iph code m : Nat) : Opnd :=
  if memEn m then
    match x.readTrap m with
    | some c => .trap c
    | none => .val (SMap.get 0 x.data (x.memAddr m))
  else match x.readReg iph code with
    | some w => .val w
    | none => .trap trapIllegal

/-- Apply the post-increments of the memory fields an instruction uses (R307). -/
def Core.posts (x : Core) (ms : List Nat) : Core := ms.foldl (fun x m => if memEn m then x.memPost m else x) x

/-- Accesses to data memory that the used memory fields make (R301). -/
def accesses (ms : List Nat) : Nat := (ms.filter memEn).length

end Sys2Proof.Machine
end

