-- ==== Sys2Proof/Machine/Flags.lean ====
section
/-! DEFINITION. Every flag computation and the arithmetic of Pergola (Point-processing cores, R303 to R307). -/
namespace Sys2Proof.Machine

/-- Z and N follow a result (R303). -/
def Core.setZN (x : Core) (r : W24) : Core := { x with z := r == 0, n := r.msb }

/-- Z, N and C of a result and a carry or borrow (R303). -/
def Core.setZNC (x : Core) (r : W24) (c : Bool) : Core := { x with z := r == 0, n := r.msb, c := c }

/-- The carry out of an addition. -/
def carryOut (a b : W24) : Bool := 2 ^ 24 ≤ a.toNat + b.toNat

/-- The borrow of a subtraction. -/
def borrowOut (a b : W24) : Bool := a.toNat < b.toNat

/-- SHL (R303): the count is bits 4 to 0; 24 or more gives 0. -/
def pglShl (a b : W24) : W24 := a <<< (b.toNat % 32)

/-- SHR (R303): arithmetic; 24 or more gives the sign fill. -/
def pglShr (a b : W24) : W24 := a.sshiftRight (b.toNat % 32)

/-- ABS (R303): 0x80_0000 gives 0x7F_FFFF. -/
def pglAbs (a : W24) : W24 := if a == 0x800000 then 0x7FFFFF else if a.msb then -a else a

/-- MAX and MIN, signed. -/
def pglMax (a b : W24) : W24 := if a.toInt < b.toInt then b else a
def pglMin (a b : W24) : W24 := if b.toInt < a.toInt then b else a

/-- An exact sum as an accumulator takes it, and whether it lies outside the 56 bits (R304). -/
def accOf (i : Int) : W56 × Bool := (BitVec.ofInt 56 i, i < -(2 ^ 55) || 2 ^ 55 - 1 < i)

/-- The shift of LDA and STA: bits 5 to 0, limited to 32 (R305). -/
def shOf (t : W24) : Nat := min 32 (t.toNat % 64)

/-- STA's value (R305): the shifted accumulator, saturated under SATST, else its low 24 bits. -/
def staValue (a : W56) (sh : Nat) (sat : Bool) : W24 :=
  let i := a.toInt / 2 ^ sh
  if sat && 2 ^ 23 - 1 < i then 0x7FFFFF
  else if sat && i < -(2 ^ 23) then 0x800000
  else BitVec.ofInt 24 i

/-- One step of restoring division (R306). -/
def dstep (a : W56) (s : W24) : W56 :=
  let b := (2 * a.toNat) % 2 ^ 56
  let hi := b / 2 ^ 24
  if s.toNat ≤ hi then BitVec.ofNat 56 (b - s.toNat * 2 ^ 24 + 1) else BitVec.ofNat 56 b

/-- Whether a branch condition holds, none for a COND that is undefined (R307). -/
def Core.cond (x : Core) (ovf0 ovf1 zstale : Bool) (c : Nat) : Option Bool :=
  if c == 0 then some true
  else if c == 1 then some x.z
  else if c == 2 then some !x.z
  else if c == 3 then some x.n
  else if c == 4 then some !x.n
  else if c == 5 then some x.c
  else if c == 6 then some !x.c
  else if c == 7 then some (!x.z && !x.n)
  else if c == 8 then some !(!x.z && !x.n)
  else if c == 9 then some ovf0
  else if c == 10 then some ovf1
  else if c == 11 then some zstale
  else if c == 12 then some x.queue.isEmpty
  else none

end Sys2Proof.Machine
end

