-- ==== Sys2Proof/Machine/Sar.lean ====
section
/-! DEFINITION. The privileged SAR channels: requests, their arbitration and outcomes (Auxiliary analogue front end,
R255, R256, Table 11-3), and the loop samples that wait for their results. -/
namespace Sys2Proof.Machine

def Dev.getSar (d : Dev) (n : Nat) : SarCh := SMap.get {} d.pmp.sar n
def Dev.setSar (d : Dev) (n : Nat) (x : SarCh) : Dev := { d with pmp := { d.pmp with sar := SMap.put {} d.pmp.sar n x } }
def Dev.getLoop (d : Dev) (l : Nat) : Loop := SMap.get {} d.loops l
def Dev.setLoop (d : Dev) (l : Nat) (x : Loop) : Dev := { d with loops := SMap.put {} d.loops l x }

/-- Requesters of a conversion. -/
abbrev whoGatehouse : Nat := 0
abbrev whoRoutine : Nat := 99
def whoFeedback (l : Nat) : Nat := 1 + 2 * l
def whoAngle (l : Nat) : Nat := 2 + 2 * l

/-- The sample still waits for its feedback, or for its angle. -/
def LoopSample.awaits (ang : Bool) (s : LoopSample) : Bool := if ang then s.ang == some Meas.pending else s.fb == Meas.pending

/-- Sample number `tag` takes the value if it still waits for it: a result of a sample that has become missing is not used (R226). -/
def LoopSample.fill (ang : Bool) (tag : Nat) (m : Meas) (s : LoopSample) : LoopSample :=
  if s.idx != tag || !s.awaits ang then s else if ang then { s with ang := some m } else { s with fb := m }

/-- A miss is counted, with FTN_MISS at the first since the counter was read (R226). -/
def Dev.countMiss (l : Nat) (d : Dev) : Dev := Dev.bumpFirst (0x86 + l) FTN_MISS_CNT 7 d

/-- A value reaches the loop sample that requested it, or is known to be missing (R226, Table 11-3). A missing feedback is counted at
once. -/
def Dev.measArrive (l : Nat) (ang : Bool) (tag : Nat) (m : Meas) (d : Dev) : Dev :=
  let x := d.getLoop l
  let hit := x.samples.any (fun s => s.idx == tag && s.awaits ang)
  let d := d.setLoop l { x with samples := x.samples.map (LoopSample.fill ang tag m) }
  if hit && m == Meas.missing && !ang then d.countMiss l else d

/-- BUSY of a converter: 0 and 1 the modulators, 2 to 5 the SAR channels (R263). -/
def Dev.setBusy (k : Nat) (b : Bool) (d : Dev) : Dev := d.setFld 0x8E ⟨PMP_STATUS, k, k⟩ b.toNat

/-- Conversion time in LSB (R255). -/
def SarJob.time (j : SarJob) : Nat := Config.ns (200 * (j.navg + 1))

/-- A conversion starts with the settings of the moment (R255, R261). -/
def Dev.sarBegin (n who tag input : Nat) (d : Dev) : Dev :=
  let j : SarJob := ⟨who, tag, input, d.now, 2 ^ (d.fld 0x90 (PMP_SAR_CFG_AVG.plus (4 * n)) + 1),
    min 8 (d.fld 0x90 (PMP_SAR_CFG_SHIFT.plus (4 * n))), d.reg 0x90 (PMP_SAR_CFG + 4 * n)⟩
  (d.setSar n { d.getSar n with job := some j }).setBusy (2 + n) true

/-- An urgent request is dropped: counted, and its requester told at once (Table 11-3). Answers whether it was
Gatehouse's. -/
def Dev.urgentDrop (who tag : Nat) (d : Dev) : Dev × Bool :=
  let d := Dev.bumpFirst 0x8E PMP_URGENT_DROP 3 d
  if who == whoGatehouse then (d, true)
  else if who % 2 == 1 then (d.measArrive ((who - 1) / 2) false tag .missing, false)
  else (d.measArrive ((who - 2) / 2) true tag .missing, false)

/-- An urgent request (R256, Table 11-3): converted at once on an idle channel; over a conversion that began in this very
step by rank, a routine then waiting and a lesser urgent request dropped; else dropped. Answers whether Gatehouse lost one. -/
def Dev.urgent (n who tag input : Nat) (d : Dev) : Dev × Bool :=
  match (d.getSar n).job with
  | none => (d.sarBegin n who tag input, false)
  | some j =>
    if j.start == d.now && who < j.who then
      let d := d.sarBegin n who tag input
      if j.who == whoRoutine then (d.setSar n { d.getSar n with waiting := true }, false) else d.urgentDrop j.who j.tag
    else d.urgentDrop who tag

/-- The routine conversion of a channel starts, if it is still wanted (R256, R261). -/
def Dev.routineStart (n : Nat) (d : Dev) : Dev :=
  let inp := d.fld 0x90 (PMP_SAR_ROUTINE_IN.plus (4 * n))
  let d := d.setSar n { d.getSar n with waiting := false }
  if d.on 0x8E PMP_CTRL_EN && inp < 28 then d.sarBegin n whoRoutine 0 inp else d

/-- SAR_ROUTINE_DUE (R256): at a whole multiple of PERIOD µs the routine starts, waits, or merges with the one that waits. -/
def Dev.routineDue (n : Nat) (d : Dev) : Dev :=
  let per := d.fld 0x90 (PMP_SAR_ROUTINE_PERIOD.plus (4 * n))
  if !d.on 0x8E PMP_CTRL_EN || per = 0 || 28 ≤ d.fld 0x90 (PMP_SAR_ROUTINE_IN.plus (4 * n))
      || d.edgeTime % Config.us per != 0 then d
  else match (d.getSar n).job with
    | some _ => d.setSar n { d.getSar n with waiting := true }
    | none => d.routineStart n

end Sys2Proof.Machine
end

