-- ==== Sys2Proof/Machine/Thermal.lean ====
section
/-! DEFINITION. The thermal manager's readings, levels and device-level states (Thermal management, R394 to R402). -/
namespace Sys2Proof.Machine

/-- Age in LSB of a sensor's reading, none before its first conversion. -/
def Dev.tsAge (d : Dev) (s : Nat) : Option Nat :=
  match SMap.get 0 d.thmAt s with
  | 0 => none
  | a + 1 => some (d.now - a)

/-- A TS input is enabled; the on-die sensors always are (R394). -/
def Dev.tsEnabled (d : Dev) (s : Nat) : Bool := 8 ≤ s || d.on 0x06 (THM_TS_CFG_EN.plus (4 * s))

/-- What a consumer sees of a sensor (R395): its reading in 0.1 °C, none when it is disabled, open, shorted or older
than 20 ms. -/
def Dev.tsReading (d : Dev) (s : Nat) : Option Int :=
  match d.tsAge s with
  | none => none
  | some a =>
    if d.tsEnabled s && !d.on 0x06 (THM_READ_FAULT.plus (4 * s)) && d.on 0x06 (THM_READ_VALID.plus (4 * s))
        && a ≤ Config.ms 20
    then some (signed 16 (d.fld 0x06 (THM_READ_T.plus (4 * s)))) else none

/-- THM.READ_s as it reads: the age in ms, saturating (R411). -/
def Dev.tsRegister (d : Dev) (s : Nat) : Word :=
  match d.tsAge s with
  | none => d.reg 0x06 (THM_READ + 4 * s)
  | some a => setBits (d.reg 0x06 (THM_READ + 4 * s)) 23 16 (min 255 (a / Config.ms 1))

/-- Offset of THM.LIM_B_s. -/
def limB (s : Nat) : Nat := THM_LIM_B + 8 * s

/-- Threshold k of sensor s (R397, R411): on-die shut-down thresholds above 130.0 °C act as 130.0 °C. -/
def Dev.tsThreshold (d : Dev) (s k : Nat) : Int :=
  if k == 1 then signed 16 (d.fld 0x06 ⟨THM_LIM_A + 8 * s, 15, 0⟩)
  else if k == 2 then signed 16 (d.fld 0x06 ⟨THM_LIM_A + 8 * s, 31, 16⟩)
  else
    let x := signed 16 (d.fld 0x06 ⟨limB s, 15, 0⟩)
    if 8 ≤ s && 1300 < x then 1300 else x

/-- The level of sensor s. -/
def tsLevelFld (s : Nat) : Fld := ⟨THM_LEVEL, 2 * s + 1, 2 * s⟩

/-- The level after a valid reading (R397): it rises to the highest threshold reached, falls only below
threshold less hysteresis. -/
def Dev.nextLevel (d : Dev) (s : Nat) (t : Int) : Nat :=
  let hyst : Int := d.fld 0x06 ⟨limB s, 31, 16⟩
  let cur := d.fld 0x06 (tsLevelFld s)
  let rise := if d.tsThreshold s 3 ≤ t then 3 else if d.tsThreshold s 2 ≤ t then 2
    else if d.tsThreshold s 1 ≤ t then 1 else 0
  let keep (k : Nat) : Bool := k ≤ cur && d.tsThreshold s k - hyst ≤ t
  let hold := if keep 3 then 3 else if keep 2 then 2 else if keep 1 then 1 else 0
  max rise hold

/-- Whether an action of sensor s is enabled: 24 warning, 25 throttle, 26 shut-down (R399). -/
def Dev.tsAction (d : Dev) (s b : Nat) : Bool := 8 ≤ s || d.bit 0x06 (THM_TS_CFG + 4 * s) b

/-- Some sensor with the action is at level k or above (R399). -/
def Dev.tsState (d : Dev) (b k : Nat) : Bool :=
  (List.range 14).any (fun s => d.tsAction s b && k ≤ d.fld 0x06 (tsLevelFld s))

/-- The OTP programming window (R402). -/
def Dev.otpWindow (d : Dev) : Bool :=
  (List.range 6).all (fun i => match d.tsReading (8 + i) with | some t => 0 ≤ t && t ≤ 850 | none => false)

/-- The next n binary digits of log2 x behind `acc`, with x in [1, 2) and scaled by 2^96: each squaring doubles the logarithm. -/
def log2Digits : Nat → Nat → Nat → Nat
  | 0, _, acc => acc
  | n + 1, x, acc =>
    let y := x * x / 2 ^ 96
    if 2 ^ 97 ≤ y then log2Digits n (y / 2) (2 * acc + 1) else log2Digits n y (2 * acc)

/-- log2 z scaled by 2^64, for z > 0. -/
def log2Fix (z : Nat) : Nat := 2 ^ 64 * Nat.log2 z + log2Digits 64 (z * 2 ^ 96 / 2 ^ Nat.log2 z) 0

/-- ln (z / r) scaled by 2^64 (0xB17217F7D1CF79AB is ln 2 so scaled). -/
def lnRatio (z r : Nat) : Int := ((log2Fix z : Int) - log2Fix r) * 0xB17217F7D1CF79AB / 2 ^ 64

/-- A thermistor's temperature in 0.1 °C, rounded down, and whether it is exact (R396): T = 1 / (1 / 298.15 K + ln (z / r) / b) less
273.15 K, for resistances z and r in one unit; none where r, b or the denominator is not positive, for which the rule states no
temperature. -/
def thermistorTemp (z r b : Nat) : Option (Int × Bool) :=
  if r == 0 || b == 0 then none
  else
    let den : Int := 100 * b * 2 ^ 64 + 29815 * lnRatio z r
    if den ≤ 0 then none
    else
      let num : Int := 100 * 29815 * b * 2 ^ 64 - 27315 * den
      some (num / (10 * den), num % (10 * den) == 0)

/-- The reading of a thermistor of z mΩ at input s (R396): truncated, for which a value below 0 leaves two choices; free where the
rule states none or it leaves the field (log entry 71). -/
def Dev.thermistor (s z : Nat) (d : Dev) : Int × Dev :=
  let (f, e) := d.draw
  match thermistorTemp z (10000 * d.fld 0x06 (THM_NTC_RES25.plus (4 * s))) (d.fld 0x06 (THM_NTC_BETA.plus (4 * s))) with
  | none => (signed 16 f, e)
  | some (q, exact) =>
    if 32767 < q then (signed 16 f, e)
    else if exact || 0 ≤ q then (q, d)
    else (q + (f % 2 : Nat), e)

/-- What a measurement of sensor s says (R396): none where it is of another kind than the sensor's; no reading where the sensor is
open or shorted. A diode is open above 1.2 V and shorted below 0.15 V, a thermistor open above 5 MΩ and shorted below 20 Ω. -/
def Dev.tsMeasured (s : Nat) (x : Measured) (d : Dev) : Option (Option Int × Dev) :=
  let type := d.fld 0x06 (THM_TS_CFG_TYPE.plus (4 * s))
  match x with
  | .die r => if 8 ≤ s then some (r, d) else none
  | .diode uv r =>
    if 8 ≤ s || type != 0 then none
    else some (if uv < 150000 || 1200000 < uv then none else some r, d)
  | .thermistor z =>
    if 8 ≤ s || type != 1 then none
    else if z < 20000 || 5000000000 < z then some (none, d)
    else let (r, d) := d.thermistor s z; some (some r, d)

/-- THERMAL_CONVERSION_DONE, the sensor's own part (R395 to R398): reading, fault, level. A disabled TS input shows as
faulted. `r` is the temperature in 0.1 °C, none for a sensor found open or shorted. A bit of THM.FAULT that rises raises THM_SENSOR_FAULT. -/
def Dev.tsConvert (s : Nat) (r : Option Int) (d : Dev) : Dev :=
  let was := (List.range 8).any (fun n => !d.tsEnabled n && !d.bit 0x06 THM_FAULT n) || (r.isNone && !d.bit 0x06 THM_FAULT s)
  let d := { d with thmAt := SMap.put 0 d.thmAt s (d.now + 1) }
  let d := (List.range 8).foldl (fun d n =>
    if d.tsEnabled n then d else (d.setBit 0x06 THM_FAULT n).setFld 0x06 (THM_READ_FAULT.plus (4 * n)) 1) d
  let d := if was then d.raise 0x06 3 else d
  match r with
  | none =>
    let d := ((d.setBit 0x06 THM_FAULT s).setFld 0x06 (THM_READ_FAULT.plus (4 * s)) 1).setFld
      0x06 (THM_READ_VALID.plus (4 * s)) 0
    d.setFld 0x06 (tsLevelFld s) 3
  | some t =>
    let d := (d.clrBit 0x06 THM_FAULT s).setFld 0x06 (THM_READ_FAULT.plus (4 * s)) 0
    let d := (d.setFld 0x06 (THM_READ_VALID.plus (4 * s)) 1).setFld 0x06 (THM_READ_T.plus (4 * s)) (toBits 16 t)
    d.setFld 0x06 (tsLevelFld s) (d.nextLevel s t)

/-- Form the device-level states (R399, R401): events and counts at each beginning; THM_NORMAL when all have ended.
Answers whether throttle began, throttle ended, shut-down began. -/
def Dev.tsStates (d : Dev) : Dev × Bool × Bool × Bool :=
  let w0 := d.on 0x06 THM_STATUS_WARN
  let t0 := d.on 0x06 THM_STATUS_THROTTLE
  let s0 := d.on 0x06 THM_STATUS_SHUT
  let w := d.tsState 24 1
  let t := d.tsState 25 2
  let s := d.tsState 26 3
  let d := ((d.setFld 0x06 THM_STATUS_WARN w.toNat).setFld 0x06 THM_STATUS_THROTTLE t.toNat).setFld
    0x06 THM_STATUS_SHUT s.toNat
  let d := d.setFld 0x06 THM_STATUS_OTP_OK d.otpWindow.toNat
  let d := if w && !w0 then d.raise 0x06 0 else d
  let d := if t && !t0 then (d.bump 0x06 THM_THROTTLE_CNT).raise 0x06 1 else d
  let d := if s && !s0 then (d.bump 0x06 THM_SHUT_CNT).raise 0x06 2 else d
  let d := if (w0 || t0 || s0) && !(w || t || s) then d.raise 0x06 4 else d
  (d, t && !t0, t0 && !t, s && !s0)

/-- Throttle holds (R400). -/
def Dev.throttled (d : Dev) : Bool := d.on 0x06 THM_STATUS_THROTTLE

/-- SKIP skips the slot numbered n (R400). -/
def Dev.throttleSkips (d : Dev) (n : Nat) : Bool :=
  let m := d.fld 0x06 THM_THROTTLE_CFG_SKIP_M
  d.throttled && d.on 0x06 THM_CTRL_SKIP_EN && 2 ≤ m && n % m == 0

end Sys2Proof.Machine
end

