-- ==== Sys2Proof/Machine/Results.lean ====
section
/-! DEFINITION. Pumphouse result records: linearisation, flags, record layout, streams (Auxiliary analogue front end,
R257 to R259). -/
namespace Sys2Proof.Machine

/-- FLAGS bits of Table 11-4. -/
abbrev rfOvr : Nat := 1
abbrev rfClamp : Nat := 2
abbrev rfWire : Nat := 4
abbrev rfSettle : Nat := 8
abbrev rfTone : Nat := 16
abbrev rfLin : Nat := 32
abbrev rfChopNeg : Nat := 64
abbrev rfUrgent : Nat := 128
abbrev rfLsat : Nat := 256
abbrev rfTstale : Nat := 512

/-- The flag byte that Belvedere takes from a result's FLAGS (R284, Table 13-5). -/
def blvFlags (f : Nat) : Nat :=
  f % 8 + (if bitAt f 4 then 8 else 0) + (if bitAt f 3 then 16 else 0)

/-- Coefficient c_ij of linearisation set k, signed Q24 (R257). -/
def Dev.linC (d : Dev) (k i j : Nat) : Int := signed 32 (d.regN 0x91 (PMP_LIN_C_00 + 64 * k + 4 * (3 * i + j)))

/-- The polynomial of R257 on x in 2^-23 and t in 1/1,024, exact, in 2^-23, truncated toward minus infinity (log entry 8). -/
def Dev.linPoly (d : Dev) (k : Nat) (x t : Int) : Int :=
  let s := (List.range 4).foldl (fun (a : Int) i => (List.range 3).foldl (fun (a : Int) j =>
    a + d.linC k i j * x ^ i * t ^ j * 2 ^ (23 * (3 - i)) * 2 ^ (10 * (2 - j))) a) 0
  s / 2 ^ 90

/-- LINEARISE (R257): the value and the FLAGS it adds; without a valid temperature the result stays as it is, with TSTALE, and
is counted. -/
def Dev.linearise (k : Nat) (x raw : Int) (d : Dev) : Dev × Int × Nat :=
  match d.tsReading (d.fld 0x91 (PMP_LIN_CFG_TS.plus (64 * k))) with
  | none => (Dev.bumpFirst 0x8E PMP_TSTALE_CNT 6 d, raw, rfTstale)
  | some t =>
    let y := d.linPoly k x (t - 250)
    let c := clampI (-(2 ^ 23)) (2 ^ 23 - 1) y
    (d, c, rfLin + (if c == y then 0 else rfLsat))

/-- The 16-byte record of Table 11-4; `last` is byte 7. -/
def resultBytes (value : Int) (input conv flags last time : Nat) : List Nat :=
  leBytes 4 (toBits 32 value) ++ [input % 32 + 32 * conv] ++ leBytes 2 flags ++ [last] ++ leBytes 8 time

/-- A record reaches its stream's 16-record queue, or is dropped and counted (R259). Streams 0 to 5 are SD0, SD1 and SAR 0
to 3, stream 6 + c is Cascade channel c. -/
def Dev.streamPush (stream ch : Nat) (bytes : List Nat) (d : Dev) : Dev :=
  let q := SMap.get [] d.pmp.streams stream
  if ch < 24 && !d.on (0x97 + ch) DMA_CTRL_EN then d.bump (0x97 + ch) DMA_DISCARD
  else if 16 ≤ q.length then
    let d := Dev.bumpFirst 0x8E PMP_RESULT_DROP 4 d
    if 6 ≤ stream then d.setBit 0x92 CSC_DROP (stream - 6) else d
  else { d with pmp := { d.pmp with arrivals := d.pmp.arrivals + 1
                                    streams := SMap.put [] d.pmp.streams stream (q ++ [⟨ch, d.pmp.arrivals, bytes⟩]) } }

/-- A result for memory: linearised where it names a set, then queued; no record for a stream without a DMA channel (R257 to
R259, R275, R276). -/
def Dev.resultOut (stream ch : Nat) (value x : Int) (lin : Option Nat) (input conv flags last time : Nat) (d : Dev) : Dev :=
  let (d, v, f) := match lin with
    | some k => d.linearise k x value
    | none => (d, value, 0)
  if 24 ≤ ch then d
  else d.streamPush stream ch (resultBytes v input conv (flags + f) last time)

/-- DMA channel of Pumphouse stream s (PMP.DMA_MAP). -/
def Dev.streamCh (d : Dev) (s : Nat) : Nat := d.fld 0x8E ⟨PMP_DMA_MAP, 5 * s + 4, 5 * s⟩

/-- A result carries OVR: the input's bit is set, with PMP_OVR when it was 0 (R251, R255, R262). -/
def Dev.overRange (input : Nat) (d : Dev) : Dev :=
  if d.bit 0x8E PMP_OVR input then d else (d.setBit 0x8E PMP_OVR input).raise 0x8E 1

/-- Whether some span overlaps the sampling window from a to b; a span without end goes on. -/
def spanOverlaps (spans : List (Nat × Option Nat)) (a b : Nat) : Bool :=
  spans.any (fun s => s.1 ≤ b && (match s.2 with | some e => a < e | none => true))

/-- Spans with a new one opened; those that ended more than 250 ms ago can touch no window any more. -/
def spanOpen (spans : List (Nat × Option Nat)) (now : Nat) : List (Nat × Option Nat) :=
  spans.filter (fun s => match s.2 with | some e => now ≤ e + Config.ms 250 | none => true) ++ [(now, none)]

/-- Spans with the open one ended. -/
def spanClose (spans : List (Nat × Option Nat)) (now : Nat) : List (Nat × Option Nat) :=
  spans.map (fun s => (s.1, some (s.2.getD now)))

/-- Whether a span is open. -/
def spanIsOpen (spans : List (Nat × Option Nat)) : Bool := spans.any (fun s => s.2.isNone)

end Sys2Proof.Machine
end

