-- ==== Sys2Proof/Machine/Cascade.lean ====
section
/-! DEFINITION. Cascade: input buffers, half-band stages, detectors, outputs (Decimation chain and signal detectors,
R267 to R283). -/
namespace Sys2Proof.Machine

def Dev.getCsc (d : Dev) (c : Nat) : CscCh := SMap.get {} d.csc c
def Dev.setCsc (d : Dev) (c : Nat) (x : CscCh) : Dev := { d with csc := SMap.put {} d.csc c x }

/-- A field of logical channel c. -/
def Dev.cf (d : Dev) (c : Nat) (f : Fld) : Nat := d.fld 0x92 (f.plus (32 * c))
def Dev.setCf (d : Dev) (c : Nat) (f : Fld) (v : Nat) : Dev := d.setFld 0x92 (f.plus (32 * c)) v

/-- The channel runs: its EN and the engine's (R269). -/
def Dev.cscOn (d : Dev) (c : Nat) : Bool := d.on 0x92 CSC_CTRL_EN && d.cf c CSC_CH_CFG_EN != 0

/-- Half-length D of a coefficient set and its coefficients at offsets 1, 3, 5, 7 and 9 (Table 12-1). -/
def halfBandSet (s : Nat) : Nat × List Int :=
  if s == 0 then (3, [36864, -4096])
  else if s == 1 then (5, [38400, -6400, 768])
  else if s == 2 then (7, [39200, -7840, 1568, -160])
  else (9, [39690, -8820, 2268, -405, 35])

/-- Coefficient h_k of a set, Q17 (R271). -/
def halfBandCoef (s k : Nat) : Int :=
  if k = 0 then 65536 else if k % 2 = 0 then 0 else (halfBandSet s).2.getD (k / 2) 0

/-- Nearest integer to n / 2^17, halves to even (R272). -/
def roundHalfEven17 (n : Int) : Int :=
  let q := n / 131072
  let r := n % 131072
  if r < 65536 then q else if 65536 < r then q + 1 else if q % 2 == 0 then q else q + 1

/-- One input of a stage with coefficient set s (R272, R273): its output, if it computes one here, and whether it saturated. -/
def HalfBand.step (h : HalfBand) (s : Nat) (x : Int) : HalfBand × Option (Int × Bool) :=
  let dd := (halfBandSet s).1
  let len := 2 * dd + 1
  let xs := (x :: h.xs).take len
  let n := h.n + 1
  let h' : HalfBand := ⟨xs, n⟩
  if n < len || (n - len) % 2 = 1 then (h', none)
  else
    let acc := (List.range len).foldl (fun (a : Int) i =>
      a + halfBandCoef s (if i ≤ dd then dd - i else i - dd) * xs.getD i 0) 0
    let y := roundHalfEven17 acc
    let c := clampI (-8388608) 8388607 y
    (h', some (c, c != y))

/-- The chain of stages that remain, on one value: later stages, the output, whether one saturated (R271). `last` is the
set of the final stage, `early` of the others. -/
def cascadeRun (early last : Nat) : List HalfBand → Int → List HalfBand × Option Int × Bool
  | [], x => ([], some x, false)
  | h :: rest, x =>
    match h.step (if rest.isEmpty then last else early) x with
    | (h', none) => (h' :: rest, none, false)
    | (h', some (y, o)) =>
      let (r, z, o') := cascadeRun early last rest y
      (h' :: r, z, o || o')

/-- A flush (R270): stages, priming and detector state are cleared, and RMS and ENV read 0 with it (R278, R279); the PEAK registers stay.
The latest configuration is taken. -/
def Dev.cscFlush (c : Nat) (d : Dev) : Dev :=
  let x := d.getCsc c
  let n := min 6 (d.cf c CSC_CH_CFG_NSTG)
  let cfg := d.cf c CSC_CH_CFG_SET_EARLY + 4 * d.cf c CSC_CH_CFG_SET_LAST
  let d := d.setCsc c { buf := x.buf, flush := false, cfg := cfg, stages := List.replicate n {}, outs := x.outs,
                        lastTime := x.lastTime }
  ((d.setCf c CSC_CH_STATUS_PRIMED 0).setCf c CSC_RMS_VALUE 0).setCf c CSC_ENV_VALUE 0

/-- Bind a channel to a modulator's entry, flushed (R267). -/
def Dev.cscBind (c m input : Nat) (d : Dev) : Dev :=
  let d := d.setCsc c { d.getCsc c with flush := true }
  (d.setCf c CSC_CH_STATUS_SRC (m + 1)).setCf c CSC_CH_STATUS_IN input

/-- The binding ends, if it is this modulator's (R267). -/
def Dev.cscUnbind (c m : Nat) (d : Dev) : Dev :=
  if d.cf c CSC_CH_STATUS_SRC == m + 1 then (d.setCf c CSC_CH_STATUS_SRC 0).setCf c CSC_CH_STATUS_IN 0 else d

/-- A sinc output reaches a channel (R267, R269). -/
def Dev.cscArrive (c m : Nat) (x : CscIn) (d : Dev) : Dev :=
  let src := d.cf c CSC_CH_STATUS_SRC
  if src != 0 && src != m + 1 then (d.bump 0x92 CSC_SRC_CONFLICT).raise 0x92 2
  else if !d.cscOn c then d
  else
    let k := d.getCsc c
    d.setCsc c { k with buf := k.buf ++ [x] }

/-- One buffered input goes through the stages (R270 to R273, R275). -/
def Dev.cscProcess (c : Nat) (d : Dev) (x : CscIn) : Dev :=
  let k := d.getCsc c
  let (st, y, o) := cascadeRun (k.cfg % 4) (k.cfg / 4) k.stages x.value
  let fl := k.flags ||| x.flags ||| (if o then rfOvr else 0)
  match y with
  | none => d.setCsc c { k with stages := st, flags := fl }
  | some y =>
    let out : CscOut := ⟨d.now + 128000, y, fl, x.time, x.input, x.lin⟩
    (d.setCsc c { k with stages := st, flags := 0, outs := k.outs ++ [out] }).setCf c CSC_CH_STATUS_PRIMED 1

/-- CSC_SERVICE_POINT (R270, Table 12-2): 50 ns x c after a round's start, a pending flush, then every buffered input; with the
engine or the channel off the inputs are discarded and the state cleared. -/
def Dev.cscService (c : Nat) (d : Dev) : Dev :=
  if d.edgeTime % 64000 != 4000 * c then d
  else if !d.cscOn c then (d.setCsc c { d.getCsc c with buf := [] }).cscFlush c
  else
    let d := if (d.getCsc c).flush then d.cscFlush c else d
    let b := (d.getCsc c).buf
    b.foldl (Dev.cscProcess c) (d.setCsc c { d.getCsc c with buf := [] })

/-- The peak detector (R277). -/
def Dev.cscPeak (c : Nat) (x : Int) (d : Dev) : Dev :=
  let k := d.getCsc c
  let n := k.pkN + 1
  let mx := if k.pkN = 0 then x else max k.pkMax x
  let mn := if k.pkN = 0 then x else min k.pkMin x
  if 2 ^ d.cf c CSC_DET_CFG_PK_WIN ≤ n then
    ((d.setCsc c { k with pkN := 0, pkMax := mx, pkMin := mn }).setCf c CSC_PEAK_MAX_VALUE (toBits 24 mx)).setCf
      c CSC_PEAK_MIN_VALUE (toBits 24 mn)
  else d.setCsc c { k with pkN := n, pkMax := mx, pkMin := mn }

/-- The RMS detector (R278). -/
def Dev.cscRms (c : Nat) (x : Int) (d : Dev) : Dev :=
  let k := d.getCsc c
  let a := if x == -8388608 then 8388607 else x.natAbs
  let kk := max 1 (d.cf c CSC_DET_CFG_RMS_K)
  let m := ((k.ms : Int) + ((a * a : Nat) - (k.ms : Int)) / 2 ^ kk).toNat
  (d.setCsc c { k with ms := m }).setCf c CSC_RMS_VALUE (isqrt m)

/-- The envelope detector (R279). -/
def Dev.cscEnvelope (c : Nat) (x : Int) (d : Dev) : Dev :=
  let k := d.getCsc c
  let a : Int := 256 * (if x == -8388608 then 8388607 else x.natAbs : Nat)
  let e : Int := k.env
  let sh := if e < a then d.cf c CSC_DET_CFG_ATT_K else d.cf c CSC_DET_CFG_REL_K
  let e' := (e + (a - e) / 2 ^ sh).toNat
  let thr := d.cf c CSC_ENV_THR_THR
  let rises := k.env / 256 ≤ thr && thr < e' / 256
  let d := (d.setCsc c { k with env := e' }).setCf c CSC_ENV_VALUE (e' / 256)
  if rises && !d.bit 0x92 CSC_ENV_HI c then (d.setBit 0x92 CSC_ENV_HI c).raise 0x92 1 else d

/-- CSC_OUTPUT_RELEASE (R270, R275 to R279): 1.6 µs after its service point the oldest output goes to Belvedere, the
detectors and its queue. Answers whether one was released. -/
def Dev.cscRelease (c : Nat) (d : Dev) : Dev × Bool :=
  let k := d.getCsc c
  match k.outs with
  | [] => (d, false)
  | o :: rest =>
    if d.now < o.due then (d, false)
    else
      let d := d.setCsc c { k with outs := rest, lastTime := o.time }
      let d := d.sampleTo (0x20 + c) o.value (blvFlags o.flags) o.time
      let d := if bitAt o.flags 0 && !d.bit 0x92 CSC_OVR c then (d.setBit 0x92 CSC_OVR c).raise 0x92 0 else d
      let d := ((d.cscPeak c o.value).cscRms c o.value).cscEnvelope c o.value
      (d.resultOut (6 + c) (d.cf c CSC_CH_CFG_DMA) o.value o.value o.lin o.input 6 o.flags c o.time, true)

/-- A write of CSC.CTRL (Table 12-2): EN to 1 starts the channels flushed, and only inputs that arrive later are used. -/
def Dev.cscCtrlWritten (old : Word) (d : Dev) : Dev :=
  let on := d.on 0x92 CSC_CTRL_EN
  if bitAt old.toNat 0 == on then d
  else (List.range 16).foldl (fun (d : Dev) c =>
    let x := d.getCsc c
    d.setCsc c { x with flush := true, buf := if on then [] else x.buf }) d

/-- A write of CSC.CH_CFG_c (Table 12-2): a change of EN, NSTG or the sets flushes at the next service point. -/
def Dev.cscCfgWritten (c : Nat) (old : Word) (d : Dev) : Dev :=
  if (old &&& 0x33F) == (d.reg 0x92 (CSC_CH_CFG + 32 * c) &&& 0x33F) then d
  else d.setCsc c { d.getCsc c with flush := true }

/-- A write of CSC.DET_CFG_c (Table 12-2): a change of PK_WIN abandons the window. -/
def Dev.cscDetWritten (c : Nat) (old : Word) (d : Dev) : Dev :=
  if (old &&& 0xF) == (d.reg 0x92 (CSC_DET_CFG + 32 * c) &&& 0xF) then d else d.setCsc c { d.getCsc c with pkN := 0 }

/-- The snapshot of the CSC mailbox (R283). -/
def Dev.cscSnapshot (sel : Nat) (d : Dev) : List Word :=
  if 16 ≤ sel then []
  else
    let r (o : Nat) : Word := d.reg 0x92 (o + 32 * sel)
    let t := (d.getCsc sel).lastTime
    [r CSC_PEAK_MAX, r CSC_PEAK_MIN, r CSC_RMS, r CSC_ENV, BitVec.ofNat 32 t, BitVec.ofNat 32 (t / 2 ^ 32)]

end Sys2Proof.Machine
end

