-- ==== Sys2Proof/Machine/Gatehouse.lean ====
section
/-! DEFINITION. Gatehouse: predicted energy, windows and budgets, verdicts, static beam, missing measurements, stored
energy, EMIT_EN (Emission energy governor, R200 to R221). -/
namespace Sys2Proof.Machine

/-- Causes of an inhibit (GTH.INHIBIT_LAST.CAUSE). -/
abbrev causeSeg : Nat := 0
abbrev causeGrp : Nat := 1
abbrev causeMissing : Nat := 2
abbrev causeLate : Nat := 3
abbrev causeEmit : Nat := 4
abbrev causeDump : Nat := 5
abbrev causeState : Nat := 6

/-- Predicted energy of one pulse in 0.1 nJ, from sink code and pulse width in 0.1 ns (R202): formed exactly, rounded up
once. -/
def Dev.energy (d : Dev) (seg code pwTenths : Nat) : Nat :=
  let se := d.fld 0x85 (GTH_EFF_SE.plus (4 * seg))
  let ith := d.fld 0x85 (GTH_EFF_ITH.plus (4 * seg))
  let m := d.fld 0x85 GTH_PRED_MARGIN
  let tail := d.fld 0x85 GTH_PRED_TAIL
  ceilDiv (se * (100 * code - 255 * ith) * (pwTenths + tail) * (256 + m)) 65280000000

/-- Bucket length of window w in LSB (Table 09-2). -/
def bucketLen (w : Nat) : Nat :=
  if w == 1 then 250000 else if w == 2 then 25000000 else if w == 3 then 1250000000 else 50000000000

/-- Key of a segment's or group's debits in window w. -/
def segKey (w seg : Nat) : Nat := 80 * w + seg
def grpKey (w seg : Nat) : Nat := 80 * w + 64 + seg / 4

/-- The accumulation A_w at device time `f` (R205): the bucket of `f` and the 16 before it; 0 for the single-shot window. -/
def Gth.accum (g : Gth) (w key f : Nat) : Nat :=
  if w == 0 then 0
  else
    let b := f / bucketLen w
    min (2 ^ 32 - 1) (((SMap.get [] g.debits key).filter (fun e => e.1 ≤ b && b ≤ e.1 + 16)).foldl (fun a e => a + e.2) 0)

/-- Add energy to bucket b; buckets that can no longer count are dropped: those before the 16 complete ones before the current bucket `c`. -/
def addDebit (bs : List (Nat × Nat)) (c b e : Nat) : List (Nat × Nat) :=
  let kept := bs.filter (fun x => c ≤ x.1 + 16)
  if kept.any (fun x => x.1 == b) then kept.map (fun x => if x.1 == b then (b, x.2 + e) else x) else (b, e) :: kept

/-- Take energy out of the bucket of `f` and put another amount in (R204). -/
def swapDebit (bs : List (Nat × Nat)) (b e e' : Nat) : List (Nat × Nat) :=
  bs.map (fun x => if x.1 == b then (b, x.2 - e + e') else x)

/-- Debit a grant, made at device time `now`, to the four windows of its segment and group at its fire time `f` (R207). -/
def Gth.debit (g : Gth) (seg now f e : Nat) : Gth :=
  { g with debits := [1, 2, 3, 4].foldl (fun m w =>
      let b := f / bucketLen w
      let c := now / bucketLen w
      let m := SMap.put [] m (segKey w seg) (addDebit (SMap.get [] m (segKey w seg)) c b e)
      SMap.put [] m (grpKey w seg) (addDebit (SMap.get [] m (grpKey w seg)) c b e)) g.debits }

/-- Replace a debit after an OVER verdict (R204). -/
def Gth.redebit (g : Gth) (seg f e e' : Nat) : Gth :=
  { g with debits := [1, 2, 3, 4].foldl (fun m w =>
      let b := f / bucketLen w
      let m := SMap.put [] m (segKey w seg) (swapDebit (SMap.get [] m (segKey w seg)) b e e')
      SMap.put [] m (grpKey w seg) (swapDebit (SMap.get [] m (grpKey w seg)) b e e')) g.debits }

/-- The static-beam table is in force (R212). -/
def Dev.isStatic (d : Dev) : Bool := d.on 0x85 GTH_STATUS_STATIC

/-- Budget B_w of the table in force. -/
def Dev.budget (d : Dev) (grp : Bool) (w : Nat) : Nat :=
  let base := if d.isStatic then (if grp then GTH_BUD_STAT_GRP else GTH_BUD_STAT_SEG)
    else (if grp then GTH_BUD_SCAN_GRP else GTH_BUD_SCAN_SEG)
  d.regN 0x85 (base + 4 * w)

/-- The first budget that refuses energy `e` for a segment at device time `f`: cause and window (R207, R209). With
`held` the accumulations already hold the debit (R212). -/
def Dev.refusedBy (d : Dev) (seg f e : Nat) (held : Bool) : Option (Nat × Nat) :=
  let exceeds (grp : Bool) (w : Nat) : Bool :=
    let a := d.gth.accum w (if grp then grpKey w seg else segKey w seg) f
    d.budget grp w < a + (if held && w != 0 then 0 else e)
  match (List.range 5).find? (exceeds false) with
  | some w => some (causeSeg, w)
  | none => ((List.range 5).find? (exceeds true)).map (fun w => (causeGrp, w))

/-- Count an inhibited segment-shot (R209). -/
def Dev.inhibit (seg cause window : Nat) (d : Dev) : Dev :=
  let d := d.bump 0x85 GTH_INHIBIT_CNT
  let d := d.setRegN 0x85 GTH_INHIBIT_LAST (2 ^ 29 * cause + 65536 * (if cause < 2 then window else 0) + seg)
  let d := if cause < 2 then d.bump 0x85 (GTH_WIN_HIT + 4 * window) else d
  let d := match d.bnd.acq with
    | some a => { d with slots := d.slots.map (fun (s : SlotRec) => if s.num == a.num then { s with inhibited := true } else s) }
    | none => d
  if d.gth.inhibitOnce then d else Dev.raise 0x85 0 { d with gth := { d.gth with inhibitOnce := true } }

/-- EMIT_EN has been high for 1 µs without a break (R217). -/
def Dev.emitStable (d : Dev) : Bool := d.gth.emitEn && d.gth.emitSince + Config.us 1 ≤ d.now

/-- EMIT_EN low demands a dump (R217). -/
def Dev.emitDump (d : Dev) : Bool := d.on 0x85 GTH_CFG_DUMP_ON_EN && !d.gth.emitEn

/-- A dump demand stands (R215). -/
def Dev.dumpDemand (d : Dev) : Bool := d.gth.latched || d.emitDump

/-- DUMP_L is low (R215, Table 21-3). -/
def Dev.dumpLow (d : Dev) : Bool :=
  if d.devState == stArmed || d.devState == stScanning then d.dumpDemand else true

/-- GTH.STATUS.DUMP follows DUMP_L. -/
def Dev.dumpFollow (d : Dev) : Dev := d.setFld 0x85 GTH_STATUS_DUMP d.dumpLow.toNat

/-- The cause, if any, that withholds fire enable from every segment now, in the order of R209, LATE and MISSING
apart. -/
def Dev.enableCause (d : Dev) : Option Nat :=
  if d.devState != stScanning then some causeState
  else if !d.emitStable then some causeEmit
  else if d.dumpDemand || d.on 0x85 GTH_STATUS_TEMP_OUT then some causeDump
  else none

/-! ### Verdicts -/

/-- Key of a segment-shot. -/
def shotKey (seg k : Nat) : Nat := 16 * seg + k

/-- The verdict on a segment-shot. -/
def Acq.verdict (a : Acq) (seg k : Nat) : Option Verdict := SMap.get none a.verdicts (shotKey seg k)

/-- Store a verdict. -/
def Acq.setVerdict (a : Acq) (seg k : Nat) (v : Verdict) : Acq :=
  { a with verdicts := SMap.put none a.verdicts (shotKey seg k) (some v) }

/-- Whether the fire command of a segment-shot has not yet come (R212). -/
def Acq.pendingShot (a : Acq) (seg k : Nat) : Bool :=
  a.nextShot ≤ k || (k + 1 == a.nextShot && a.nextBank ≤ a.pos (seg / 8))

/-- Device time of a model time not before now. -/
def Dev.timeOf (d : Dev) (at_ : Nat) : Nat := d.edgeTime + (at_ - d.now)

/-- Predicted energy of a segment of the plan with its readback (R203): the larger code, the longer width; worst case
while the readback is missing (Table 09-3). -/
def Dev.planEnergy (d : Dev) (a : Acq) (s : PlanSeg) : Nat :=
  if a.rbMissing then d.energy s.seg 65025 80
  else
    match a.rb.find? (fun x => x.1 == s.seg) with
    | some (_, c, w) => d.energy s.seg (max c s.code) (5 * max w s.pw)
    | none => d.energy s.seg s.code (5 * s.pw)

/-- Put the slot in acquisition back. -/
def Dev.setAcq (a : Acq) (d : Dev) : Dev := { d with bnd := { d.bnd with acq := some a } }

/-- Inhibit a segment-shot of the slot in acquisition: verdict and count. -/
def Dev.inhibitShot (seg k cause window : Nat) (d : Dev) : Dev :=
  match d.bnd.acq with
  | none => d
  | some a => (d.setAcq (a.setVerdict seg k .inhibited)).inhibit seg cause window

/-- Judge one segment-shot (R207, R209); it is held while a charge-supply check is missing (Table 09-3). -/
def Dev.judge (k : Nat) (d : Dev) (s : PlanSeg) : Dev :=
  match d.bnd.acq with
  | none => d
  | some a =>
    if s.shots ≤ k || a.verdict s.seg k == some .granted || a.verdict s.seg k == some .inhibited then d
    else
      let f := d.timeOf (a.fireAt k (a.pos (s.seg / 8)))
      let e := d.planEnergy a s
      match d.enableCause with
      | some c => d.inhibitShot s.seg k c 0
      | none =>
        if d.gth.missing then d.setAcq (a.setVerdict s.seg k .held)
        else match d.refusedBy s.seg f e false with
          | some (c, w) => d.inhibitShot s.seg k c w
          | none => { d.setAcq (a.setVerdict s.seg k .granted) with gth := d.gth.debit s.seg d.edgeTime f e }

/-- GTH_VERDICT_PASS (R207, R208): the verdicts of every segment-shot of the next shot, in ascending segment number. A
pass runs after the fetch, pass k after pass k - 1; the command is its completion. -/
def Dev.verdictPass (d : Dev) : Dev :=
  match d.bnd.acq with
  | none => d
  | some a =>
    if !a.fetched || a.shots ≤ a.nextPass || d.now < a.trigAt + Config.ns 800 then d
    else
      let k := a.nextPass
      let d := a.segs.foldl (Dev.judge k) d
      match d.bnd.acq with
      | none => d
      | some a => d.setAcq { a with nextPass := k + 1, passAt := d.now }

/-- Every FIRE and BANK_SEL output falls, which ends a pulse in progress (R186): FIRE within 5 ns, BANK_SEL within 10 ns, in the model at
once. -/
def Dev.outputsFall (d : Dev) : Dev :=
  { d with bnd := { d.bnd with
      pulses := d.bnd.pulses.map (fun (p : Pulse) => { p with fall := min p.fall d.now })
      sel := d.bnd.sel.map (fun (x : Nat × Nat × Nat) => (x.1, x.2.1, min x.2.2 d.now)) } }

/-- Fire enable is removed (R186, R215, R217): the outputs fall, and every pending grant becomes an inhibit with a cause, until verdicts
formed later. -/
def Dev.revoke (cause : Nat) (d : Dev) : Dev :=
  let d := d.outputsFall
  match d.bnd.acq with
  | none => d
  | some a =>
    a.segs.foldl (fun d s => (List.range s.shots).foldl (fun d k =>
      if a.pendingShot s.seg k && (a.verdict s.seg k == some .granted || a.verdict s.seg k == some .held)
      then d.inhibitShot s.seg k cause 0 else d) d) d

/-- Judge the held segment-shots whose fire command is still to come, shot by shot: a valid check has come (Table 09-3). -/
def Dev.judgeHeld (d : Dev) : Dev :=
  match d.bnd.acq with
  | none => d
  | some a =>
    (List.range 16).foldl (fun d k => a.segs.foldl (fun (d : Dev) s =>
      if a.pendingShot s.seg k && a.verdict s.seg k == some .held then d.judge k s else d) d) d

/-- Re-form the pending verdicts under the static-beam table (R212). -/
def Dev.reform (d : Dev) : Dev :=
  match d.bnd.acq with
  | none => d
  | some a =>
    a.segs.foldl (fun d s => (List.range s.shots).foldl (fun d k =>
      if a.pendingShot s.seg k && a.verdict s.seg k == some .granted then
        match d.refusedBy s.seg (d.timeOf (a.fireAt k (a.pos (s.seg / 8)))) (d.planEnergy a s) true with
        | some (c, w) => d.inhibitShot s.seg k c w
        | none => d
      else d) d) d

/-! ### Static beam -/

/-- A condition of R212 holds: SLOW, FB_LOST, HOLD or STALE. -/
def Dev.staticCond (d : Dev) : Bool :=
  d.on 0x85 GTH_STATUS_SLOW || d.on 0x85 GTH_STATUS_FB_LOST || d.on 0x85 GTH_STATUS_HOLD || d.on 0x85 GTH_STATUS_STALE

/-- What a condition that arises does (R212): fire enable falls, the static-beam table takes over and pending verdicts are re-formed. -/
def Dev.staticEnter (d : Dev) : Dev :=
  let d := { d with gth := { d.gth with calmSince := none } }
  if d.isStatic then d
  else ((((d.setFld 0x85 GTH_STATUS_STATIC 1).outputsFall).reform).bump 0x85 GTH_STATIC_CNT).raise 0x85 1

/-- Page of loop l. -/
def ftnPage (l : Nat) : Nat := 0x86 + l

/-- Sample period in 100 ns (R227, R242). -/
def Dev.loopPeriod (d : Dev) (l : Nat) : Nat := max 50 (min (d.fld (ftnPage l) FTN_PERIOD_PERIOD) 10000)

/-- Four sample periods of the selected loop have passed without an angle sample (R212). -/
def Dev.isStale (d : Dev) : Bool :=
  let l := d.fld 0x85 GTH_CFG_SRC
  decide (SMap.get 0 d.gth.lastSample l + 32000 * d.loopPeriod l ≤ d.now)

/-- SLOW by the latest sample of the selected loop (R212). -/
def Dev.isSlow (d : Dev) : Option Bool :=
  (SMap.get none d.bnd.samples (d.fld 0x85 GTH_CFG_SRC)).map (fun (s : Sample) => decide (s.omega.natAbs < d.fld 0x85 GTH_OMEGA_MIN_OMEGA_MIN))

/-- The latest sample of the selected loop moves at 17/16 of OMEGA_MIN or more (R213). -/
def Dev.isCalm (d : Dev) : Bool :=
  match SMap.get none d.bnd.samples (d.fld 0x85 GTH_CFG_SRC) with
  | some s => d.fld 0x85 GTH_OMEGA_MIN_OMEGA_MIN * 17 ≤ s.omega.natAbs * 16
  | none => false

/-- The motion inputs of the selected loop change (R200, R212): on every angle sample, which Bandstand has had before, and when its states
change. -/
def Dev.motion (fb hold sample : Bool) (d : Dev) : Dev :=
  let d := (d.setFld 0x85 GTH_STATUS_FB_LOST fb.toNat).setFld 0x85 GTH_STATUS_HOLD hold.toNat
  let d := if sample then (d.setFld 0x85 GTH_STATUS_SLOW (d.isSlow.getD false).toNat).setFld 0x85 GTH_STATUS_STALE 0 else d
  if d.staticCond then d.staticEnter
  else { d with gth := { d.gth with calmSince := if d.isCalm then some (d.gth.calmSince.getD d.now) else none } }

/-- An angle sample of loop l arrives (R212). -/
def Dev.gthSample (l : Nat) (fb hold : Bool) (d : Dev) : Dev :=
  let d := { d with gth := { d.gth with lastSample := SMap.put 0 d.gth.lastSample l d.now } }
  if d.fld 0x85 GTH_CFG_SRC == l then d.motion fb hold true else d

/-- A missing measurement is counted (R214). -/
def Dev.countMissing (d : Dev) : Dev := (d.bump 0x85 GTH_MISSING_CNT).raise 0x85 4

/-- GTH_STALE (R212, R214): four sample periods without an angle sample. -/
def Dev.gthStale (d : Dev) : Dev :=
  if d.on 0x85 GTH_STATUS_STALE then d
  else if d.isStale then
    ((d.setFld 0x85 GTH_STATUS_STALE 1).countMissing).staticEnter
  else d

/-- GTH_SCAN_RETURN (R213): STATIC_HOLD ms of motion without a condition. -/
def Dev.scanReturn (d : Dev) : Dev :=
  match d.gth.calmSince with
  | some a =>
    if d.isStatic && !d.staticCond && a + Config.ms (max 10 (d.fld 0x85 GTH_STATIC_HOLD_HOLD)) ≤ d.now
    then (d.setFld 0x85 GTH_STATUS_STATIC 0).raise 0x85 2 else d
  | none => d

/-! ### Stored energy -/

/-- A cause of a latched dump demand arises (R215): DUMP_L low, fire enable removed; counted while no demand stood. -/
def Dev.dumpAssert (d : Dev) : Dev :=
  let stood := d.dumpDemand
  let d := { d with gth := { d.gth with latched := true, dumpAt := some (if d.gth.latched then d.gth.dumpAt.getD d.now else d.now),
                                        lowRun := 0 } }
  let d := (d.revoke causeDump).dumpFollow
  if stood then d else (d.bump 0x85 GTH_DUMP_CNT).raise 0x85 3

/-- A latched demand is released (R215, R216). -/
def Dev.dumpRelease (d : Dev) : Dev :=
  let g := d.gth
  if g.latched && 3 ≤ g.lowRun && !g.hold7 && !d.on 0x85 GTH_STATUS_TEMP_OUT
      && (g.dumpAt.getD 0) + Config.ms 1 ≤ d.now then
    Dev.dumpFollow { d with gth := { g with latched := false, dumpAt := none } }
  else d

/-- A charge check has no result (R214, Table 09-3): the third in a row acts as an exceedance. -/
def Dev.checkMissing (d : Dev) : Dev :=
  let n := d.gth.missRun + 1
  let d := { d with gth := { d.gth with missing := true, missRun := n, waiting := false, lowRun := 0 } }
  let d := d.countMissing
  if 3 ≤ n then d.dumpAssert else d

/-- A charge check's result arrives (R215). -/
def Dev.checkResult (v : Nat) (d : Dev) : Dev :=
  let lim := d.fld 0x85 GTH_VLIM_VLIM
  let low := v + d.fld 0x85 GTH_VLIM_VHYST < lim
  let d := { d with gth := { d.gth with waiting := false, missing := false, missRun := 0
                                        lowRun := if low then d.gth.lowRun + 1 else 0 } }
  if lim < v then d.dumpAssert else d.judgeHeld.dumpRelease

/-- HOLD_SAFE of loop 7 (R215). -/
def Dev.loop7Hold (h : Bool) (d : Dev) : Dev :=
  let was := d.gth.hold7
  let d := { d with gth := { d.gth with hold7 := h } }
  if h && !was then d.dumpAssert else d.dumpRelease

/-- The TS inputs that BND.THERM_MAP names. -/
def Dev.namedTs (d : Dev) : List Nat :=
  ((List.range 8).filter (fun b => !d.bit 0x84 BND_THERM_MAP (24 + b))).map
    (fun b => d.fld 0x84 ⟨BND_THERM_MAP, 3 * b + 2, 3 * b⟩)

/-- The emitter-board temperature is missing (Table 09-3). -/
def Dev.emitterTempMissing (d : Dev) : Bool :=
  d.namedTs.isEmpty || d.namedTs.any (fun n => (d.tsReading n).isNone)

/-- Every named input lies in −40 °C to +105 °C, drawn in by `m` (R216). -/
def Dev.insideWindow (d : Dev) (m : Int) : Bool :=
  d.namedTs.all (fun n => match d.tsReading n with | some t => -400 + m ≤ t && t ≤ 1050 - m | none => false)

/-- The charging window after a reading, a stale reading or a change of the map (R214, R216). -/
def Dev.chargingWindow (d : Dev) : Dev :=
  let miss := d.emitterTempMissing
  let onset := miss && !d.gth.tempMissing
  let d := { d with gth := { d.gth with tempMissing := miss } }
  let d := if onset then d.countMissing else d
  let was := d.on 0x85 GTH_STATUS_TEMP_OUT
  let out := miss || (if was then !d.insideWindow 20 else !d.insideWindow 0)
  let d := d.setFld 0x85 GTH_STATUS_TEMP_OUT out.toNat
  if out && !was then d.dumpAssert else if was && !out then d.dumpRelease else d

/-! ### EMIT_EN -/

/-- EMIT_EN_FALL (R217): a fall that outlasts 10 ns removes fire enable; pulses of 10 ns or less can be ignored, so
they are by a free choice. `low` is how long the pin stays low, in LSB. -/
def Dev.emitFall (low : Nat) (d : Dev) : Dev :=
  let (x, d') := d.draw
  if low ≤ Config.ns 10 && x % 2 == 0 then d'
  else
    let d := if low ≤ Config.ns 10 then d' else d
    let stood := d.dumpDemand
    let d := ({ d with gth := { d.gth with emitEn := false } } : Dev).setFld 0x85 GTH_STATUS_EMIT_EN 0
    let d := (d.revoke causeEmit).dumpFollow
    if d.emitDump && !stood then (d.bump 0x85 GTH_DUMP_CNT).raise 0x85 3 else d

/-- EMIT_EN_RISE (R217): the 1 µs starts; a demand of DUMP_ON_EN ends. -/
def Dev.emitRise (d : Dev) : Dev :=
  if d.gth.emitEn then d
  else
    let d := ({ d with gth := { d.gth with emitEn := true, emitSince := d.now } } : Dev).setFld 0x85 GTH_STATUS_EMIT_EN 1
    d.dumpFollow

/-- GTH.STATUS.FIRE_EN as it reads (R217, R220). -/
def Dev.fireEnable (d : Dev) : Bool := d.emitStable && d.devState == stScanning

/-! ### One-way fields -/

/-- A write of a one-way register: accepted toward its tightening direction, else ignored and counted (R211). -/
def Dev.relaxReject (d : Dev) : Dev := (d.bump 0x85 GTH_RELAX_REJECT).raise 0x85 5

/-- A write of a budget register (R211). -/
def Dev.budgetWrite (off : Nat) (w : Word) (d : Dev) : Dev :=
  if w.toNat ≤ d.regN 0x85 off then d.setReg 0x85 off w else d.relaxReject

/-- A write of GTH.OMEGA_MIN (R211). -/
def Dev.omegaMinWrite (w : Word) (d : Dev) : Dev :=
  let v := bitsOf w 23 0
  if d.fld 0x85 GTH_OMEGA_MIN_OMEGA_MIN ≤ v then d.setFld 0x85 GTH_OMEGA_MIN_OMEGA_MIN v else d.relaxReject

/-- A write of GTH.VLIM (R211, R220): each field is judged on its own; VHYST is RWL. -/
def Dev.vlimWrite (w : Word) (d : Dev) : Dev :=
  let v := bitsOf w 15 0
  let d := if d.locked 0x85 then d else d.setFld 0x85 GTH_VLIM_VHYST (bitsOf w 31 16)
  if v ≤ d.fld 0x85 GTH_VLIM_VLIM then d.setFld 0x85 GTH_VLIM_VLIM v else d.relaxReject

/-- The snapshot of the GTH mailbox (R221). -/
def Dev.gthSnapshot (sel : Nat) (d : Dev) : List Word :=
  let w := sel % 4 + 1
  let f := d.edgeTime
  if sel < 256 then
    [BitVec.ofNat 32 (d.gth.accum w (80 * w + sel / 4) f), BitVec.ofNat 32 (d.budget false w)]
  else if sel < 320 then
    [BitVec.ofNat 32 (d.gth.accum w (80 * w + 64 + (sel - 256) / 4) f), BitVec.ofNat 32 (d.budget true w)]
  else []

end Sys2Proof.Machine
end

