-- ==== Sys2Proof/Machine/Bandstand.lean ====
section
/-! DEFINITION. Bandstand: pattern memory, frames and swaps, the fetch, bank fires and their diagnosis, probes (Emitter drive
and firing patterns, R175 to R199). -/
namespace Sys2Proof.Machine

/-! ### Pattern memory -/

/-- The active buffer. -/
def Dev.activeBuf (d : Dev) : SMap Byte := if d.on 0x83 BND_BUF_ACTIVE then d.bnd.buf1 else d.bnd.buf0

/-- n bytes of a buffer from an offset, as a number (R179, R180). -/
def bufNum (m : SMap Byte) (off n : Nat) : Nat := ofLe ((List.range n).map (fun i => (SMap.get 0 m (off + i)).toNat))

/-- Segment word s of entry e (R178, R180). -/
def segWord (m : SMap Byte) (e s : Nat) : Nat := bufNum m (128 * e + 2 * s) 2

/-- The frame header of entry 4,095 (Table 08-3): N, BIDIR, REVERSE, A0, PITCH. -/
def hdrN (m : SMap Byte) : Nat := bufNum m 524160 2 % 4096
def hdrBidir (m : SMap Byte) : Bool := bitAt (bufNum m 524162 2) 0
def hdrReverse (m : SMap Byte) : Bool := bitAt (bufNum m 524162 2) 1
def hdrA0 (m : SMap Byte) : Int := signed 32 (bufNum m 524164 4)
def hdrPitch (m : SMap Byte) : Nat := bufNum m 524168 4

/-- Angle of line j (R179). -/
def lineAngle (m : SMap Byte) (j : Nat) : Int := hdrA0 m + (j : Int) * (hdrPitch m : Int)

/-- The part of shared SRAM that holds a pattern image, by offset. -/
def imageSlice (m : List Host.Cell) (base : Nat) : SMap Byte :=
  (m.filter (fun c => base ≤ c.1 && c.1 < base + 524288)).map (fun c => (c.1 - base, c.2))

/-- A buffer of n bytes whose content the spec leaves unspecified (R180). -/
def Dev.unspecified (n : Nat) (d : Dev) : SMap Byte × Dev :=
  ((List.range n).filterMap (fun i =>
      let b := BitVec.ofNat 8 (Config.free (d.freeCtr + i))
      if b = 0 then none else some (i, b)),
    { d with freeCtr := d.freeCtr + n })

/-- Triggering by time is possible (R189). -/
def Dev.timedPossible (d : Dev) : Bool :=
  d.on 0x83 BND_CTRL_EN && d.fld 0x83 BND_CTRL_TRIG_MODE == 1 && d.on 0x83 BND_TIMED_PERIOD_PERIOD
    && d.on 0x83 BND_BUF_ACTIVE_VALID && d.devState == stScanning

/-- Timed period in LSB. -/
def Dev.timedPeriod (d : Dev) : Nat := Config.ns (100 * d.fld 0x83 BND_TIMED_PERIOD_PERIOD)

/-- The first timed trigger is due one period after triggering became possible (R189). -/
def Dev.timedCheck (d : Dev) : Dev :=
  { d with bnd := { d.bnd with timedNext :=
      if d.timedPossible then some (d.bnd.timedNext.getD (d.now + d.timedPeriod)) else none } }

/-- A swap, made when READY = 1 (R190). A sample judged against the buffer before triggers nothing more. -/
def Dev.swapBuffers (d : Dev) : Dev :=
  if d.on 0x83 BND_BUF_READY then
    let av := d.fld 0x83 BND_BUF_ACTIVE_VALID
    let iv := d.fld 0x83 BND_BUF_INACTIVE_VALID
    let d := (d.setFld 0x83 BND_BUF_ACTIVE (1 - d.fld 0x83 BND_BUF_ACTIVE)).setFld 0x83 BND_BUF_READY 0
    let d := (d.setFld 0x83 BND_BUF_ACTIVE_VALID iv).setFld 0x83 BND_BUF_INACTIVE_VALID av
    let d := { d with bnd := { d.bnd with fresh := none } }
    (((d.setFld 0x83 BND_BUF_N_ACTIVE (hdrN d.activeBuf)).raise 0x83 2)).timedCheck
  else d

/-- The swap of a buffer that was never loaded (R190). -/
def Dev.firstSwap (d : Dev) : Dev :=
  if !d.on 0x83 BND_BUF_ACTIVE_VALID && d.on 0x83 BND_CTRL_EN then d.swapBuffers else d

/-- SWAP_MODE allows frame-end swaps; SYNC_IN swaps (R190, R198). -/
def Dev.swapAtEnd (d : Dev) : Bool := d.fld 0x83 BND_CTRL_SWAP_MODE != 1
def Dev.swapOnSync (d : Dev) : Bool := let m := d.fld 0x83 BND_CTRL_SWAP_MODE; m == 1 || m == 2

/-- A frame is in progress. -/
def Dev.inFrame (d : Dev) : Bool := d.on 0x83 BND_LINE_IN_FRAME

/-- The frame in progress ends (R188, R190, R195): its END marker will carry TRUNC as given; a frame-end swap follows at
once, or after the fetch of the last slot. -/
def Dev.endFrame (trunc : Bool) (d : Dev) : Dev :=
  if !d.inFrame then d
  else
    let n := d.fld 0x83 BND_FRAME_FRAME_NUM
    let d := d.setFld 0x83 BND_LINE_IN_FRAME 0
    let d := { d with frames := d.frames.map (fun (f : FrameRec) =>
        if f.num == n && f.ended.isNone then { f with ended := some trunc } else f)
                      bnd := { d.bnd with against := 0 } }
    let d := d.closeFrame n
    if d.swapAtEnd && !trunc then
      match d.bnd.acq with
      | some a => if a.fetched then d.swapBuffers else { d with bnd := { d.bnd with swapDue := d.on 0x83 BND_BUF_READY } }
      | none => d.swapBuffers
    else d

/-- Bandstand may issue triggers at all (R187, R190, R195, R464). -/
def Dev.mayTrigger (d : Dev) : Bool :=
  d.on 0x83 BND_CTRL_EN && d.on 0x83 BND_BUF_ACTIVE_VALID && d.devState == stScanning

/-! ### Angle samples -/

/-- An angle sample of a loop reaches Bandstand (R187, R188): one with feedback lost is kept for headers and not used for
crossings; one taken while no trigger may be issued triggers none later; two samples against the frame's direction before its last line
end the frame. -/
def Dev.bndSample (loop : Nat) (s : Sample) (d : Dev) : Dev :=
  let d := { d with bnd := { d.bnd with samples := SMap.put none d.bnd.samples loop (some s) } }
  if d.fld 0x83 BND_CTRL_SRC != loop || s.fbLost then d
  else
    let b := d.bnd
    let back := d.inFrame && (if d.on 0x83 BND_LINE_REV then 0 < s.omega else s.omega < 0)
    let n := if back then b.against + 1 else 0
    let d := { d with bnd := { b with prevAngle := b.lastAngle, lastAngle := some s.angle, against := n,
                                       fresh := if d.mayTrigger && d.fld 0x83 BND_CTRL_TRIG_MODE != 1 then some s else none } }
    if 2 ≤ n && d.fld 0x83 BND_CTRL_TRIG_MODE != 1 then (d.endFrame false).raise 0x83 6 else d

/-- The line that the latest sample triggers next and whether a frame begins there, with its direction (R187, R188). -/
def Dev.crossing (d : Dev) : Option (Nat × Bool × Bool) :=
  let m := d.activeBuf
  let n := hdrN m
  match d.bnd.fresh with
  | none => none
  | some s =>
    if d.inFrame then
      let l := d.fld 0x83 BND_LINE_LINE
      if d.on 0x83 BND_LINE_REV then
        if 0 < l && s.angle ≤ lineAngle m (l - 1) then some (l - 1, false, true) else none
      else if l + 1 < n && lineAngle m (l + 1) ≤ s.angle then some (l + 1, false, false) else none
    else
      match d.bnd.prevAngle with
      | none => none
      | some p =>
        if (hdrBidir m || !hdrReverse m) && 0 < s.omega && p < lineAngle m 0 && lineAngle m 0 ≤ s.angle
        then some (0, true, false)
        else if (hdrBidir m || hdrReverse m) && s.omega < 0 && lineAngle m (n - 1) < p && s.angle ≤ lineAngle m (n - 1)
        then some (n - 1, true, true)
        else none

/-- Whether the latest sample reaches the line after `line` in the frame's direction too (R187). -/
def Dev.reachesMore (d : Dev) (line : Nat) (rev : Bool) : Bool :=
  let m := d.activeBuf
  match d.bnd.fresh with
  | none => false
  | some s =>
    if rev then 0 < line && s.angle ≤ lineAngle m (line - 1)
    else line + 1 < hdrN m && lineAngle m (line + 1) ≤ s.angle

/-! ### Schedule of a slot -/

/-- BLANK in ns (R181, BND.BANK_BLANK). -/
def Dev.blankNs (d : Dev) : Nat := max 50 (min (d.fld 0x83 BND_BANK_BLANK_BLANK) 800)

/-- G: the longest gate of the four terraces with its offset, in LSB (R181). -/
def Dev.gateSpan (d : Dev) : Nat :=
  (List.range 4).foldl (fun g t =>
    let p := orgPage t
    max g (64 * min (d.fld p ORG_GATE_OFFSET) 8192 + d.beffNow t * binLsb (d.fld p ORG_CTRL_BIN_W))) 0

/-- The emitter-board derating factor of bank b (R194), the throttle's apart. -/
def Dev.derate (d : Dev) (b : Nat) : Nat :=
  if d.bit 0x84 BND_THERM_MAP (24 + b) then 256
  else
    let lo := d.fld 0x84 BND_DERATE_DERATE_MIN
    match d.tsReading (d.fld 0x84 ⟨BND_THERM_MAP, 3 * b + 2, 3 * b⟩) with
    | none => lo
    | some t =>
      let td := signed 16 (d.fld 0x84 BND_THERM_LIM_T_DERATE)
      if td < t then max (256 - d.fld 0x84 BND_DERATE_SLOPE * (t - td).toNat / 10) lo else 256

/-- The factor in use: the smaller of f_b and the throttle's (R194, R400). -/
def Dev.factor (d : Dev) (b : Nat) : Nat :=
  if d.throttled && d.on 0x06 THM_CTRL_DERATE_EN then min (d.derate b) (d.fld 0x06 THM_THROTTLE_CFG_DERATE)
  else d.derate b

/-- Bank b is thermally off by its reading now, by T_MAX now and the map and hysteresis of the latest fetch (R194, Table 08-7). -/
def Dev.tooHot (d : Dev) (b : Nat) : Bool :=
  let max_ := signed 16 (d.fld 0x84 BND_THERM_LIM_T_MAX)
  if bitAt d.bnd.thermMap.toNat (24 + b) then false
  else match d.tsReading (bitsOf d.bnd.thermMap (3 * b + 2) (3 * b)) with
    | none => true
    | some t => max_ < t || (d.bit 0x84 BND_DERATE_STATUS b && max_ - (d.bnd.hyst : Int) < t)

/-- A bank's thermal shut-off, evaluated before every fire and for every bank at a fetch (R194). -/
def Dev.thermalOff (b : Nat) (d : Dev) : Dev :=
  let was := d.bit 0x84 BND_DERATE_STATUS b
  let off := d.tooHot b
  let d := d.setFld 0x84 ⟨BND_DERATE_STATUS, b, b⟩ off.toNat
  if off && !was then d.raise 0x84 5 else d

/-- The scheduled segments of entry e (R178, R181, R185). -/
def Dev.planOf (d : Dev) (e : Nat) : List PlanSeg :=
  let m := d.activeBuf
  (List.range 64).filterMap (fun s =>
    let w := segWord m e s
    let pw := (w / 256) % 16
    if pw = 0 then none
    else some ⟨s, pw + 1, d.fld 0x84 BND_GSCALE_GSCALE * (w % 256) * d.factor (s / 8) / 256, w / 4096 + 1⟩)

/-- Shots of a bank: the largest N_s of its scheduled segments (R181). -/
def bankShotsOf (segs : List PlanSeg) (b : Nat) : Nat :=
  (segs.filter (fun s => s.seg / 8 == b)).foldl (fun n s => max n s.shots) 0

/-- R182: with more than one bank fire in the slot, G is shorter than I_bank. -/
def Dev.gridError (d : Dev) (e : Nat) : Bool :=
  let segs := d.planOf e
  let banks := (List.range 8).filter (fun b => 0 < bankShotsOf segs b)
  let shots := segs.foldl (fun n s => max n s.shots) 0
  let pw := segs.foldl (fun n s => max n s.pw) 0
  1 < shots * banks.length && d.gateSpan < 40 * pw + Config.ns d.blankNs

/-- A segment is masked (R192). -/
def Dev.segMasked (d : Dev) (s : Nat) : Bool :=
  let off := 4 * (s / 32)
  let fault := d.bit 0x84 (BND_SEG_FAULT_LO + off) (s % 32)
  d.bit 0x84 (BND_SEG_MASK_LO + off) (s % 32)
    || (fault && (d.on 0x84 BND_DIAG_CFG_AUTO_MASK || (SMap.get {} d.bnd.diag s).wasOver))

/-- The masked segments as a set. -/
def Dev.maskedSet (d : Dev) : Nat := (List.range 64).foldl (fun n s => if d.segMasked s then n + 2 ^ s else n) 0

/-- Masks set during the slot withhold at once; those cleared hold until the next fetch (Table 08-7). -/
def Dev.noteMasks (d : Dev) : Dev :=
  match d.bnd.acq with
  | some a => d.setAcq { a with masked := (List.range 64).foldl (fun n s => if d.segMasked s then withBit n s else n) a.masked }
  | none => d

/-- Load the sinks (R185). -/
def loadSinks (segs : List PlanSeg) : SMap Nat := segs.foldl (fun m s => SMap.put 0 m s.seg s.code) []

/-- What a fetch latches for later decisions (R181, R194, R400, Table 08-7): the bank factors, BLANK, the sensor map and the hysteresis; no
select is raised for the slot yet, and a probe is over. -/
def Dev.fetchLatch (d : Dev) : Dev :=
  { d with bnd := { d.bnd with
      factors := (List.range 8).map d.factor, blank := d.blankNs, thermMap := d.reg 0x84 BND_THERM_MAP, hyst := d.fld 0x84 BND_DERATE_HYST
      sel := none, selFor := none, probing := none } }

/-- The fetch at 300 ns after the trigger (R181, R185, R194, R203): schedule, sinks, plan and readback; a frame-end swap that waited for it follows. -/
def Dev.fetch (d : Dev) : Dev :=
  match d.bnd.acq with
  | none => d
  | some a =>
    if a.fetched || d.now < a.trigAt + Config.ns 300 then d
    else
      let segs := d.planOf a.line
      let banks := (List.range 8).filter (fun b => 0 < bankShotsOf segs b)
      let shots := segs.foldl (fun n s => max n s.shots) 0
      let pw := segs.foldl (fun n s => max n s.pw) 0
      let blank := d.blankNs
      let iBank := 40 * pw + Config.ns blank
      let g := d.gateSpan
      let lShot := g + (banks.length - 1) * iBank + 256 * a.dmax
      let grid := a.trigAt + Config.ns (1200 + (blank - 400))
      let a := { a with
        fetched := true, grid := grid, shots := shots, banks := banks
        bankShots := banks.map (bankShotsOf segs), masked := d.maskedSet, iBank := iBank, lShot := lShot, pwMax := pw
        segs := if a.listen then [] else segs }
      let d := d.fetchLatch
      let fmin := (List.range 8).foldl (fun n b => min n (d.derate b)) 256
      let d := d.setFld 0x84 BND_DERATE_STATUS_F_MIN (min 255 fmin)
      let d := (List.range 8).foldl (fun (d : Dev) b => d.thermalOff b) d
      let der := decide (fmin < 256)
      let d := if der && !d.bnd.derated then d.raise 0x84 4 else d
      let d := { d with bnd := { d.bnd with acq := some a, sinks := loadSinks segs, derated := der }
                        slots := d.slots.map (fun (s : SlotRec) => if s.num == a.num then { s with shots := shots } else s) }
      let d := if a.rbMissing && !a.segs.isEmpty then d.countMissing else d
      let d := if a.rb.any (fun x => !a.listen && (match a.segs.find? (fun s => s.seg == x.1) with
          | some s => s.code != x.2.1 || s.pw != x.2.2
          | none => x.2.1 != 0))
        then (d.bump 0x85 GTH_PLAN_MISMATCH).raise 0x85 7 else d
      if d.bnd.swapDue then Dev.swapBuffers { d with bnd := { d.bnd with swapDue := false } } else d

/-- When bank b's last gate of the slot closes: by the settings read for it, else by those of the moment; its last fire command
when no gate opens (R42, Table 01-7 step 7). -/
def Dev.lastClose (d : Dev) (a : Acq) (b : Nat) : Nat :=
  let i := a.pos b
  let f := a.fireAt (a.bankShots.getD i 0 - 1) i
  let x := d.getBank b
  let g := match x.gate with | some g => if x.sched && x.fireAt == f then g else d.gateFor b f | none => d.gateFor b f
  if d.down (b / 2) || g.closes ≤ g.opens then f else g.closes

/-- The slot in acquisition is not over: its entry is not fetched, a gate is open, or its last gate is still to
close (R28). A trigger after the last gate has closed, but before 1.2 us + S x L_shot (Table 01-6 step 8, R32), starts its slot, as R28
names the gate alone (DESIGN CHOICE, log entry 77). -/
def Dev.acqBusy (d : Dev) : Bool :=
  match d.bnd.acq with
  | none => false
  | some a => !a.fetched || a.banks.any (fun b => decide (d.now < d.lastClose a b)) || (List.range 8).any (fun b => (d.getBank b).gateOpen)

/-- The end of a slot's acquisition, and of a probe: the sinks go to 0 mA (R176, R195). -/
def Dev.slotOver (d : Dev) : Dev :=
  match d.bnd.acq with
  | some a =>
    if a.fetched && a.shots ≤ a.nextShot && !d.acqBusy then { d with bnd := { d.bnd with
      acq := none, sinks := [], gapDone := a.listen
      gapFrom := a.banks.foldl (fun n b => max n (d.lastClose a b)) (a.trigAt + Config.ns 300)
      firedSet := if a.shots = 0 then 0 else a.firedCnt.foldl (fun n e => if e.2 == a.shots then withBit n e.1 else n) 0 } }
    else d
  | none =>
    match d.bnd.probing with
    | some e => if e ≤ d.now then { d with bnd := { d.bnd with sinks := [], probing := none } } else d
    | none => d

/-! ### Outputs (R175, R176, R183) -/

/-- The reference current that REF_SINK_s draws: the sink's code, none under a boundary instruction (R176, R494). -/
def Dev.refSink (d : Dev) (s : Nat) : Nat := if d.boundary then 0 else SMap.get 0 d.bnd.sinks s

/-- FIRE_c is high. -/
def Dev.fireHigh (d : Dev) (c : Nat) : Bool := d.bnd.pulses.any (fun p => p.seg % 8 == c && p.rise ≤ d.now && d.now < p.fall)

/-- BANK_SEL_b is high. -/
def Dev.bankSelHigh (d : Dev) (b : Nat) : Bool :=
  match d.bnd.sel with
  | some (x, rise, fall) => x == b && rise ≤ d.now && d.now < fall
  | none => false

/-- The trim of column c in LSB (BND.FIRE_TRIM). -/
def Dev.fireTrim (d : Dev) (c : Nat) : Nat := d.fld 0x84 ⟨BND_FIRE_TRIM + 4 * (c / 4), 8 * (c % 4) + 7, 8 * (c % 4)⟩

/-- The pulse of segment s for the fire command at `f` (Table 08-4 steps 2 to 4). -/
def Dev.pulseOf (d : Dev) (f : Nat) (s : PlanSeg) : Pulse :=
  let rise := f + d.fireTrim (s.seg % 8)
  { seg := s.seg, code := s.code, pw := s.pw, rise := rise, fall := rise + 40 * s.pw
    sampleAt := rise + min (40 * max 1 (d.fld 0x84 BND_DIAG_CFG_SAMPLE)) (40 * s.pw - 40) }

/-- The next bank position of the shot in progress that is scheduled in it. -/
def Acq.nextPos (a : Acq) : Option Nat :=
  (List.range a.banks.length).find? (fun i => a.nextBank ≤ i && a.nextShot - 1 < a.bankShots.getD i 0)

/-- The next bank fire of the slot, as shot and position. -/
def Acq.nextFire (a : Acq) : Option (Nat × Nat) :=
  match (if a.nextShot = 0 then none else a.nextPos) with
  | some i => some (a.nextShot - 1, i)
  | none =>
    ((List.range a.banks.length).find? (fun i => a.nextShot < a.bankShots.getD i 0)).map (fun i => (a.nextShot, i))

/-- As far as is known now, segment s of the plan fires in shot k: a verdict not yet formed counts as granted (R183, R186). -/
def Dev.mayFire (d : Dev) (a : Acq) (k : Nat) (s : PlanSeg) : Bool :=
  k < s.shots && d.enableCause.isNone && d.on 0x83 BND_CTRL_EN && !a.disabled && !bitAt a.masked s.seg && !d.tooHot (s.seg / 8)
    && a.verdict s.seg k != some .inhibited

/-- Step 1 of Table 08-4: the select of the next bank fire is decided when it would rise, if that is not after `t`. -/
def Dev.selDue (t : Nat) (d : Dev) : Dev :=
  match d.bnd.acq with
  | none => d
  | some a =>
    match (if a.fetched then a.nextFire else none) with
    | none => d
    | some (k, i) =>
      let f := a.fireAt k i
      let rise := f + 40 * a.pwMax + Config.ns 8 - a.iBank
      if t < rise || d.bnd.selFor == some (k, i) then d
      else
        let d := d.advance rise
        let b := a.banks.getD i 0
        let on := a.segs.any (fun s => s.seg / 8 == b && d.mayFire a k s)
        { d with bnd := { d.bnd with
            selFor := some (k, i), sel := if on then some (b, rise, f + 40 * a.pwMax + Config.ns 4) else none } }

/-! ### Shots and fires -/

/-- SHOT_START (R29, R183): shot k starts on the grid; its banks are scheduled with their fire commands. A gate of the shot before that
closes at this very time closes first. -/
def Dev.shotStart (d : Dev) : Dev :=
  match d.bnd.acq with
  | none => d
  | some a =>
    let k := a.nextShot
    if !a.fetched || a.shots ≤ k || d.now < a.grid + k * a.lShot then d
    else
      let d := (List.range 8).foldl (fun (d : Dev) b => (d.gateCloseNow b).readEarly d.now b) d
      let d := d.setAcq { a with nextShot := k + 1, nextBank := 0 }
      (List.range 8).foldl (fun d b =>
        let x := d.getBank b
        let i := a.pos b
        let on := a.banks.contains b && k < a.bankShots.getD i 0
        let f := a.fireAt k i
        d.setBank b { x with sched := on, fireAt := f, fireDt := d.timeOf f, passed := false, anyFired := false,
                             gated := match x.early with | some e => e.gated | none => x.gatedAt d.now
                             gate := if on then x.early else none, early := none, gateOpen := false, gateDone := false
                             winOpen := false, accepted := none }) d

/-- A segment's verdict from its sense voltage and the anode voltage, in µV (R191, Table 08-6): 1 OK, 2 OPEN, 3 SHORT,
4 OVER, 5 NODRIVE. -/
def Dev.classify (d : Dev) (code isense vf : Nat) : Nat :=
  let e := d.fld 0x84 BND_ISNS_SCALE_SCALE * code * 1000
  let lim (f : Fld) : Nat := e * d.fld 0x84 f
  let i := isense * 64 * 2550 * 256
  if lim BND_DIAG_CFG_HI < i then 4
  else if vf < 1000 * d.fld 0x84 BND_VF_THR_VF_SHORT && lim BND_DIAG_CFG_LO ≤ i then 3
  else if i < lim BND_DIAG_CFG_LO && 1000 * d.fld 0x84 BND_VF_THR_VF_OPEN ≤ vf then 2
  else if i < lim BND_DIAG_CFG_LO then 5
  else 1

/-- Take a verdict (R192, R199): state, run, fault bit and event, and the masking that follows. A run that is past FAULT_N with the fault
bit clear (FAULT_N lowered, or the bit cleared) latches at its next verdict (DESIGN CHOICE, log entry 35). -/
def Dev.takeVerdict (seg v : Nat) (probe : Bool) (d : Dev) : Dev :=
  let f : Fld := ⟨BND_SEG_STATE + 4 * (seg / 8), 4 * (seg % 8) + 3, 4 * (seg % 8)⟩
  let d := d.setFld 0x84 f (v + 8 * probe.toNat)
  let g := SMap.get {} d.bnd.diag seg
  let run := if v == 1 then 0 else if g.kind == v then g.run + 1 else 1
  let g := { g with run := run, kind := v, at_ := some d.now, wasOver := if v == 1 then g.wasOver else v == 4, lateOnce := false }
  let d := { d with bnd := { d.bnd with diag := SMap.put {} d.bnd.diag seg g } }
  let ev := if v == 2 then 0 else if v == 3 then 1 else if v == 4 then 2 else 3
  let n := max 1 (d.fld 0x84 BND_DIAG_CFG_FAULT_N)
  if v == 1 then d
  else if v == 4 || run == n || (n < run && !d.bit 0x84 (BND_SEG_FAULT_LO + 4 * (seg / 32)) (seg % 32)) then
    ((d.setBit 0x84 (BND_SEG_FAULT_LO + 4 * (seg / 32)) (seg % 32)).raise 0x84 ev).noteMasks
  else d

/-- Diagnose one fired segment; an OVER verdict re-debits its windows (R191, R192, R204). -/
def Dev.diagnose (f e isense vf : Nat) (probe : Bool) (s : PlanSeg) (d : Dev) : Dev :=
  let v := d.classify s.code isense vf
  let d := if v == 4 then { d with gth := d.gth.redebit s.seg f e (d.budget false 0) } else d
  d.takeVerdict s.seg v probe

/-- One segment at its fire command (R186, R208, R209): inhibited, withheld or fired. An incomplete verdict counts in LATE_CNT whatever
cause comes first in INHIBIT_LAST. Answers whether it fires. -/
def Dev.fireOne (k : Nat) (s : PlanSeg) (d : Dev) : Dev × Bool :=
  match d.bnd.acq with
  | none => (d, false)
  | some a =>
    match a.verdict s.seg k with
    | some .inhibited => (d, false)
    | none =>
      let d := (d.inhibitShot s.seg k (d.enableCause.getD causeLate) 0).bump 0x85 GTH_LATE_CNT
      (if d.gth.lateOnce then d else Dev.raise 0x85 6 { d with gth := { d.gth with lateOnce := true } }, false)
    | some v =>
      match d.enableCause with
      | some c => (d.inhibitShot s.seg k c 0, false)
      | none =>
        if d.gth.missing || v == .held then (d.inhibitShot s.seg k causeMissing 0, false)
        else if !d.on 0x83 BND_CTRL_EN || a.disabled || bitAt a.masked s.seg || d.bit 0x84 BND_DERATE_STATUS (s.seg / 8) then
          (d.bump 0x84 BND_WITHHELD, false)
        else (d, true)

/-- One more shot in which each of these segments fired (R346). -/
def Acq.noteFired (fired : List PlanSeg) (a : Acq) : Acq :=
  { a with firedCnt := fired.foldl (fun m (s : PlanSeg) => SMap.put 0 m s.seg (SMap.get 0 m s.seg + 1)) a.firedCnt }

/-- BANK_FIRE (R183, R186, R191): the next bank of the shot fires its granted segments; `isense` are the eight columns'
sense voltages and `vf` the anode voltage at the sample points, in µV. With none to fire the bank's select falls at once. The START
window opens (R67). -/
def Dev.bankFire (isense : List Nat) (vf : Nat) (d : Dev) : Dev :=
  match d.bnd.acq with
  | none => d
  | some a =>
    match a.nextPos with
    | none => d
    | some i =>
      let k := a.nextShot - 1
      let b := a.banks.getD i 0
      let f := a.fireAt k i
      if a.nextShot = 0 || d.now < f then d
      else
        let d := (d.setAcq { a with nextBank := i + 1 }).dtestPulse 1 (2 + b)
        let d := d.thermalOff b
        let segs := a.segs.filter (fun s => s.seg / 8 == b && k < s.shots)
        let (d, fired) := segs.foldl (fun (x : Dev × List PlanSeg) s =>
          let (d, go) := x.1.fireOne k s
          (d, if go then x.2 ++ [s] else x.2)) (d, [])
        let x := d.getBank b
        let d := d.setBank b { x with passed := true, anyFired := !fired.isEmpty, winOpen := true, accepted := none }
        let d := { d with bnd := { d.bnd with
          pulses := fired.map (d.pulseOf f), sel := if fired.isEmpty then none else d.bnd.sel
          acq := d.bnd.acq.map (Acq.noteFired fired) } }
        fired.foldl (fun d s => d.diagnose (d.getBank b).fireDt (d.planEnergy a s) (isense.getD (s.seg % 8) 0) vf false s) d

/-! ### Probes -/

/-- Probe period in LSB (BND.PROBE.PERIOD). -/
def Dev.probePeriod (d : Dev) : Nat := Config.ms (max 100 (min (d.fld 0x84 BND_PROBE_PERIOD) 1000))

/-- The time of a segment's verdict, 0 before its first. -/
def Dev.verdictAt (d : Dev) (s : Nat) : Nat := match (SMap.get {} d.bnd.diag s).at_ with | some a => a + 1 | none => 0

/-- The segment a probe takes (R193): unmasked, no verdict within the period, oldest verdict, lowest number. -/
def Dev.probeDue (d : Dev) : Option Nat :=
  let due := (List.range 64).filter (fun s => !d.segMasked s && (d.verdictAt s = 0 || d.verdictAt s + d.probePeriod ≤ d.now + 1))
  match due with
  | [] => none
  | s :: ss => some (ss.foldl (fun best s => if d.verdictAt s < d.verdictAt best then s else best) s)

/-- Whether a probe may be prepared from `from_` on, in the gap after the last gate has closed (R193). -/
def Dev.probeGap (d : Dev) (from_ : Nat) : Bool :=
  d.on 0x84 BND_PROBE_EN && d.devState == stScanning && d.on 0x83 BND_CTRL_EN && !d.bnd.gapDone && d.bnd.acq.isNone
    && d.bnd.gapFrom ≤ from_ && from_ + Config.us 2 ≤ d.bnd.lastTrig + d.bnd.interval && d.probeDue.isSome

/-- From the setting of a probe's sink to its fire edge: BANK_SEL rises 300 ns later, BLANK - 8 ns before the fire (R193, Table 08-4). -/
def Dev.probeLead (d : Dev) : Nat := Config.ns (292 + d.bnd.blank)

/-- PROBE_FIRE (R193): the due segment fires alone for 2 ns, judged as a one-segment shot, its sink having been set probeLead before. -/
def Dev.probeFire (isense vf : Nat) (d : Dev) : Dev :=
  match d.probeDue with
  | none => d
  | some s =>
    if d.now < d.probeLead || !d.probeGap (d.now - d.probeLead) then d
    else
      let d := { d with bnd := { d.bnd with gapDone := true } }
      let p : PlanSeg := ⟨s, 4, d.fld 0x84 BND_PROBE_AMP * 51 * d.bnd.factors.getD (s / 8) 256 / 256, 1⟩
      let e := d.energy s p.code 20
      let f := d.edgeTime
      let cancel (d : Dev) : Dev := d.bump 0x84 BND_PROBE_CANCEL
      match d.enableCause with
      | some c => cancel (d.inhibit s c 0)
      | none =>
        if d.gth.missing then cancel (d.inhibit s causeMissing 0)
        else match d.refusedBy s f e false with
          | some (c, w) => cancel (d.inhibit s c w)
          | none =>
            let d := Dev.thermalOff (s / 8) { d with gth := d.gth.debit s d.edgeTime f e }
            if d.bit 0x84 BND_DERATE_STATUS (s / 8) then d.bump 0x84 BND_WITHHELD
            else
              let b := d.bnd
              let over_ := d.now + 160 + Config.ns 4
              let d := { d with bnd := { b with
                sinks := SMap.put 0 b.sinks s p.code, pulses := [d.pulseOf d.now p], probing := some over_
                sel := some (s / 8, d.now + Config.ns 8 - Config.ns b.blank, over_) } }
              (d.bump 0x84 BND_PROBE_CNT).diagnose f e isense vf true p

/-- What a trigger, skipped or not, does to the gap (R193): before the fire edge of the probe in preparation it cancels it; the interval
since the trigger before is noted. -/
def Dev.gapTrigger (d : Dev) : Dev :=
  let hit := d.probeGap d.bnd.gapFrom
  let d := if hit then d.bump 0x84 BND_PROBE_CANCEL else d
  { d with bnd := { d.bnd with
      interval := if d.bnd.lastTrig = 0 then 0 else d.now - d.bnd.lastTrig, lastTrig := d.now, gapDone := d.bnd.gapDone || hit } }

/-- PROBE_LATE (R193): a verdict older than twice the period. -/
def Dev.probeLate (s : Nat) (d : Dev) : Dev :=
  let g := SMap.get {} d.bnd.diag s
  match g.at_ with
  | some a =>
    if d.on 0x84 BND_PROBE_EN && d.devState == stScanning && a + 2 * d.probePeriod < d.now && !g.lateOnce then
      Dev.raise 0x84 6 { d with bnd := { d.bnd with diag := SMap.put {} d.bnd.diag s { g with lateOnce := true } } }
    else d
  | none => d

/-! ### Loads, READY, EN, SYNC swaps -/

/-- A write of 1 to BND.BUF.LOAD (R180). -/
def Dev.patternLoad (m : List Host.Cell) (d : Dev) : Dev :=
  let base := 4096 * d.fld 0x83 BND_LOAD_SRC_BASE
  if d.on 0x83 BND_BUF_LOADING then d
  else if d.on 0x83 BND_BUF_READY || Config.sramBytes < base + 524288 then
    (d.setFld 0x83 BND_BUF_LOAD_ERR 1).raise 0x83 5
  else
    let d := (d.setFld 0x83 BND_BUF_LOADING 1).setFld 0x83 BND_BUF_INACTIVE_VALID 0
    { d with bnd := { d.bnd with loading := some (imageSlice m base), loadBase := base } }

/-- PATTERN_LOAD_DONE (R180): the copy completes. An image the host changed meanwhile gives an unspecified copy. -/
def Dev.patternLoaded (m : List Host.Cell) (d : Dev) : Dev :=
  match d.bnd.loading with
  | none => d
  | some img =>
    let same := decide (imageSlice m d.bnd.loadBase = img)
    let (img, d) := if same then (img, d) else d.unspecified 524288
    let d := { d with bnd := if d.on 0x83 BND_BUF_ACTIVE then { d.bnd with buf0 := img, loading := none }
                             else { d.bnd with buf1 := img, loading := none } }
    let d := (d.setFld 0x83 BND_BUF_LOADING 0).setReg 0x83 BND_LOAD_CRC
      (crc32c ((List.range 524288).map (fun i => (SMap.get 0 img i).toNat)))
    if hdrN img = 0 || hdrPitch img = 0 then (d.setFld 0x83 BND_BUF_LOAD_ERR 1).raise 0x83 5
    else ((d.setFld 0x83 BND_BUF_LOAD_ERR 0).setFld 0x83 BND_BUF_INACTIVE_VALID 1).raise 0x83 4

/-- A write of BND.BUF.READY (R180, R190). -/
def Dev.readyWrite (v : Bool) (d : Dev) : Dev :=
  if !v then d.setFld 0x83 BND_BUF_READY 0
  else if d.on 0x83 BND_BUF_LOADING || d.on 0x83 BND_BUF_LOAD_ERR || !d.on 0x83 BND_BUF_INACTIVE_VALID then d
  else (d.setFld 0x83 BND_BUF_READY 1).firstSwap

/-- What a write of BND.CTRL does, `old` before it (R189, R190, R195, R196): the frame in progress ends when EN falls or the
source changes; a crossing not yet issued is not issued; the slot in acquisition fires no more once EN has been written 0. -/
def Dev.bndCtrlWritten (old : Word) (d : Dev) : Dev :=
  let new := d.reg 0x83 BND_CTRL
  let ends := (bitAt old.toNat 0 && !bitAt new.toNat 0) || bitsOf old 3 1 != bitsOf new 3 1
  let d := if new.toNat % 2 = 0 then { d with bnd := { d.bnd with acq := d.bnd.acq.map (fun (a : Acq) => { a with disabled := true }) } } else d
  let d := if ends then
      let d := { d with bnd := { d.bnd with fresh := none, lastAngle := none, prevAngle := none } }
      d.endFrame false
    else d
  (d.firstSwap).timedCheck

/-- SYNC_SWAP (R190): the oldest swap request falls due at T_e + SYNC_LATENCY; one that finds READY = 0 is a miss, and one that falls on a
frame end whose swap still waits is the same swap. -/
def Dev.syncSwap (d : Dev) : Dev :=
  match d.bnd.swapReqs with
  | [] => d
  | te :: rest =>
    if d.edgeTime < te + Config.ns (100 * max 10 (d.fld 0x83 BND_SYNC_LATENCY_LAT)) then d
    else
      let d := { d with bnd := { d.bnd with swapReqs := rest } }
      if !d.swapOnSync then d
      else if !d.on 0x83 BND_BUF_READY then (d.bump 0x83 BND_SWAP_MISS).raise 0x83 3
      else if d.bnd.swapDue then d
      else
        let d := d.endFrame true
        match d.bnd.acq with
        | some a => if a.fetched then d.swapBuffers else { d with bnd := { d.bnd with swapDue := true } }
        | none => d.swapBuffers

/-- A swap request at device time T_e (R143, R190). -/
def Dev.swapRequest (te : Nat) (d : Dev) : Dev := { d with bnd := { d.bnd with swapReqs := d.bnd.swapReqs ++ [te] } }

/-- SYNC_IN_EDGE (R142, R143): a swap request on a standalone device or the leader, which also sends an EVENT frame. On a
follower, or in loop mode, the line carries sync frames. -/
def Dev.syncInEdge (d : Dev) : Dev :=
  if d.isFollower || d.inLoop then d
  else
    let te := d.edgeTime
    let d := d.swapRequest te
    if d.isLeader then d.eventFrameSend te else d

/-- SYNC_EVENT_FRAME_RECEIVE (R143). -/
def Dev.eventFrameReceive (p : Nat) (crcOk : Bool) (d : Dev) : Dev :=
  if !d.isFollower then d
  else if !crcOk then d.syncCrcError
  else d.swapRequest (d.fullTime p)

end Sys2Proof.Machine
end

