-- ==== Sys2Proof/Machine/Fountain.lean ====
section
/-! DEFINITION. Fountain: the eight regulation loops, their samples, updates, states, loss of feedback, angle samples and
outputs (Steering and regulation loops, R222 to R243, R462). -/
namespace Sys2Proof.Machine

abbrev ftnOffSt : Nat := 0
abbrev ftnOpen : Nat := 1
abbrev ftnClosed : Nat := 2
abbrev ftnHold : Nat := 3

/-- FTN.STATE.STATE of loop l. -/
def Dev.loopState (d : Dev) (l : Nat) : Nat := d.fld (ftnPage l) FTN_STATE_STATE

/-- A field of loop l. -/
def Dev.lf (d : Dev) (l : Nat) (f : Fld) : Nat := d.fld (ftnPage l) f

/-- A signed Q15 field of loop l. -/
def Dev.lq (d : Dev) (l : Nat) (f : Fld) : Int := signed 16 (d.lf l f)

/-- A field of which values above 32,767 act as 32,767 (R242). -/
def Dev.lu (d : Dev) (l : Nat) (f : Fld) : Int := (min (d.lf l f) 32767 : Nat)

/-- The device is in SAFE_HOLD or FAULT (R232). -/
def Dev.isSafe (d : Dev) : Bool := d.devState == stSafeHold || d.devState == stFault

/-- A loop that the device state or its terrace's gating keeps in OFF (R462). -/
def Dev.loopHeld (d : Dev) (l : Nat) : Bool :=
  let st := d.devState
  st == stReset || st == stBoot || (st == stStandby && ((2 ≤ l && l ≤ 5) || l == 7)) || (2 ≤ l && l ≤ 5 && d.gated (l - 2))

/-- The ramped set-point in 1/256 LSB (R237). -/
def Dev.spR (d : Dev) (l : Nat) : Int := signed 24 (d.lf l FTN_SP_RAMP_SP_R)

/-- RAMPING follows SP_r and the target (R242). -/
def Dev.rampFlag (l : Nat) (d : Dev) : Dev :=
  d.setFld (ftnPage l) FTN_STATE_RAMPING (decide (d.spR l ≠ 256 * d.lq l FTN_SP_TARGET)).toNat

/-- Set SP_r. -/
def Dev.setSpR (l : Nat) (x : Int) (d : Dev) : Dev :=
  (d.setFld (ftnPage l) FTN_SP_RAMP_SP_R (toBits 24 x)).rampFlag l

/-! ### Outputs (R239) -/

/-- High counts of the PWM for the present output and period. -/
def Dev.pwmCounts (d : Dev) (l : Nat) : Nat × Nat :=
  let p := max 2 (d.lf l FTN_PWM_PERIOD_PERIOD)
  let sel := d.lf l FTN_CTRL_OUT_SEL
  (if sel == 1 || sel == 2 then d.lf l FTN_OUT_U * p / 32768 else 0, p)

/-- Apply an output: the DAC code, and the first PWM period where none runs (DAC_LATCH, R239). -/
def Dev.applyOut (l : Nat) (u : Int) (d : Dev) : Dev :=
  let d := d.setFld (ftnPage l) FTN_OUT_U (clampI 0 32767 u).toNat
  let x := d.getLoop l
  let sel := d.lf l FTN_CTRL_OUT_SEL
  let x := { x with dac := if sel == 0 || sel == 2 then 2 * d.lf l FTN_OUT_U else 0 }
  let (h, p) := d.pwmCounts l
  let x := if x.pwmAt.isNone then { x with pwmAt := some d.now, pwmHigh := h, pwmPeriod := p } else x
  d.setLoop l x

/-- PWM_PERIOD_START (R239): at the end of a period the latest high time and period apply. -/
def Dev.pwmStart (l : Nat) (d : Dev) : Dev :=
  let x := d.getLoop l
  match x.pwmAt with
  | none => d
  | some a =>
    if a + 256 * x.pwmPeriod ≤ d.now then
      let (h, p) := d.pwmCounts l
      d.setLoop l { x with pwmAt := some (a + 256 * x.pwmPeriod), pwmHigh := h, pwmPeriod := p }
    else d

/-- What LOOP_PWM_l shows: high counts of its period, as PWM_POL makes them; low before polarity without a period. -/
def Dev.pwmPin (d : Dev) (l : Nat) : Nat × Nat :=
  let x := d.getLoop l
  let p := if x.pwmAt.isNone then max 2 (d.lf l FTN_PWM_PERIOD_PERIOD) else x.pwmPeriod
  (if d.on (ftnPage l) FTN_CTRL_PWM_POL then p - x.pwmHigh else x.pwmHigh, p)

/-! ### States (R231, R232, R462) -/

/-- Tell Gatehouse, and for loops 0 and 1 Bandstand, the loop's states (Table 10-2 step 4). -/
def Dev.loopTell (l : Nat) (d : Dev) : Dev :=
  let h := d.loopState l == ftnHold
  let fb := d.on (ftnPage l) FTN_STATE_FB_LOST
  if l == 7 then d.loop7Hold h
  else if 2 ≤ l then d
  else
    let d := match SMap.get none d.bnd.samples l with
      | some s => { d with bnd := { d.bnd with samples := SMap.put none d.bnd.samples l (some { s with fbLost := fb, hold := h }) } }
      | none => d
    if d.fld 0x85 GTH_CFG_SRC == l then d.motion fb h false else d

/-- Enter a loop state. -/
def Dev.setLoopState (l st : Nat) (d : Dev) : Dev := (d.setFld (ftnPage l) FTN_STATE_STATE st).loopTell l

/-- OFF (R231, R238, R239): pins at 0 V, no samples, ω starts afresh. -/
def Dev.loopOff (l : Nat) (d : Dev) : Dev :=
  let x := d.getLoop l
  let d := d.setLoop l { i := x.i, acc := x.acc, df := x.df, yPrev := x.yPrev, idx := x.idx, updated := x.updated }
  let d := (d.setFld (ftnPage l) FTN_STATE_FB_LOST 0).setFld (ftnPage l) FTN_OUT_U 0
  let d := if l < 2 then
      let b := { d.bnd with samples := SMap.put none d.bnd.samples l none }
      let b := if d.fld 0x83 BND_CTRL_SRC == l then { b with lastAngle := none, prevAngle := none, fresh := none } else b
      { d with bnd := b }
    else d
  d.setLoopState l ftnOffSt

/-- HOLD_SAFE_ENTER (R232): OUT_SAFE, counted, told to Gatehouse and Bandstand. A CLOSE = 0 that was written before still opens the loop at
its next sample (R231), unless the device state holds it. -/
def Dev.holdEnter (l : Nat) (device : Bool) (d : Dev) : Dev :=
  let x := d.getLoop l
  let d := d.setLoop l { x with reopen := !device && !d.on (ftnPage l) FTN_CTRL_CLOSE, starting := false }
  let d := if device then d.setFld (ftnPage l) FTN_LOSS_CAUSE_DEVICE 1 else d
  let d := d.applyOut l (d.lu l FTN_OUT_SAFE_VALUE)
  let d := d.setLoopState l ftnHold
  (d.bump (ftnPage l) FTN_HOLD_CNT).raise (ftnPage l) 0

/-- A loop follows EN and the device state (R231, R232, R462). `entry` tells an entry to a device state from a write of EN or
a restored terrace. -/
def Dev.loopSync (entry : Bool) (d : Dev) (l : Nat) : Dev :=
  let st := d.loopState l
  let x := d.getLoop l
  if !d.on (ftnPage l) FTN_CTRL_EN || d.loopHeld l then
    if st != ftnOffSt || x.starting then d.loopOff l else d
  else if d.isSafe && st != ftnHold then
    if st == ftnOffSt && !entry then d.setLoop l { x with starting := true } else d.holdEnter l true
  else if st == ftnOffSt && !x.starting then d.setLoopState l ftnOpen
  else d

/-- The loops follow a device state that has just been entered (R232, R462); a loop already in HOLD_SAFE takes the cause DEVICE too. -/
def Dev.loopsDevice (d : Dev) : Dev :=
  (List.range 8).foldl (fun d l =>
    let d := if d.isSafe then d.setLoop l { d.getLoop l with reopen := false } else d
    let d := if d.isSafe && d.loopState l == ftnHold && !d.loopHeld l then d.setFld (ftnPage l) FTN_LOSS_CAUSE_DEVICE 1 else d
    d.loopSync true l) d

/-! ### Writes (R223, R233, R236, R240) -/

/-- A write of RWO fields that is refused because the loop is CLOSED (R233). -/
def Dev.coefIgnored (l : Nat) (d : Dev) : Dev := (d.bump (ftnPage l) FTN_COEF_IGNORED).raise (ftnPage l) 2

/-- The word a register takes from a write `w`, of which the bits `mask` are RWO, and whether the write is counted as
ignored (R233, R242). -/
def Dev.rwoWrite (d : Dev) (l off : Nat) (mask w : Word) : Word × Bool :=
  let old := d.reg (ftnPage l) off
  let keep := (w &&& ~~~mask) ||| (old &&& mask)
  if l < 2 && d.locked (ftnPage l) then (keep, false)
  else if d.loopState l == ftnClosed then (keep, true)
  else (w, false)

/-- A write of FTN.CTRL (R223, R231, R240): its parts one by one; `close` is false for a write through the alias window that leaves CLOSE
alone (R441). -/
def Dev.ftnCtrlWrite (l : Nat) (w : Word) (close : Bool) (d : Dev) : Dev :=
  let p := ftnPage l
  let old := d.reg p FTN_CTRL
  let (n, ign) := d.rwoWrite l FTN_CTRL 0x70 w
  let d := if ign && n &&& 0x70 != w &&& 0x70 then d.coefIgnored l else d
  let other := d.loopState (1 - l)
  let rej := close && l < 2 && bitAt w.toNat 1 && (other == ftnClosed || other == ftnHold)
  let n := if rej then (n &&& ~~~(2 : Word)) ||| (old &&& 2) else n
  let d := d.setReg p FTN_CTRL (n &&& 0x73)
  let d := if rej then (d.setFld p FTN_STATE_CLOSE_REJ 1).raise p 3
    else if close && bitAt w.toNat 1 then d.setFld p FTN_STATE_CLOSE_REJ 0 else d
  let d := if close && !bitAt w.toNat 1 && d.loopState l == ftnHold && !d.isSafe then
      d.setLoop l { d.getLoop l with reopen := true } else d
  if bitAt old.toNat 0 != bitAt w.toNat 0 then d.loopSync false l else d

/-- The target clamped to SP_MIN and SP_MAX (R236). -/
def Dev.spClamp (d : Dev) (l : Nat) (x : Int) : Int := min (max x (d.lq l FTN_SP_LIM_SP_MIN)) (d.lq l FTN_SP_LIM_SP_MAX)

/-- FTN_SP_WRITE (R236). -/
def Dev.spWrite (l : Nat) (w : Word) (d : Dev) : Dev :=
  let p := ftnPage l
  let x := signed 16 w.toNat
  let c := d.spClamp l x
  let d := (d.setFld p FTN_SP_TARGET (toBits 16 c)).setFld p FTN_STATE_SP_CLAMPED (decide (c ≠ x)).toNat
  (if c ≠ x then d.raise p 5 else d).rampFlag l

/-- A change of FTN.SP_LIM re-clamps the stored target (R236). -/
def Dev.spLimWritten (l : Nat) (d : Dev) : Dev :=
  (d.setFld (ftnPage l) FTN_SP_TARGET (toBits 16 (d.spClamp l (d.lq l FTN_SP_TARGET)))).rampFlag l

/-! ### Sampling (R223 to R227) -/

/-- What a TS source gives (R225, R226). -/
def Dev.tempMeas (d : Dev) (n : Nat) : Meas :=
  if 7 < n then .missing
  else match d.tsAge n with
    | none => .missing
    | some a =>
      if Config.ms 20 < a then .missing
      else .temp (signed 16 (d.fld 0x06 (THM_READ_T.plus (4 * n)))) (d.on 0x06 (THM_READ_FAULT.plus (4 * n)))

/-- At the loop's next sample time what is still outstanding is missing (R226). -/
def Dev.overdue (l : Nat) (d : Dev) : Dev :=
  let x := d.getLoop l
  let n := (x.samples.filter (fun s => s.fb == Meas.pending)).length
  let d := d.setLoop l { x with samples := x.samples.map (fun (s : LoopSample) =>
    { s with fb := if s.fb == Meas.pending then .missing else s.fb
             ang := if s.ang == some Meas.pending then some .missing else s.ang }) }
  (List.range n).foldl (fun d _ => d.countMiss l) d

/-- State changes at a sample time (R231, R232). -/
def Dev.sampleState (l : Nat) (d : Dev) : Dev :=
  let x := d.getLoop l
  let st := d.loopState l
  let close := d.on (ftnPage l) FTN_CTRL_CLOSE
  if x.starting then
    if d.isSafe then d.holdEnter l true else (d.setLoop l { x with starting := false }).setLoopState l ftnOpen
  else if st == ftnClosed && !close then d.setLoopState l ftnOpen
  else if st == ftnHold && x.reopen && !d.isSafe then (d.setLoop l { x with reopen := false }).setLoopState l ftnOpen
  else if st == ftnOpen && close then (d.setLoop l { x with first := true, iEvent := false }).setLoopState l ftnClosed
  else d

/-- Request a SAR input for a loop; a reserved input is missing (R224, R226). Answers whether Gatehouse lost a request. -/
def Dev.loopRequest (l : Nat) (ang : Bool) (sar input : Nat) (d : Dev) : Dev × Bool :=
  let tag := (d.getLoop l).idx
  if 28 ≤ input then (d.measArrive l ang tag .missing, false)
  else d.urgent sar (if ang then whoAngle l else whoFeedback l) tag input

/-- LOOP_SAMPLE_TIME (R224, R226, R227, R231): at the loop's sample time the urgent requests are issued. -/
def Dev.loopSample (l : Nat) (d : Dev) : Dev :=
  let x := d.getLoop l
  let per := 8000 * d.loopPeriod l
  if (d.loopState l == ftnOffSt && !x.starting) || x.sampledAt == some d.now || d.edgeTime % per != (50000 * l) % per then d
  else
    let d := (d.overdue l).sampleState l
    let x := d.getLoop l
    let sep := l < 2 && d.on (ftnPage l) FTN_SRC_ANG_SEP
    let ts := d.on (ftnPage l) FTN_SRC_FB_TS
    let inp := d.lf l FTN_SRC_FB_IN
    let s : LoopSample := ⟨x.idx + 1, d.now, .pending, if sep then some .pending else none⟩
    let d := d.setLoop l { x with idx := x.idx + 1, samples := x.samples ++ [s], sampledAt := some d.now }
    let d := if ts then d.measArrive l false s.idx (d.tempMeas inp) else (d.loopRequest l false (d.lf l FTN_SRC_FB_SAR) inp).1
    if sep then (d.loopRequest l true (d.lf l FTN_SRC_ANG_SAR) (d.lf l FTN_SRC_ANG_IN)).1 else d

/-! ### The engine (R228 to R230, R234 to R238) -/

/-- A sample's measurement has arrived or is missing (R228). -/
def LoopSample.ready (s : LoopSample) : Bool :=
  s.fb != Meas.pending && (s.fb == Meas.missing || s.ang != some Meas.pending)

/-- The sample the engine serves next: of those that are ready the earliest, ties to the lower loop (R228). -/
def Dev.nextServed (d : Dev) : Option (Nat × LoopSample) :=
  (List.range 8).foldl (fun best l =>
    match (d.getLoop l).samples.find? LoopSample.ready with
    | none => best
    | some s => match best with
      | none => some (l, s)
      | some (_, b) => if s.at_ < b.at_ then some (l, s) else best) none

/-- The loss conditions of Table 10-4 after a valid measurement `y`, with their runs (R234). -/
def Dev.lossValid (l : Nat) (y : Int) (fault : Bool) (d : Dev) : Dev × Nat :=
  let x := d.getLoop l
  let rng := if y < d.lq l FTN_RANGE_RNG_LO || d.lq l FTN_RANGE_RNG_HI < y then x.rngRun + 1 else 0
  let m := d.lf l FTN_DETECT_FRZ_M
  let (frz, fy) :=
    if m = 0 || d.lf l FTN_OUT_U = 0 then (0, x.frzY)
    else if x.frzRun = 0 || (d.lf l FTN_DETECT_FRZ_N : Int) < (y - x.frzY).natAbs then (1, y)
    else (x.frzRun + 1, x.frzY)
  let loss := fault.toNat + 2 * (decide (m ≠ 0 ∧ m ≤ frz)).toNat
    + 4 * (decide (max 1 (d.lf l FTN_DETECT_RNG_M) ≤ rng)).toNat
  (d.setLoop l { x with missRun := 0, rngRun := rng, frzRun := frz, frzY := fy }, loss)

/-- LOSS_CONDITION (R234, R235): the conditions that hold now; a CLOSED loop enters HOLD_SAFE. -/
def Dev.setLoss (l loss : Nat) (d : Dev) : Dev :=
  let p := ftnPage l
  let was := (d.getLoop l).loss
  let d := d.setLoop l { d.getLoop l with loss := loss }
  let d := d.setReg p FTN_LOSS_CAUSE (d.reg p FTN_LOSS_CAUSE ||| BitVec.ofNat 32 loss)
  let d := d.setFld p FTN_STATE_FB_LOST (decide (loss ≠ 0)).toNat
  let d := if loss ≠ 0 && was == 0 then d.raise p 1 else d
  if loss ≠ 0 && d.loopState l == ftnClosed then d.holdEnter l false else d

/-- A missing measurement: the loop makes no update (R226, R234). -/
def Dev.updateMissing (l : Nat) (d : Dev) : Dev :=
  let x := d.getLoop l
  let n := x.missRun + 1
  let d := d.setLoop l { x with missRun := n }
  let loss := if max 1 (d.lf l FTN_DETECT_MISS_MAX) ≤ n then x.loss ||| 8 else x.loss
  (d.setLoss l loss).loopTell l

/-- SP_RAMP_STEP and SP_REACHED (R237). -/
def Dev.rampStep (l : Nat) (d : Dev) : Dev :=
  let goal := 256 * d.lq l FTN_SP_TARGET
  let s := d.spR l
  let s' := if s < goal then min (s + (max 1 (d.lf l FTN_RAMP_RAMP_UP) : Nat)) goal
    else if goal < s then max (s - (max 1 (d.lf l FTN_RAMP_RAMP_DN) : Nat)) goal else s
  let d := d.setSpR l s'
  if s ≠ goal && s' == goal then d.raise (ftnPage l) 4 else d

/-- The PID update of R229 and R230 on measurement y; the first CLOSED update takes its initial values (R231). Answers the
error. -/
def Dev.pid (l : Nat) (y : Int) (d : Dev) : Dev × Int :=
  let p := ftnPage l
  let sh := d.lf l FTN_SHAPE_SH
  let lim := d.lu l FTN_SHAPE_ICLAMP * 32768
  let first := (d.getLoop l).first
  let d := if first then d.setSpR l (256 * y) else d.rampStep l
  let x := d.getLoop l
  let e := if first then 0 else clampI (-32768) 32767 (d.spR l / 256 - y)
  let dy := clampI (-32768) 32767 (y - x.yPrev)
  let df := if first then 0 else
    clampI (-(2 ^ 23 - 1)) (2 ^ 23 - 1) (x.df + d.lu l FTN_GAIN_D_DALPHA * (256 * dy - x.df) / 32768)
  let i0 := if first then d.lu l FTN_OUT_MAN_VALUE * 2 ^ (15 - sh) else x.i + d.lq l FTN_GAIN_PI_KI * e
  let i := clampI (-lim) lim i0
  let acc := d.lq l FTN_GAIN_PI_KP * e + i - d.lq l FTN_GAIN_D_KD * df / 256
  let v := clampI (-32768) 32767 (acc * 2 ^ sh / 32768)
  let u := min (max v (d.lu l FTN_OUT_LIM_OUT_MIN)) (d.lu l FTN_OUT_LIM_OUT_MAX)
  let d := d.setLoop l { x with i := i, acc := acc, df := df, first := false, iEvent := x.iEvent || i != i0 }
  let d := d.setFld p FTN_STATE_I_CLAMPED (decide (i ≠ i0)).toNat
  let d := if i ≠ i0 && !x.iEvent then d.raise p 6 else d
  (d.applyOut l u, e)

/-- ANGLE_SAMPLE (R238): angle and ω of a loop 0 or 1 sample with the code c, to Bandstand and Gatehouse. -/
def Dev.angleSample (l c idx : Nat) (d : Dev) : Dev :=
  let p := ftnPage l
  let x := d.getLoop l
  let a := ((c : Int) - (d.lf l FTN_ANG_ZERO_ZERO : Int)) * signed 24 (d.lf l FTN_ANG_SCALE_SCALE) / 256
  let al := d.lf l FTN_OMEGA_CFG_OMEGA_ALPHA
  let alpha : Int := if al = 0 || 32767 < al then 32767 else al
  let om := match x.angle with
    | none => 0
    | some (a0, i0) =>
      let raw := (a - a0) * 100 / ((d.loopPeriod l * max 1 (idx - i0) : Nat) : Int)
      clampI (-(2 ^ 23)) (2 ^ 23 - 1) (x.omega + alpha * (raw - x.omega) / 32768)
  let d := d.setLoop l { x with angle := some (a, idx), omega := om }
  let d := (d.setRegN p FTN_ANGLE (toBits 32 a)).setFld p FTN_OMEGA_OMEGA (toBits 24 om)
  let fb := d.on p FTN_STATE_FB_LOST
  let h := d.loopState l == ftnHold
  (d.bndSample l { angle := a, omega := om, fbLost := fb, hold := h }).gthSample l fb h

/-- What the angle of a sample is formed from (R226, R238). -/
def LoopSample.angleCode (s : LoopSample) : Option Nat :=
  match s.ang with
  | none => match s.fb with | .code c _ => some c | _ => none
  | some (.code c _) => some c
  | some _ => none

/-- A valid measurement's update (R229 to R238). Its samples carry the measurement's flags and HOLD to Belvedere (R284). -/
def Dev.updateValid (l : Nat) (s : LoopSample) (y : Int) (fault : Bool) (fl : Nat) (d : Dev) : Dev :=
  let p := ftnPage l
  let d := if s.ang == some Meas.missing then d.countMiss l else d
  let (d, loss) := d.lossValid l y fault
  let d := d.setLoss l loss
  let d := match s.fb with | .code c _ => d.setFld p FTN_MEAS_CODE c | _ => d
  let d := d.setFld p FTN_MEAS_Y (toBits 16 y)
  let st := d.loopState l
  let (d, e) : Dev × Option Int :=
    if st == ftnClosed then let (d, e) := d.pid l y; (d, some e)
    else if st == ftnOpen then
      (((d.setFld p FTN_STATE_I_CLAMPED 0).setSpR l (256 * y)).applyOut l (d.lu l FTN_OUT_MAN_VALUE), none)
    else ((d.setFld p FTN_STATE_I_CLAMPED 0).applyOut l (d.lu l FTN_OUT_SAFE_VALUE), none)
  let d := d.setLoop l { d.getLoop l with yPrev := y, updated := d.devTime }
  let d := match (if l < 2 then s.angleCode else none) with
    | some c => d.angleSample l c s.idx
    | none => d.loopTell l
  let fl := fl + (if d.loopState l == ftnHold then 32 else 0)
  let d := match e with | some e => d.sampleTo (0x30 + l) (e * 256) fl d.devTime | none => d
  (d.sampleTo (0x38 + l) ((d.lf l FTN_OUT_U : Int) * 256) fl d.devTime).sampleTo (0x48 + l) (y * 256) fl d.devTime

/-- LOOP_UPDATE (R228): the engine serves the sample that is next. -/
def Dev.loopUpdate (d : Dev) : Dev :=
  match d.nextServed with
  | none => d
  | some (l, s) =>
    let x := d.getLoop l
    let d := d.setLoop l { x with samples := x.samples.filter (fun (z : LoopSample) => z.idx != s.idx) }
    match s.fb with
    | .code c f => d.updateValid l s ((c / 2 : Nat) : Int) (bitAt f 1 || bitAt f 2) f
    | .temp y f => d.updateValid l s y f 0
    | _ => d.updateMissing l

/-- The snapshot of a loop's mailbox (R243). -/
def Dev.ftnSnapshot (l sel : Nat) (d : Dev) : List Word :=
  let x := d.getLoop l
  let w (i : Int) : Word := BitVec.ofNat 32 (toBits 32 i)
  if sel == 0 then [w x.i, w (x.i / 2 ^ 32)]
  else if sel == 1 then [w x.acc, w (x.acc / 2 ^ 32)]
  else if sel == 2 then [w x.df, w (if l < 2 then x.omega else 0)]
  else if sel == 3 then [BitVec.ofNat 32 x.updated, BitVec.ofNat 32 (x.updated / 2 ^ 32)]
  else []

end Sys2Proof.Machine
end

