-- ==== Sys2Proof/Machine/Pumphouse.lean ====
section
/-! DEFINITION. Pumphouse: SAR results, excitation and chopping, the sigma-delta lists, notch windows, clamps, wire checks,
Gatehouse's charge check (Auxiliary analogue front end, R244 to R266; R215). -/
namespace Sys2Proof.Machine

/-! ### Clamps and wire checks (R245, R249, R250) -/

def Dev.clampSpans (d : Dev) (i : Nat) : List (Nat × Option Nat) := SMap.get [] d.pmp.clamp i
def Dev.toneSpans (d : Dev) (i : Nat) : List (Nat × Option Nat) := SMap.get [] d.pmp.tone i

/-- A clamp of input i conducts: its bit, with PMP_CLAMP when it was 0 (R245, R262). -/
def Dev.clampBit (i : Nat) (d : Dev) : Dev :=
  if d.bit 0x8E PMP_CLAMP i then d else (d.setBit 0x8E PMP_CLAMP i).raise 0x8E 0

/-- CLAMP_CONDUCTION (R245): conduction on an input begins or ends. -/
def Dev.clampConduct (i : Nat) (begins : Bool) (d : Dev) : Dev :=
  let s := d.clampSpans i
  if begins then
    let s := if spanIsOpen s then s else spanOpen s d.now
    Dev.clampBit i { d with pmp := { d.pmp with clamp := SMap.put [] d.pmp.clamp i s } }
  else { d with pmp := { d.pmp with clamp := SMap.put [] d.pmp.clamp i (spanClose s d.now) } }

/-- After a write of PMP.CLAMP an input that still conducts is set again (R245). -/
def Dev.clampWritten (d : Dev) : Dev :=
  (List.range 28).foldl (fun d i => if spanIsOpen (d.clampSpans i) then d.clampBit i else d) d

/-- WIRE_CHECK_START (R249): at its slot in the 20 ms cycle an input's tone starts; 1 µA after a result above 100 kΩ until
one falls below 80 kΩ. -/
def Dev.wireStart (i : Nat) (d : Dev) : Dev :=
  if !d.on 0x8E PMP_CTRL_WIRE_EN || !d.on 0x91 (PMP_IN_CFG_WIRE_EN.plus (4 * i)) || d.pmp.check.isSome || 28 ≤ i
      || d.edgeTime % Config.ms 20 != 50000000 * i then d
  else
    let z := d.fld 0x91 (PMP_WIRE_Z_Z.plus (4 * i))
    let valid := d.on 0x91 (PMP_WIRE_Z_VALID.plus (4 * i))
    let low := valid && (if d.on 0x91 (PMP_WIRE_Z_RANGE.plus (4 * i)) then 80000 ≤ z else 100000 < z)
    { d with pmp := { d.pmp with check := some (2 * i + low.toNat, d.now)
                                 tone := SMap.put [] d.pmp.tone i (spanOpen (d.toneSpans i) d.now) } }

/-- WIRE_CHECK_DONE (R249): one tone period, 488.3 µs, after its start the check's impedance in Ω is written and compared. A
response below 10 Ω has no stated result (log entry 11). -/
def Dev.wireDone (z : Nat) (d : Dev) : Dev :=
  match d.pmp.check with
  | none => d
  | some (k, a) =>
    if d.now < a + 39062500 then d
    else
      let i := k / 2
      let (x, d') := d.draw
      let (z, d) := if z < 10 then (x % 2 ^ 24, d') else (if 1000000 < z then 0xFFFFFF else z, d)
      let d := { d with pmp := { d.pmp with check := none, tone := SMap.put [] d.pmp.tone i (spanClose (d.toneSpans i) d.now) } }
      let d := d.setRegN 0x91 (PMP_WIRE_Z + 4 * i) (2 ^ 31 + 2 ^ 24 * (k % 2) + z)
      let out := z < d.fld 0x91 (PMP_WIRE_LIM_LO.plus (4 * i)) || 16 * d.fld 0x91 (PMP_WIRE_LIM_HI.plus (4 * i)) < z
      if out then
        if d.bit 0x8E PMP_WIRE_FAULT i then d else (d.setBit 0x8E PMP_WIRE_FAULT i).raise 0x8E 2
      else d.clrBit 0x8E PMP_WIRE_FAULT i

/-! ### Excitation (R247, R248) -/

def Dev.getExc (d : Dev) (n : Nat) : Exc := SMap.get {} d.pmp.exc n
/-- What EXC_n drives (R247): nothing (0 V) in MODE 0 and 3; a voltage in µV; a current in µA; in the negative phase with the sign
reversed. -/
inductive ExcDrive where
  | off
  | volts (uv : Int)
  | amps (ua : Int)
deriving DecidableEq, Repr

def Dev.excDrive (d : Dev) (n : Nat) : ExcDrive :=
  let f (x : Fld) : Nat := d.fld 0x90 (x.plus (4 * n))
  let sign : Int := if d.bit 0x90 PMP_EXC_STATUS n then -1 else 1
  if f PMP_EXC_MODE == 1 then .volts (sign * (1000000 + 6000 * (min 250 (f PMP_EXC_LEVEL) : Nat)))
  else if f PMP_EXC_MODE == 2 then .amps (sign * (10 * f PMP_EXC_LEVEL : Nat))
  else .off

def Dev.setExc (d : Dev) (n : Nat) (x : Exc) : Dev := { d with pmp := { d.pmp with exc := SMap.put {} d.pmp.exc n x } }

/-- Settling of bridge n starts (R248). -/
def Dev.excSettle (n : Nat) (d : Dev) : Dev :=
  let x := d.getExc n
  let us := d.fld 0x90 (PMP_EXC_SETTLE.plus (4 * n))
  let kept := x.settle.filter (fun s => d.now ≤ s.2 + Config.us 100)
  d.setExc n { x with settle := kept ++ [(d.now, d.now + Config.us us)] }

/-- The phase of bridge n from now on (R248). -/
def Dev.excPhase (n : Nat) (neg : Bool) (d : Dev) : Dev :=
  let x := d.getExc n
  if neg then (d.setExc n { x with neg := spanOpen x.neg d.now }).setBit 0x90 PMP_EXC_STATUS n
  else (d.setExc n { x with neg := spanClose x.neg d.now }).clrBit 0x90 PMP_EXC_STATUS n

/-- Bridge n was in its negative phase at `t`. -/
def Dev.negAt (d : Dev) (n t : Nat) : Bool :=
  (d.getExc n).neg.any (fun s => s.1 ≤ t && (match s.2 with | some e => t < e | none => true))

/-- A write of PMP.EXC_n (R248, Table 11-6): applied at once, settling starts; without chopping the phase is positive and the conversions
count afresh. -/
def Dev.excWritten (n : Nat) (d : Dev) : Dev :=
  let d := d.excSettle n
  if d.on 0x90 (PMP_EXC_CHOP.plus (4 * n)) then d
  else
    let d := d.setExc n { d.getExc n with convs := 0 }
    if d.bit 0x90 PMP_EXC_STATUS n then d.excPhase n false else d

/-- EXC_STATUS as it reads: SETTLING while a span of SETTLE runs (R265). -/
def Dev.excStatus (d : Dev) : Word :=
  let s := (List.range 4).foldl (fun a n => if (d.getExc n).settle.any (fun s => s.1 ≤ d.now && d.now < s.2) then a + 2 ^ n else a) 0
  setBits (d.reg 0x90 PMP_EXC_STATUS) 7 4 s

/-- CHOP_REVERSAL (R248): after every CHOP_N conversions of the bridge its polarity reverses. -/
def Dev.chop (n : Nat) (d : Dev) : Dev :=
  let x := d.getExc n
  if !d.on 0x90 (PMP_EXC_CHOP.plus (4 * n)) then d
  else if x.convs + 1 < max 1 (d.fld 0x90 (PMP_EXC_CHOP_N.plus (4 * n))) then d.setExc n { x with convs := x.convs + 1 }
  else
    let d := d.setExc n { x with convs := 0 }
    (d.excPhase n (!d.bit 0x90 PMP_EXC_STATUS n)).excSettle n

/-! ### SAR results (R255, R256) -/

/-- Code of a single-ended voltage in nV (R255). -/
def ainCode (v : Int) : Nat := if v < 0 then 0 else min (v.toNat * 65536 / 2500000000) 65535

/-- Code of a bridge's differential voltage in nV through its amplifier, with V_EXC in µV where the mode is ratiometric (R247). -/
def Dev.bridgeCode (d : Dev) (n : Nat) (v : Int) (vexc : Nat) : Nat :=
  let g : Int := 2 ^ d.fld 0x91 (PMP_IN_CFG_GAIN.plus (4 * (24 + n)))
  let ratio := d.fld 0x90 (PMP_EXC_MODE.plus (4 * n)) == 1 && d.on 0x90 (PMP_EXC_RATIO.plus (4 * n))
  let (num, den) : Int × Int :=
    if ratio && vexc ≠ 0 then (1250000000 * vexc + g * v * 2500000, vexc) else (1250000000 + g * v, 1)
  let c := num * 65536 / (2500000000 * den)
  if num < 0 then 0 else min c.toNat 65535

/-- The i-th sample's raw code, whether it is a settling sample and whether it was taken in the negative phase (R248, R255). -/
def Dev.sampleCode (d : Dev) (j : SarJob) (i : Nat) (x : Int × Nat) : Nat × Bool × Bool :=
  if j.input < 24 then (ainCode x.1, false, false)
  else
    let n := j.input - 24
    let at_ := j.start + Config.ns (200 * (i + 1))
    (d.bridgeCode n x.1 x.2, (d.getExc n).settle.any (fun s => s.1 ≤ at_ && at_ < s.2), d.negAt n at_)

/-- What of a raw code enters the sum (R248). -/
def chopCode (neg : Bool) (c : Nat) : Nat := if neg then min (65536 - c) 65535 else c

/-- A result goes to its requester, raw and with its flags, unless it carries SETTLE (R248, R250, R255). The fault indication of R225 is the
result's CLAMP flag or the input's WIRE_FAULT bit, as R250 has it. -/
def Dev.sarAnswer (who tag c fl : Nat) (settle : Bool) (d : Dev) : Dev :=
  if who == whoRoutine || settle then d
  else if who == whoGatehouse then d.checkResult c
  else if who % 2 == 1 then d.measArrive ((who - 1) / 2) false tag (.code c fl)
  else d.measArrive ((who - 2) / 2) true tag (.code c fl)

/-- SAR_CONVERSION_DONE (R245, R248, R250, R255 to R259): the conversion of channel n ends on the samples given (voltage in nV,
and V_EXC in µV for a bridge). Answers nothing before its time. -/
def Dev.sarDone (n : Nat) (samples : List (Int × Nat)) (d : Dev) : Dev :=
  match (d.getSar n).job with
  | none => d
  | some j =>
    if d.now < j.start + j.time || samples.length != j.navg then d
    else
      let bridge := 24 ≤ j.input
      let codes := samples.mapIdx (fun i x => d.sampleCode j i x)
      let used := (codes.filter (fun c => !c.2.1)).map (fun c => chopCode c.2.2 c.1)
      let c : Nat := min (used.foldl (· + ·) 0 / 2 ^ j.shift) 65535
      let settle := codes.any (fun c => c.2.1)
      let neg := codes.any (fun c => c.2.2)
      let isOver := codes.any (fun c => c.1 == 0 || c.1 == 65535)
      let end_ := j.start + Config.ns (200 * j.navg)
      let clamp := spanOverlaps (d.clampSpans j.input) j.start end_
      let wire := d.bit 0x8E PMP_WIRE_FAULT j.input
      let fl := isOver.toNat * rfOvr + clamp.toNat * rfClamp + wire.toNat * rfWire + settle.toNat * rfSettle
        + neg.toNat * rfChopNeg + (if j.who == whoRoutine then 0 else rfUrgent)
      let time := coarse (d.edgeTime - (d.now - end_))
      let v : Int := (Int.ofNat c - 32768) * 256
      let d := (d.setSar n { d.getSar n with job := none }).setBusy (2 + n) false
      let d := (d.sampleTo j.input v (blvFlags fl) time).sampleTo (0x40 + n) v (blvFlags fl) time
      let d := if isOver then d.overRange j.input else d
      let d := if settle then Dev.bumpFirst 0x8E PMP_SETTLE_CNT 5 d else d
      let d := d.sarAnswer j.who j.tag c (blvFlags fl) settle
      let log := bitsOf j.cfg PMP_SAR_CFG_LOG.hi PMP_SAR_CFG_LOG.lo == 1
      let lin := if bitsOf j.cfg PMP_SAR_CFG_LIN_EN.hi PMP_SAR_CFG_LIN_EN.lo == 1
        then some (bitsOf j.cfg PMP_SAR_CFG_LIN.hi PMP_SAR_CFG_LIN.lo) else none
      let d := if (j.who == whoRoutine || log) && (!settle || d.on 0x8E PMP_CTRL_MARK_SETTLE) then
          d.resultOut (2 + n) (d.streamCh (2 + n)) (Int.ofNat c) v lin j.input (2 + n) fl 0 time
        else d
      let d := if bridge then d.chop (j.input - 24) else d
      if (d.getSar n).waiting then d.routineStart n else d

/-- GTH_CHARGE_CHECK (R214, R215, R256): every 10 µs; a check whose result is still outstanding, or which cannot be made, is
missing. -/
def Dev.chargeCheck (d : Dev) : Dev :=
  if d.edgeTime % Config.us 10 != (d.fld 0x8E PMP_CTRL_GTH_PHASE * 50000) % Config.us 10 then d
  else
    let d := if d.gth.waiting then d.checkMissing else d
    let n := d.fld 0x85 GTH_CFG_VSNS
    let inp := d.fld 0x90 (PMP_SAR_CFG_GTH_IN.plus (4 * n))
    if 28 ≤ inp then d.checkMissing
    else
      let (d, lost) := d.urgent n whoGatehouse 0 inp
      if lost then d.checkMissing else { d with gth := { d.gth with waiting := true } }

/-! ### Sigma-delta lists (R251 to R254, R267, R268) -/

def Dev.getSd (d : Dev) (m : Nat) : Sd := SMap.get {} d.pmp.sd m
def Dev.setSd (d : Dev) (m : Nat) (x : Sd) : Dev := { d with pmp := { d.pmp with sd := SMap.put {} d.pmp.sd m x } }

/-- Fields of an SD_LIST entry. -/
def sdF (w : Word) (f : Fld) : Nat := bitsOf w f.hi f.lo
def sdR (w : Word) : Nat := 2 ^ (min 5 (sdF w PMP_SD_LIST_DEC) + 3)
def sdN (w : Word) : Nat := min 5 (sdF w PMP_SD_LIST_ORDER + 3)
def sdCsc (w : Word) : Bool := sdF w PMP_SD_LIST_CSC_EN == 1
/-- Output period in LSB. -/
def sdPeriod (w : Word) : Nat := 4000 * sdR w

/-- Entry k of modulator m's list. -/
def Dev.sdEntry (d : Dev) (m k : Nat) : Word := d.reg 0x8F (PMP_SD_LIST + 64 * m + 4 * k)

/-- The first entry from k on that is not skipped, within 16 (R252). -/
def Dev.sdFind (d : Dev) (m : Nat) : Nat → Nat → Option Nat
  | 0, _ => none
  | fuel + 1, k =>
    let w := d.sdEntry m k
    if sdF w PMP_SD_LIST_IN < 24 then some k
    else d.sdFind m fuel (if sdF w PMP_SD_LIST_END == 1 then 0 else (k + 1) % 16)

/-- SD_INPUT_SWITCH (Table 11-2): the modulator leaves its entry and enters the next from k on. -/
def Dev.sdEnter (m k : Nat) (d : Dev) : Dev :=
  let d := match (d.getSd m).entry with
    | some w => if sdCsc w then d.cscUnbind (sdF w PMP_SD_LIST_CSC_CH) m else d
    | none => d
  match d.sdFind m 16 k with
  | none => d.setSd m {}
  | some j =>
    let disch := (d.fld 0x8F (PMP_SD_CTRL_DISCH.plus (4 * m)) + 1) * 100
    (d.setSd m { entry := some (d.sdEntry m j), release := d.now + Config.ns (120 + disch) }).setFld
      0x8F (PMP_SD_CTRL_POS.plus (4 * m)) j

/-- The modulator stops; its result in progress is abandoned (Table 11-6). -/
def Dev.sdStop (m : Nat) (d : Dev) : Dev :=
  let d := match (d.getSd m).entry with
    | some w => if sdCsc w then d.cscUnbind (sdF w PMP_SD_LIST_CSC_CH) m else d
    | none => d
  (d.setSd m {}).setBusy m false

/-- The modulator is to run. -/
def Dev.sdRuns (d : Dev) (m : Nat) : Bool := d.on 0x8E PMP_CTRL_EN && d.on 0x8F (PMP_SD_CTRL_EN.plus (4 * m))

/-- The modulator starts or stops with its enables (R261). -/
def Dev.sdFollow (was : Bool) (m : Nat) (d : Dev) : Dev :=
  if was == d.sdRuns m then d else if was then d.sdStop m else (d.sdEnter m 0).setBusy m true

/-- The only entry of its list, to Cascade, is never left (R268). -/
def Dev.sdStays (d : Dev) (m : Nat) (w : Word) : Bool :=
  sdCsc w && sdF w PMP_SD_LIST_END == 1 && d.fld 0x8F (PMP_SD_CTRL_POS.plus (4 * m)) == 0

/-- One result of the dwell has been delivered; after NRES of them the next entry is entered (R252, R268). -/
def Dev.sdDwell (m : Nat) (d : Dev) : Dev :=
  let x := d.getSd m
  match x.entry with
  | none => d
  | some w =>
    let n := sdF w PMP_SD_LIST_NRES
    if d.sdStays m w || x.count + 1 < (if n = 0 then 16 else n) then d.setSd m { x with count := x.count + 1 }
    else
      let k := d.fld 0x8F (PMP_SD_CTRL_POS.plus (4 * m))
      d.sdEnter m (if sdF w PMP_SD_LIST_END == 1 then 0 else (k + 1) % 16)

/-- The binding of a Cascade entry takes place at step 4 of Table 11-2 (R267). -/
def Dev.sdBindDue (d : Dev) (m : Nat) : Dev :=
  let x := d.getSd m
  match x.entry with
  | some w =>
    if sdCsc w && !x.bound && x.release ≤ d.now then
      (d.setSd m { x with bound := true }).cscBind (sdF w PMP_SD_LIST_CSC_CH) m (sdF w PMP_SD_LIST_IN)
    else d
  | none => d

/-- The bindings that are due, in the order of their step 4 (R267). -/
def Dev.sdBinds (d : Dev) : Dev :=
  if (d.getSd 1).release < (d.getSd 0).release then (d.sdBindDue 1).sdBindDue 0 else (d.sdBindDue 0).sdBindDue 1

/-- A sigma-delta result is delivered (R252, R257 to R259, R284). -/
def Dev.sdResult (m : Nat) (w : Word) (code : Int) (fl time : Nat) (d : Dev) : Dev :=
  let inp := sdF w PMP_SD_LIST_IN
  let fl := fl ||| (if d.bit 0x8E PMP_WIRE_FAULT inp then rfWire else 0)
  let d := d.sampleTo inp code (blvFlags fl) time
  let d := if bitAt fl 0 then d.overRange inp else d
  let lin := if sdF w PMP_SD_LIST_LIN_EN == 1 then some (sdF w PMP_SD_LIST_LIN) else none
  (d.resultOut m (d.streamCh m) code code lin inp m fl 0 time).sdDwell m

/-- T_n of a notch mode in LSB (R253). -/
def Dev.notchLen (d : Dev) (m mode : Nat) : Nat :=
  if mode == 1 then Config.ms 20
  else if mode == 2 then Config.us 16667
  else Config.us (max 100 (min (d.fld 0x8F (PMP_SD_NOTCH_NOTCH_T.plus (4 * m))) 100000))

/-- A notch window begins; an output whose period lies across its start has a part in it (R253, R254). -/
def Dev.notchBegin (m mode start : Nat) (d : Dev) : Dev :=
  let x := d.getSd m
  let w : Notch := { start := start, len := d.notchLen m mode }
  let w := match x.held with
    | some (c, a, f) =>
      let end_ := match x.entry with | some e => a + sdPeriod e | none => a
      if end_ ≤ start then w
      else { w with hi := c == 0x7FFFFF && bitAt f 0, lo := c == -0x800000 && bitAt f 0, flags := f, last := d.devTime }
    | none => w
  d.setSd m { x with notch := some w }

/-- NOTCH_WINDOW_END (R253, R254): the average of the window's outputs, each weighted by its time in the window; a saturated
output saturates it. How the average is rounded, and which way wins when outputs saturated both ways, is open. -/
def Dev.notchEnd (m : Nat) (d : Dev) : Dev :=
  let x := d.getSd m
  match x.entry, x.notch with
  | some w, some n =>
    let edge := n.start + n.len
    if d.now < edge then d
    else
      let sum := match x.held with
        | some (c, a, _) => n.sum + c * ((edge - max a n.start : Nat) : Int)
        | none => n.sum
      let (r, d) := d.draw
      let q := sum / (n.len : Int)
      let q := if sum % (n.len : Int) ≠ 0 && r % 2 = 1 then q + 1 else q
      let q := if n.hi && (!n.lo || r / 2 % 2 = 1) then 0x7FFFFF else if n.lo then -0x800000 else q
      let fl := if n.hi || n.lo then n.flags ||| rfOvr else n.flags
      let d := d.notchBegin m (sdF w PMP_SD_LIST_NOTCH) edge
      d.sdResult m w q fl n.last
  | _, _ => d

/-- SINC_OUTPUT (R251 to R254, R267 to R269): modulator m's filter delivers an output for an input at v nV; before step 5 of
Table 11-2 it is discarded. -/
def Dev.sincOutput (m : Nat) (v : Int) (d : Dev) : Dev :=
  let x := d.getSd m
  match x.entry with
  | none => d
  | some w =>
    let t := sdPeriod w
    if !d.on 0x01 PWR_STATUS_AUX_PLL_LOCKED || d.now ≤ x.release || (d.now - x.release) % t != 0
        || d.now < x.release + sdN w * t then d
    else
      let inp := sdF w PMP_SD_LIST_IN
      let c0 := (v - 1250000000) * 8388608 / 1250000000
      let c := clampI (-0x800000) 0x7FFFFF c0
      let a := d.now - sdN w * t
      let fl := (if c == c0 then 0 else rfOvr) + (if spanOverlaps (d.clampSpans inp) a d.now then rfClamp else 0)
        + (if spanOverlaps (d.toneSpans inp) a d.now then rfTone else 0)
      if sdCsc w then
        let ch := sdF w PMP_SD_LIST_CSC_CH
        let lin := if sdF w PMP_SD_LIST_LIN_EN == 1 then some (sdF w PMP_SD_LIST_LIN) else none
        let wire := if d.bit 0x8E PMP_WIRE_FAULT inp then rfWire else 0
        let off := !d.cscOn ch
        let d := if bitAt fl 0 then d.overRange inp else d
        let d := d.cscArrive ch m ⟨c, fl ||| wire, d.devTime, inp, lin⟩
        if off then d.sdDwell m else d
      else
        let mode := sdF w PMP_SD_LIST_NOTCH
        if mode = 0 then d.sdResult m w c fl d.devTime
        else
          let d := match x.notch with
            | none => d.notchBegin m mode d.now
            | some n => if n.start + n.len ≤ d.now then d.notchEnd m else d
          let x := d.getSd m
          match x.entry, x.notch with
          | some _, some n =>
            let sum := match x.held with
              | some (h, a, _) => n.sum + h * ((d.now - max a n.start : Nat) : Int)
              | none => n.sum
            let n := { n with sum := sum, hi := n.hi || (c == 0x7FFFFF && c != c0), lo := n.lo || (c == -0x800000 && c != c0)
                              flags := n.flags ||| fl, last := d.devTime }
            d.setSd m { x with held := some (c, d.now, fl), notch := some n }
          | _, _ => d

/-- CSC_OUTPUT_RELEASE with the dwells it counts toward: of each modulator that dwells on an entry to this channel (R268). -/
def Dev.cscOutput (c : Nat) (d : Dev) : Dev :=
  let on (m : Nat) : Bool := match (d.getSd m).entry with
    | some w => (d.getSd m).bound && sdF w PMP_SD_LIST_CSC_CH == c
    | none => false
  let (a, b) := (on 0, on 1)
  let (d, released) := d.cscRelease c
  let d := if released && a then d.sdDwell 0 else d
  if released && b then d.sdDwell 1 else d

/-- A write of PMP.CTRL (Table 11-6): EN to 0 stops the modulators and abandons routine conversions. -/
def Dev.pmpCtrlWritten (old : Word) (d : Dev) : Dev :=
  let was := bitAt old.toNat 0
  if was == d.on 0x8E PMP_CTRL_EN then d
  else
    let d := if was then (List.range 4).foldl (fun d n =>
        let s := d.getSar n
        match s.job with
        | some j => if j.who == whoRoutine then (d.setSar n {}).setBusy (2 + n) false else d.setSar n { s with waiting := false }
        | none => d.setSar n { s with waiting := false }) d
      else d
    (List.range 2).foldl (fun d m => d.sdFollow (was && d.on 0x8F (PMP_SD_CTRL_EN.plus (4 * m))) m) d

/-- A write of SD_CTRL_m (Table 11-6). -/
def Dev.sdCtrlWritten (m : Nat) (old : Word) (d : Dev) : Dev :=
  d.sdFollow (d.on 0x8E PMP_CTRL_EN && bitAt old.toNat 0) m

/-- A write of an SD_LIST entry: a modulator all of whose entries were skipped looks again (R252). -/
def Dev.sdListWritten (m : Nat) (d : Dev) : Dev :=
  if d.sdRuns m && (d.getSd m).entry.isNone then d.sdEnter m 0 else d

end Sys2Proof.Machine
end

