-- ==== Sys2Proof/Machine/Cores.lean ====
section
/-! DEFINITION. Pergola cores as the rest of the device sees them: start, stop, input queues, deliveries, host access to data
memory (Point-processing cores, R298, R302, R311 to R313, R317, R318). -/
namespace Sys2Proof.Machine

/-- PGL.STATUS.STATE codes. -/
abbrev pglStopped : Nat := 1
abbrev pglRunning : Nat := 2
abbrev pglInPop : Nat := 3
abbrev pglInSend : Nat := 4
abbrev pglTrapped : Nat := 5
abbrev pglParked : Nat := 6

/-- PGL.CTRL.MODE codes (Table 14-4). -/
abbrev modeNormal : Nat := 0
abbrev modeBoot : Nat := 1
abbrev modeTest : Nat := 2
abbrev modeRecovery : Nat := 3

/-- STATE of core k. -/
def Dev.coreState (d : Dev) (k : Nat) : Nat := d.fld (pglPage k) PGL_STATUS_STATE

/-- Set STATE of core k. -/
def Dev.setCoreState (k st : Nat) (d : Dev) : Dev := d.setFld (pglPage k) PGL_STATUS_STATE st

/-- MODE of core k. -/
def Dev.coreMode (d : Dev) (k : Nat) : Nat := d.fld (pglPage k) PGL_CTRL_MODE

/-- The core executes instructions or waits in POP or SEND. -/
def Dev.coreRuns (d : Dev) (k : Nat) : Bool :=
  d.coreState k == pglRunning || d.coreState k == pglInPop || d.coreState k == pglInSend

/-- PGL.QUEUE follows the input queue and the output buffer. -/
def Dev.coreLevels (k : Nat) (d : Dev) : Dev :=
  let x := d.getCore k
  (d.setFld (pglPage k) PGL_QUEUE_IN_LEVEL x.queue.length).setFld (pglPage k) PGL_QUEUE_OUT_LEVEL x.out.length

/-- Set a sticky flag of the core, with its event when it rises (Table 14-10): OVF0, OVF1, ZSTALE. -/
def Dev.coreFlag (k : Nat) (f : Fld) (d : Dev) : Dev :=
  if d.on (pglPage k) f then d
  else (d.setFld (pglPage k) f 1).raise (pglPage k) (if f == PGL_STATUS_ZSTALE then 2 else 1)

/-- A ZLD lands in its destination; one of a stale half writes 0 and sets ZSTALE (R308, R314). -/
def Dev.zldLand (k : Nat) (d : Dev) (j : ZldJob) : Dev :=
  let d := d.setCore k ((d.getCore k).writePhys j.dest (if j.stale then 0 else j.value))
  if j.stale then d.coreFlag k PGL_STATUS_ZSTALE else d

/-- Every ZLD in flight lands (R318). -/
def Dev.zldLandAll (k : Nat) (d : Dev) : Dev :=
  let js := (d.getCore k).zld
  js.foldl (Dev.zldLand k) (d.setCore k { d.getCore k with zld := [] })

/-- Count n discarded entries of a core (R313, R318). -/
def Dev.coreDiscard (k n : Nat) (d : Dev) : Dev :=
  if n = 0 then d else Dev.bumpFirst (pglPage k) PGL_DISCARD 3 (d.bumpBy (pglPage k) PGL_DISCARD (n - 1))

/-- A data word of a core, as a host access reads it, and its write. -/
def Dev.coreWord (d : Dev) (k w : Nat) : W24 := SMap.get 0 (d.getCore k).data w
def Dev.setCoreWord (k w : Nat) (v : W24) (d : Dev) : Dev := d.setCore k ((d.getCore k).putWord w v)

/-- Single-bit errors that core k's data memory has corrected (R301). -/
def Dev.corrects (k n : Nat) (d : Dev) : Dev :=
  if n = 0 then d else (d.bumpFirst (pglPage k) PGL_ECC_CORR 4).bumpBy (pglPage k) PGL_ECC_CORR (n - 1)

/-- A host or DMA read of a data word (R301, R302): a single-bit error is corrected and counted; of a double-bit error the value is open. -/
def Dev.readCoreWord (k w : Nat) (d : Dev) : W24 × Dev :=
  match SMap.get 0 (d.getCore k).ecc w with
  | 0 => (d.coreWord k w, d)
  | 1 => (d.coreWord k w, d.corrects k 1)
  | _ => let (n, d) := d.draw
         (BitVec.ofNat 24 n, d)

/-- A data word read from a core that ran reaches its initiator: it joins the words last read on the port. -/
def Dev.portAnswer (ini : Initiator) (ws : List Word) (d : Dev) : Dev :=
  match ini with
  | .control => { d with ports := { d.ports with ctrlOut := d.ports.ctrlOut ++ ws } }
  | .management => { d with ports := { d.ports with mgmtOut := d.ports.mgmtOut ++ ws } }
  | .jtag => { d with jtag := { d.jtag with access := ws.headD 0 } }
  | .dma => d

/-- One host or DMA access to a core's data memory is made (R302). -/
def Dev.accessDo (k : Nat) (d : Dev) (a : PglAccess) : Dev :=
  match a.value with
  | some v => d.setCoreWord k a.word v
  | none =>
    let (v, d) := d.readCoreWord k a.word
    d.portAnswer a.ini [v.zeroExtend 32]

/-- The n oldest waiting accesses of a core are made, in their order (R302). -/
def Dev.accessServe (k n : Nat) (d : Dev) : Dev :=
  let x := d.getCore k
  (x.access.take n).foldl (Dev.accessDo k) (d.setCore k { x with access := x.access.drop n })

/-- Every waiting access of a core is made: the core no longer uses its memory. -/
def Dev.accessNow (k : Nat) (d : Dev) : Dev := d.accessServe k (d.getCore k).access.length

/-- A host or DMA access to word w of a core's data memory (R302): at once, or it waits for the running core behind those that wait. -/
def Dev.pglAccess (ini : Initiator) (k w : Nat) (v : Option W24) (d : Dev) : Dev :=
  if 32 ≤ k || pglDataWords ≤ w || d.gated (4 + k / 8) then d
  else if d.coreState k == pglRunning then d.setCore k { d.getCore k with access := (d.getCore k).access ++ [⟨ini, w, v, 0⟩] }
  else d.accessDo k ⟨ini, w, v, 0⟩

/-- A core stops, traps or is parked: the rules of R318. -/
def Dev.coreStop (k st : Nat) (d : Dev) : Dev :=
  let d := d.zldLandAll k
  let x := d.getCore k
  let d := d.setCore k { x with queue := [], out := [], reps := [] }
  let d := ((d.setCoreState k st).coreDiscard k x.queue.length).coreLevels k
  d.accessNow k

/-- A core starts at an address (R318). -/
def Dev.coreStart (k entry : Nat) (d : Dev) : Dev :=
  let p := pglPage k
  let d := d.setFld p PGL_PC_PC entry
  let d := (d.setFld p PGL_STATUS_IPH 0).setFld p PGL_TRAP_VALID 0
  let d := d.setCore k { d.getCore k with slot := none, instrs := none, reps := [] }
  d.setCoreState k pglRunning

/-- Queues are attached (Table 14-4). -/
def Dev.attached (d : Dev) (k : Nat) : Bool := d.coreMode k == modeNormal

/-- Core k takes entries: RUNNING in NORMAL (R313). -/
def Dev.coreTakes (d : Dev) (k : Nat) : Bool := d.coreRuns k && d.attached k && !d.gated (4 + k / 8)

/-- Entries an input queue holds (R311). -/
abbrev pglQueueDepth : Nat := 64

/-- An input queue has room, or the entry would be discarded. -/
def Dev.coreRoom (d : Dev) (k : Nat) : Bool := !d.coreTakes k || (d.getCore k).queue.length < pglQueueDepth

/-- Put an entry into a core's queue, or discard it (R311, R313). -/
def Dev.corePush (k : Nat) (e : PglEntry) (d : Dev) : Dev :=
  if d.coreTakes k then
    let x := d.getCore k
    (d.setCore k { x with queue := x.queue ++ [e] }).coreLevels k
  else if d.gated (4 + k / 8) then d
  else d.coreDiscard k 1

/-- The entry that a record makes (Table 14-5). -/
def Echo.entry (e : Echo) (slot : Nat) : PglEntry :=
  ⟨[BitVec.ofNat 24 (2 ^ 14 * (e.flags % 256) + 2 ^ 13 * e.last.toNat + 2 ^ 11 * (e.num % 4) + e.ch % 2048),
    BitVec.ofNat 24 (2 ^ 20 * (slot % 16) + e.range % 2 ^ 20), BitVec.ofNat 24 (e.intensity % 65536),
    BitVec.ofNat 24 (2 ^ 16 * (e.tof / 2 ^ 24 % 8) + e.width % 65536), BitVec.ofNat 24 (e.amb % 65536),
    BitVec.ofNat 24 e.tof], none⟩

/-- SLOT_START (Table 14-5). -/
def SlotRec.startEntry (s : SlotRec) (t half : Nat) : PglEntry :=
  ⟨[0x400000, BitVec.ofNat 24 s.num,
    BitVec.ofNat 24 (s.num / 2 ^ 24 % 256 + 2 ^ 8 * (s.shots % 32) + 2 ^ 13 * s.listen.toNat
      + 2 ^ 14 * (bitAt s.notExtracted t).toNat),
    BitVec.ofNat 24 (toBits 24 (clampI (-(2 ^ 23)) (2 ^ 23 - 1) s.angle)), BitVec.ofNat 24 (toBits 24 s.omega), 0],
   some (s.num, half)⟩

/-- SLOT_END (Table 14-5). -/
def slotEndEntry (slot given : Nat) : PglEntry :=
  ⟨[0x800000, BitVec.ofNat 24 slot, BitVec.ofNat 24 (given % 65536), 0, 0, 0], none⟩

/-- The terrace latches PGL.BED_MAP (R311). -/
def Dev.latchBeds (t : Nat) (d : Dev) : Dev :=
  let p := pglTerrace (8 * t)
  { d with bedMap := (List.range 16).foldl (fun m j =>
      SMap.put 0 m (16 * t + j) (d.fld p ⟨if j < 8 then PGL_BED_MAP_0 else PGL_BED_MAP_1, 3 * (j % 8) + 2, 3 * (j % 8)⟩)) d.bedMap }

/-- The core that takes records of bed b (R311). -/
def Dev.bedCore (d : Dev) (b : Nat) : Nat := 8 * (b / 16) + SMap.get 0 d.bedMap b

/-- The thermal manager parks a core, or lifts the parking (R318): unparked with RUN = 1 it starts at PGL.ENTRY,
whatever its mode. -/
def Dev.corePark (k : Nat) (d : Dev) : Dev :=
  if d.safetyCore k || d.coreState k == pglParked || d.gated (4 + k / 8) then d
  else d.coreStop k pglParked
def Dev.coreUnpark (k : Nat) (d : Dev) : Dev :=
  if d.coreState k != pglParked then d
  else
    let d := d.setCoreState k pglStopped
    if d.on (pglPage k) PGL_CTRL_RUN && d.on (pglTerrace k) PGL_LOAD_STATUS_CODE_VALID then
      d.coreStart k (d.fld (pglPage k) PGL_ENTRY_ENTRY)
    else d

/-- A core in TEST is stopped and set to NORMAL when the device enters SCANNING (Table 14-4). -/
def Dev.testCoresOff (d : Dev) : Dev :=
  (List.range 32).foldl (fun d k =>
    if d.coreMode k == modeTest && !d.gated (4 + k / 8) then
      let d := if d.coreRuns k then d.coreStop k pglStopped else d
      (d.setFld (pglPage k) PGL_CTRL_MODE modeNormal).setFld (pglPage k) PGL_CTRL_RUN 0
    else d) d

end Sys2Proof.Machine
end

