-- ==== Sys2Proof/Machine/States.lean ====
section
/-! DEFINITION. Entering a device state with its entry actions (R461 to R464), the commands of the OSSD outputs and the
reaction to a fault of Lodge (R353 to R357). -/
namespace Sys2Proof.Machine

def Dev.ldgOut (d : Dev) (o : Nat) : LdgOut := SMap.get {} d.ldg.outs o
def Dev.setLdgOut (o : Nat) (x : LdgOut) (d : Dev) : Dev := { d with ldg := { d.ldg with outs := SMap.put {} d.ldg.outs o x } }
def Dev.ldgPair (d : Dev) (p : Nat) : LdgPair := SMap.get {} d.ldg.pairs p
def Dev.setLdgPair (p : Nat) (x : LdgPair) (d : Dev) : Dev := { d with ldg := { d.ldg with pairs := SMap.put {} d.ldg.pairs p x } }

/-- Lodge operates (R3, R354, R372): on the IS variant with EN = 1, its four pages locked and debug access not unlocked (R424). -/
def Dev.ldgOn (d : Dev) : Bool :=
  d.hasLodge && d.on 0xB0 LDG_CTRL_EN && (List.range 4).all (fun i => d.locked (0xB0 + i)) && !d.on 0x04 SEC_STATUS_DBG_UNLOCKED

/-- Output o is commanded high; outputs are numbered A1, A2, B1, B2. -/
def Dev.ossdCmd (d : Dev) (o : Nat) : Bool := d.bit 0xB3 LDG_OSSD_STATUS o

/-- What output o is driven to (R355, R356). -/
def Dev.ossdHigh (d : Dev) (o : Nat) : Bool := d.ossdCmd o && !(d.ldgOut o).pulse && !(d.ldgOut o).held

/-- Command output o (R354 to R356): an OFF takes effect at once and ends a test pulse's checks; an ON inside the output's own
test window holds it low until the window ends. The ball follows within 20 µs, a rise within 100 µs. -/
def Dev.ossdCommand (high : Bool) (d : Dev) (o : Nat) : Dev :=
  if d.ossdCmd o == high then d
  else
    let x := d.ldgOut o
    let x := if high then
        { x with held := x.window.isSome, pulse := false, dueLow := none,
                 dueHigh := if x.window.isSome then none else some (d.now + Config.us 100, false) }
      else { x with pulse := false, held := false, dueHigh := none, dueLow := some (d.now + Config.us 20) }
    let d := (d.setLdgOut o x).setFld 0xB3 ⟨LDG_OSSD_STATUS, o, o⟩ high.toNat
    d.setFld 0xB3 ⟨LDG_OSSD_STATUS, 8 + o, 8 + o⟩ 0

/-- Pair p is ON while both outputs are commanded high and none is held low (R354, R356); a change is raised and an OFF
counted, and needs the restart rule anew (R357). A test pulse turns no pair OFF. -/
def Dev.pairFollow (d : Dev) (p : Nat) : Dev :=
  let on := d.ossdCmd (2 * p) && d.ossdCmd (2 * p + 1) && !(d.ldgOut (2 * p)).held && !(d.ldgOut (2 * p + 1)).held
  let x := d.ldgPair p
  if x.on == on then d
  else
    let d := d.setFld 0xB0 ⟨LDG_STATUS, 12 + p, 12 + p⟩ on.toNat
    if on then (d.setLdgPair p { x with on := true }).raise 0xB0 1
    else ((d.setLdgPair p { x with on := false, met := false }).bump 0xB0 LDG_OFF_CNT).raise 0xB0 0

/-- Command all four outputs: bits A1, A2, B1, B2. -/
def Dev.ossdApply (cmd : Nat) (d : Dev) : Dev :=
  let d := (List.range 4).foldl (fun d o => d.ossdCommand (bitAt cmd o) o) d
  (List.range 2).foldl Dev.pairFollow d

/-- Every output OFF, with the restart rule to be met anew. -/
def Dev.ossdOff (d : Dev) : Dev :=
  let d := d.ossdApply 0
  (List.range 2).foldl (fun d p => d.setLdgPair p { d.ldgPair p with met := false, clearSince := none }) d

/-- What leaving SCANNING does (R464): outputs OFF, fire enable removed, the frame ends, no further trigger. -/
def Dev.leaveScanning (d : Dev) : Dev :=
  let d := (d.ossdOff.revoke causeState).endFrame false
  { d with bnd := { d.bnd with fresh := none } }

/-- A word being programmed when SAFE_HOLD or FAULT is entered, or shut-down begins, is the last (R409). -/
def Dev.otpAbort (d : Dev) : Dev :=
  { d with otp := { d.otp with job := d.otp.job.map (fun (j : Nat × Word × Bool) => (j.1, j.2.1, true)) } }

/-- Enter a device state with its entry actions (R461 to R464): a change of time that waited is applied when SCANNING is left (R144,
R145), the loops, DUMP_L, timed triggering and Lodge's coverage follow; cores in TEST stop and a bed test under source 1 fails at the entry to SCANNING (Table 14-4, R389). -/
def Dev.enterState (st : Nat) (d : Dev) : Dev :=
  if d.devState == st then d
  else
    let was := d.devState
    let d := d.setState st
    let d := if was == stScanning then d.leaveScanning.applyPending else d
    let d := if st == stScanning then { d.testCoresOff with ldg := { d.ldg with evals := [] } } else d
    let d := if st == stScanning && d.cal.free then d.calFail 7 else d
    let d := if st == stSafeHold || st == stFault then d.otpAbort else d
    (d.loopsDevice.dumpFollow).timedCheck

/-- The device enters FAULT, with its cause (R353, R406, R421, R466). -/
def Dev.enterFault (cause : Fld) (d : Dev) : Dev :=
  if d.devState == stReset then d else (d.setFld 0x00 cause 1).enterState stFault

/-- A fault of Lodge (R353, Table 16-2): both pairs OFF; an internal one puts the device into FAULT. -/
def Dev.ldgFault (b : Nat) (d : Dev) : Dev :=
  if !d.ldgOn || d.bit 0xB0 LDG_FAULT b then d
  else
    let d := (d.setBit 0xB0 LDG_FAULT b).ossdOff
    if b < 16 then (d.raise 0xB0 2).enterFault DEV_FAULT_CAUSE_LDG else d.raise 0xB0 3

end Sys2Proof.Machine
end

