-- ==== Sys2Proof/Machine/Lodge.lean ====
section
/-! DEFINITION. Lodge, the machine-safety functions of the IS variant (Machine-safety functions, R343 to R375). A function that
reads a field set takes shared SRAM as an argument. -/
namespace Sys2Proof.Machine

/-- Shared SRAM. -/
abbrev Mem := List Host.Cell

/-! ### Field sets (R343 to R345) -/

/-- Address of set n. -/
def Dev.fsAddr (d : Dev) (n : Nat) : Nat := 131072 * (d.fld 0xB0 LDG_FS_BASE_BASE + n)

/-- Set n can be selected, its CRCs apart (R344, LDG.FS_BASE). -/
def Dev.fsValid (d : Dev) (n : Nat) : Bool := d.bit 0xB0 LDG_FS_VALID n && d.fsAddr n + 131072 ≤ Config.sramBytes

/-- Field f of an entry: 0 protective, 1 warning 1, 2 warning 2. -/
def fsField (w f : Nat) : Nat := if f == 0 then w % 1024 else if f == 1 then w / 1024 % 2048 else w / 2 ^ 21

/-- A limit of one set, in 10 mm. -/
def Dev.setLimit (m : Mem) (d : Dev) (n f cell : Nat) : Nat := fsField (memWord m (d.fsAddr n + 4 * cell)).toNat f

/-- Key of a cell: sector σ of bed b, the entry's index (R343). -/
def cellOf (sector b : Nat) : Nat := 512 * b + sector

/-- The limit in force: the largest of the active set and, during an overlap, the old sets (R363). -/
def Dev.limitNow (m : Mem) (d : Dev) (f cell : Nat) : Nat :=
  ((d.ldg.active.toList ++ (d.ldg.olds.filter (fun o => d.now < o.2)).map (fun o => o.1)).map
    (fun n => d.setLimit m n f cell)).foldl max 0

/-- The sector of an angle (R345). -/
def Dev.sectorOf (d : Dev) (angle : Int) : Option Nat :=
  let p := d.regN 0xB0 LDG_SECTOR_PITCH
  let s := (angle - signed 32 (d.regN 0xB0 LDG_SECTOR_A0)) / (p : Int)
  if p = 0 || s < 0 || 511 < s then none else some s.toNat

/-- n of R347. -/
def Dev.evalN (d : Dev) : Nat := d.fld 0xB0 LDG_CTRL_N_M1 + 1

/-- SCAN_MAX in LSB. -/
def Dev.scanMax (d : Dev) : Nat := Config.us (100 * d.fld 0xB0 LDG_SCAN_CFG_SCAN_MAX)

/-- A protected cell: its protective limit in the active set is not 0. -/
def Dev.protectedCell (m : Mem) (d : Dev) (cell : Nat) : Bool :=
  match d.ldg.active with
  | none => false
  | some n => d.setLimit m n 0 cell != 0

/-- Every protected cell has been evaluated n times since SCANNING was entered, and no longer ago than SCAN_MAX (R352). -/
def Dev.covered (m : Mem) (d : Dev) : Bool :=
  (List.range 32768).all (fun c => !d.protectedCell m c
    || (d.evalN ≤ SMap.get 0 d.ldg.evals c && d.now ≤ SMap.get 0 d.ldg.lastEval c + d.scanMax))

/-! ### Demands, restart and commands (R354, R357) -/

/-- NET_OK. -/
def Dev.netOk (d : Dev) : Bool := d.on 0xB0 LDG_STATUS_NET_OK

/-- Set NET_OK in both of its registers. -/
def Dev.setNetOk (v : Bool) (d : Dev) : Dev :=
  (d.setFld 0xB0 LDG_STATUS_NET_OK v.toNat).setFld 0xB2 LDG_NET_STATUS_NET_OK v.toNat

/-- Field of input pair n. -/
def Dev.sinFld (d : Dev) (n : Nat) (f : Fld) : Nat := d.fld 0xB3 (f.plus (4 * n))

/-- Pair n is active. -/
def Dev.sinActive (d : Dev) (n : Nat) : Bool := d.bit 0xB3 LDG_SIN_STATE (16 + n)

/-- DISC of pair n, in ms. -/
def Dev.discOf (d : Dev) (n : Nat) : Nat := max 4 (min (d.sinFld n LDG_SIN_CFG_DISC) 500)

/-- An OFF demand on both pairs, coverage apart (R354): of contamination its fault level, not the warning. Before the
first set is active there is no field to evaluate, and the demand stands. -/
def Dev.demandBoth (d : Dev) : Bool :=
  d.ldg.active.isNone
  || (List.range 8).any (fun n => d.sinFld n LDG_SIN_CFG_FUNC == 1 && !d.sinActive n)
  || d.on 0xB0 LDG_STATUS_SEL_INVALID
  || (d.fld 0xB0 LDG_CTRL_SEL_SRC == 2 && (!d.netOk || !bitAt (d.regN 0xB2 LDG_RX_CMD) 6))
  || d.bit 0xB0 LDG_STATUS 15

/-- The field demand on pair p: 0 A, 1 B (R347). -/
def Dev.demandField (d : Dev) (p : Nat) : Bool :=
  if p == 1 && d.on 0xB0 LDG_CTRL_B_SRC then d.ldg.demandW else d.ldg.demandP

/-- No OFF demand and no fault stands on pair p; coverage counts for turning ON alone (R352, R357). -/
def Dev.pairClear (m : Mem) (d : Dev) (p : Nat) : Bool :=
  d.ldgOn && d.reg 0xB0 LDG_FAULT == 0 && !d.demandBoth && !d.demandField p
    && ((d.ldgPair p).on || (d.devState == stScanning && d.covered m))

/-- Manual restart is selected. -/
def Dev.manualRestart (d : Dev) : Bool := d.on 0xB0 LDG_CTRL_RESTART

/-- Commands of channel B's outputs: both cores' latest messages, within what the hardware permits (R351, R354). -/
def Dev.chanB (d : Dev) (b2 : Bool) : Bool :=
  d.ldgOn && d.devState == stScanning && d.reg 0xB0 LDG_FAULT == 0
    && [30, 31].all (fun k => let c := SMap.get {} d.ldg.cores k
                             if b2 then c.b2 else c.a2)

/-- Follow demands, faults and the restart rule with the four commands (R354, R357). -/
def Dev.ldgDecide (m : Mem) (d : Dev) : Dev :=
  if !d.hasLodge then d
  else
    let d := (List.range 2).foldl (fun (d : Dev) p =>
      let x := d.ldgPair p
      if d.pairClear m p then
        if x.clearSince.isSome then d else d.setLdgPair p { x with clearSince := some d.now }
      else d.setLdgPair p { x with clearSince := none, met := false }) d
    let wait := d.manualRestart && (List.range 2).any (fun p => (d.ldgPair p).clearSince.isSome && !(d.ldgPair p).met)
    let d := d.setFld 0xB0 LDG_STATUS_RESTART_WAIT wait.toNat
    let a (p : Nat) : Bool := d.devState == stScanning && (d.ldgPair p).clearSince.isSome && (d.ldgPair p).met
    d.ossdApply ((a 0).toNat + 2 * (d.chanB false).toNat + 4 * (a 1).toNat + 8 * (d.chanB true).toNat)

/-- A restart request (R357): under manual restart, pairs whose OFF causes have gone return ON. -/
def Dev.restartRequest (d : Dev) : Dev :=
  if !d.manualRestart then d
  else (List.range 2).foldl (fun (d : Dev) p =>
    let x := d.ldgPair p
    if x.clearSince.isSome then d.setLdgPair p { x with met := true } else d) d

/-- RESTART_DELAY_EXPIRY (R357): in automatic restart a pair clear for RESTART_MS returns ON. -/
def Dev.restartExpiry (m : Mem) (d : Dev) : Dev :=
  if !d.ldgOn || d.manualRestart then d
  else
    let d := d.ldgDecide m
    let d := (List.range 2).foldl (fun (d : Dev) p =>
      let x := d.ldgPair p
      match x.clearSince with
      | some s =>
        if s + Config.ms (d.fld 0xB0 LDG_SCAN_CFG_RESTART_MS) ≤ d.now then d.setLdgPair p { x with met := true } else d
      | none => d) d
    d.ldgDecide m

/-! ### Selecting and switching sets (R362, R363) -/

/-- The pairs of FUNC 2, in order. -/
def Dev.selectPairs (d : Dev) : List Nat := (List.range 8).filter (fun n => d.sinFld n LDG_SIN_CFG_FUNC == 2)

/-- The code of the select inputs (R361). -/
def Dev.selectCode (d : Dev) : Nat :=
  (d.selectPairs.foldr (fun n (acc : Nat) => 2 * acc + (d.sinActive n).toNat) 0) % 32

/-- A pair is in discrepancy: its filtered states differ or its count is not yet back at 0. -/
def Dev.inDisc (d : Dev) (n : Nat) : Bool :=
  d.bit 0xB3 LDG_SIN_STATE n != d.bit 0xB3 LDG_SIN_STATE (8 + n) || (SMap.get {} d.ldg.pins n).disc != 0

/-- The set requested, none where the selection is invalid for want of one (R362). -/
def Dev.requested (d : Dev) : Option Nat :=
  let src := d.fld 0xB0 LDG_CTRL_SEL_SRC
  if src == 1 then if d.selectPairs.any d.inDisc then none else some d.ldg.code
  else if src == 2 then
    let c := d.regN 0xB2 LDG_RX_CMD
    if d.netOk && bitAt c 5 then some (c % 32) else none
  else some (d.fld 0xB0 LDG_CTRL_FIXED_SET)

/-- SWITCHING shows preparation or overlap. -/
def Dev.switchFlag (d : Dev) : Dev :=
  d.setFld 0xB0 LDG_STATUS_SWITCHING (d.ldg.prep.isSome || d.ldg.ready.isSome || !d.ldg.olds.isEmpty).toNat

/-- Follow the selection (R362, R363): the code of the inputs when it may change, SEL_INVALID, a new preparation. A request of the active
set ends a preparation; a set that is prepared takes over all the same, and the request is met after it (log entry 85). -/
def Dev.ldgSelect (d : Dev) : Dev :=
  if !d.ldgOn then d
  else
    let free := d.selectPairs.all (fun n =>
      !d.inDisc n && (SMap.get {} d.ldg.pins n).agreeSince + Config.ms (d.discOf n) ≤ d.now)
    let d := if free then { d with ldg := { d.ldg with code := d.selectCode } } else d
    let want := match d.requested with
      | some n => if d.fsValid n then some n else none
      | none => none
    let was := d.on 0xB0 LDG_STATUS_SEL_INVALID
    let d := d.setFld 0xB0 LDG_STATUS_SEL_INVALID want.isNone.toNat
    let d := if want.isNone && !was then d.raise 0xB0 5 else d
    match want with
    | none => d
    | some n =>
      if d.ldg.prep.getD (d.ldg.ready.getD (d.ldg.active.getD 99)) == n then d
      else if d.ldg.active == some n then Dev.switchFlag { d with ldg := { d.ldg with prep := none } }
      else Dev.switchFlag { d with ldg := { d.ldg with prep := some n } }

/-- Word in a pair core's data memory of the first part of entry i (R348). -/
def halfWord (i : Nat) : Nat := 16384 + 2 * i

/-- Copy a set's halves into the data memories of the pair (R348). -/
def Dev.copyHalves (m : Mem) (n : Nat) (d : Dev) : Dev :=
  [0, 1].foldl (fun (d : Dev) h =>
    let x := d.getCore (30 + h)
    let data := (List.range 16384).foldl (fun (s : SMap W24) i =>
      let w := memWord m (d.fsAddr n + 65536 * h + 4 * i)
      SMap.put 0 (SMap.put 0 s (halfWord i) (w.extractLsb' 0 24)) (halfWord i + 1) (BitVec.setWidth 24 (w.extractLsb' 24 8))) x.data
    d.setCore (30 + h) { x with data := data, ecc := SMap.drop x.ecc (fun w => halfWord 0 ≤ w && w < halfWord 16384) }) d

/-- The bytes of a half as a pair core holds it. -/
def Dev.halfBytes (d : Dev) (h : Nat) : List Nat :=
  (List.range 16384).flatMap (fun i =>
    leBytes 3 (d.coreWord (30 + h) (halfWord i)).toNat ++ leBytes 1 (d.coreWord (30 + h) (halfWord i + 1)).toNat)

/-- Channel A's check of set n in shared SRAM (R344). -/
def Dev.fsCheckA (m : Mem) (d : Dev) (n : Nat) : Bool :=
  crc32c (memBytes m (d.fsAddr n) 131072) == d.reg 0xB1 (LDG_FS_CRC_A + 4 * n)

/-- The checks of the cores' halves against set n (R344). -/
def Dev.fsCheckB (d : Dev) (n : Nat) : Bool :=
  crc32 (d.halfBytes 0) == d.reg 0xB1 (LDG_FS_CRC_B0 + 4 * n) && crc32 (d.halfBytes 1) == d.reg 0xB1 (LDG_FS_CRC_B1 + 4 * n)

/-- FS_PREP_DONE (R363): the set in preparation is checked and copied; it takes over at the next slot trigger. -/
def Dev.fsPrepared (m : Mem) (d : Dev) : Dev :=
  match d.ldg.prep with
  | none => d
  | some n =>
    if !d.ldgOn then d
    else
      let d := Dev.copyHalves m n { d with ldg := { d.ldg with prep := none } }
      if d.fsCheckA m n && d.fsCheckB n then Dev.switchFlag { d with ldg := { d.ldg with ready := some n } }
      else (d.ldgFault 5).switchFlag

/-- FS_CRC_RECHECK (R344): the active set's checks again; a mismatch is FS_CRC. Between preparation and takeover the cores hold the halves
of the prepared set, and check those (log entry 85). -/
def Dev.fsRecheck (m : Mem) (d : Dev) : Dev :=
  match d.ldg.active with
  | none => d
  | some n => if d.fsCheckA m n && d.fsCheckB (d.ldg.ready.getD n) then d else d.ldgFault 5

/-- The takeover at a slot trigger (R363): counts carry over, the overlap begins. -/
def Dev.ldgTakeover (d : Dev) : Dev :=
  match d.ldg.ready with
  | none => d
  | some n =>
    let olds := match d.ldg.active with
      | some o => d.ldg.olds ++ [(o, d.now + d.evalN * d.scanMax)]
      | none => d.ldg.olds
    let d := { d with ldg := { d.ldg with ready := none, active := some n, olds := olds, warned := false, tookAt := d.now } }
    (((d.setFld 0xB0 LDG_STATUS_ACTIVE_SET n).bump 0xB0 LDG_SWITCH_CNT).switchFlag.raise 0xB0 4).ldgSelect

/-- FS_OVERLAP_END (R363): old sets whose overlap is over are dropped. -/
def Dev.overlapEnd (d : Dev) : Dev :=
  Dev.switchFlag { d with ldg := { d.ldg with olds := d.ldg.olds.filter (fun o => d.now < o.2) } }

/-! ### Channel A (R346 to R348) -/

/-- Apply f to the slot that Lodge follows under a number. -/
def Dev.ldgSlot (num : Nat) (f : LdgSlot → LdgSlot) (d : Dev) : Dev :=
  { d with ldg := { d.ldg with slots := d.ldg.slots.map (fun s => if s.num == num then f s else s) } }

/-- A slot trigger (R345, R346): Lodge follows the slot when it is evaluated. -/
def Dev.ldgSlotBegin (s : SlotRec) (d : Dev) : Dev :=
  if !d.ldgOn || d.ldg.active.isNone || s.skipped || s.listen || s.fbLost || s.hold then d
  else match d.sectorOf s.angle with
    | none => d
    | some x => { d with ldg := { d.ldg with slots := d.ldg.slots ++
        [{ num := s.num, trigAt := d.now, frame := s.frame, sector := some x, due := 15 }] } }

/-- The end of the slot's acquisition: segments that fired in every shot, banks with START_LOST (R346). -/
def Dev.ldgSlotClosed (num fired lost : Nat) (d : Dev) : Dev := d.ldgSlot num (fun s => { s with fired := fired, lost := lost })

/-- The slot's records of terrace t have all reached Lodge. -/
def Dev.ldgTerraceDone (num t : Nat) (d : Dev) : Dev := d.ldgSlot num (fun s => { s with due := withoutBit s.due t })

/-- The sector of a slot by number: of one that Lodge follows, or of any whose header is not yet formed. -/
def Dev.slotSector (num : Nat) (d : Dev) : Option Nat :=
  match d.ldg.slots.find? (fun s => s.num == num) with
  | some s => s.sector
  | none => (d.slots.find? (fun s => s.num == num)).bind (fun s => d.sectorOf s.angle)

/-- Terrace t is marked in a slot's NOT_EXTRACTED (R353): a fault where it has a protected bed in the slot's sector, whether or not the
slot is evaluated. -/
def Dev.ldgNotExtracted (m : Mem) (num t : Nat) (d : Dev) : Dev :=
  let x := d.slotSector num
  let d := d.ldgSlot num (fun s => { s with notExtracted := withBit s.notExtracted t, due := withoutBit s.due t })
  match x with
  | none => d
  | some x => if (List.range 16).any (fun j => d.protectedCell m (cellOf x (16 * t + j))) then d.ldgFault 7 else d

/-- A record of the feed enters channel A's queue of 256, which is evaluated in order of arrival, a record in Config.feedTime; one that finds
the queue full is FEED_OVF (R26, R348, R353). Answers whether it entered. -/
def Dev.feedTake (d : Dev) : Dev × Bool :=
  if d.now + 255 * Config.feedTime < d.ldg.feedUntil then (d.ldgFault 3, false)
  else ({ d with ldg := { d.ldg with feedUntil := max d.now d.ldg.feedUntil + Config.feedTime } }, true)

/-- An echo of the feed reaches channel A (R26, R346, R348). -/
def Dev.ldgEcho (m : Mem) (num : Nat) (e : Echo) (d : Dev) : Dev :=
  let (d, ok) := if d.ldgOn then d.feedTake else (d, false)
  if !ok then d
  else match d.ldg.slots.find? (fun s => s.num == num) with
  | none => d
  | some s =>
    match s.sector with
    | none => d
    | some x =>
      let hit (f : Nat) : Bool :=
        let l := d.limitNow m f (cellOf x (e.ch / 32))
        !bitAt e.flags 7 && l != 0 && e.range ≤ 10 * l
      d.ldgSlot num (fun s => { s with
        det0 := if hit 0 then withBit s.det0 e.ch else s.det0
        det1 := if hit 1 then withBit s.det1 e.ch else s.det1
        det2 := if hit 2 then withBit s.det2 e.ch else s.det2 })

/-- A WINDOW echo reaches the contamination monitor (R364); whether its queue is full the spec leaves open: such an echo is
dropped and counted (log entry 12). -/
def Dev.ldgWindow (num : Nat) (d : Dev) (e : Echo) : Dev :=
  if !d.ldgOn then d
  else
    let (f, d) := d.draw
    if f % 2 == 1 then d.bump 0xB0 LDG_WINDOW_DROP
    else if d.fld 0xB0 LDG_CONTAM_WIN_INT ≤ e.intensity then d.ldgSlot num (fun s => { s with win := withBit s.win e.ch })
    else d

/-- Channel c lies in a run of n consecutive marked channels (R346). -/
def inRun (det n c : Nat) : Bool :=
  (List.range n).any (fun i => i ≤ c && (List.range n).all (fun j => bitAt det (c - i + j)))

/-- The beds that a run includes a channel of (R346). -/
def bedMask (det n : Nat) : Nat :=
  (List.range 64).foldl (fun a b => if (List.range 32).any (fun j => inRun det n (32 * b + j)) then a + 2 ^ b else a) 0

/-- The beds evaluated in a slot (R346). -/
def LdgSlot.evaluated (s : LdgSlot) (b : Nat) : Bool := bitAt s.fired b && !bitAt s.lost (b / 8) && !bitAt s.notExtracted (b / 16)

/-- Judge the frame that the contamination monitor has counted (R364). -/
def Dev.contamJudge (d : Dev) : Dev :=
  let drop := d.regN 0xB0 LDG_WINDOW_DROP
  let beds := (List.range 64).filter (fun b => SMap.get 0 d.ldg.total b != 0)
  let atLevel (pct : Nat) : List Nat := beds.filter (fun b => pct * SMap.get 0 d.ldg.total b ≤ 100 * SMap.get 0 d.ldg.dirty b)
  if drop != d.ldg.dropAt then
    let d := { d with ldg := { d.ldg with unjudged := d.ldg.unjudged + 1 } }
    if 3 ≤ d.ldg.unjudged then (d.setFld 0xB0 ⟨LDG_STATUS, 15, 15⟩ 1).ldgFault 19 else d
  else
    let warn := !(atLevel (d.fld 0xB0 LDG_CONTAM_WARN_PCT)).isEmpty
    let bad := (atLevel (d.fld 0xB0 LDG_CONTAM_FAULT_PCT)).foldl withBit 0
    let again := bad &&& d.ldg.faultBeds != 0
    let was := d.bit 0xB0 LDG_STATUS 14
    let d := { d with ldg := { d.ldg with unjudged := 0, faultBeds := bad } }
    let d := (d.setFld 0xB0 ⟨LDG_STATUS, 14, 14⟩ warn.toNat).setFld 0xB0 ⟨LDG_STATUS, 15, 15⟩ again.toNat
    let d := if warn && !was then d.raise 0xB0 7 else d
    if again then d.ldgFault 19 else d

/-- Count a slot's contaminated channels of evaluated beds; a new frame judges the one before (R364). -/
def Dev.contamSlot (s : LdgSlot) (d : Dev) : Dev :=
  let d := if d.ldg.frame == some s.frame then d
    else
      let d := if d.ldg.frame.isSome then d.contamJudge else d
      { d with ldg := { d.ldg with frame := some s.frame, total := [], dirty := [], dropAt := d.regN 0xB0 LDG_WINDOW_DROP } }
  (List.range 64).foldl (fun (d : Dev) b =>
    if s.evaluated b then
      let n := ((List.range 32).filter (fun j => bitAt s.win (32 * b + j))).length
      { d with ldg := { d.ldg with total := SMap.put 0 d.ldg.total b (SMap.get 0 d.ldg.total b + 32),
                                   dirty := SMap.put 0 d.ldg.dirty b (SMap.get 0 d.ldg.dirty b + n) } }
    else d) d

/-- Counts of one evaluated cell (R347) and its evaluation (R352). -/
def Dev.countCell (mask cell b : Nat) (d : Dev) : Dev :=
  let key (f : Nat) : Nat := 32768 * f + cell
  let counts := [0, 1, 2].foldl (fun (c : SMap Nat) f =>
    SMap.put 0 c (key f) (if bitAt mask (64 * f + b) then SMap.get 0 c (key f) + 1 else 0)) d.ldg.counts
  { d with ldg := { d.ldg with counts := counts, lastEval := SMap.put 0 d.ldg.lastEval cell d.now,
                               evals := SMap.put 0 d.ldg.evals cell (SMap.get 0 d.ldg.evals cell + 1) } }

/-- While a pair is ON a protected cell has not been evaluated for longer than SCAN_MAX (R352); for one never evaluated the time counts
from the takeover that protected it (log entry 85). -/
def Dev.coverageLate (m : Mem) (d : Dev) (cell : Nat) : Bool :=
  let last := SMap.get 0 d.ldg.lastEval cell
  (List.range 2).any (fun p => (d.ldgPair p).on) && cell < 32768 && d.protectedCell m cell
    && (if last = 0 then d.ldg.tookAt else last) + d.scanMax < d.now

/-- The evaluation of a cell (R347, R352): an interval that has been too long is a COVERAGE fault. -/
def Dev.evalCell (m : Mem) (mask cell b : Nat) (d : Dev) : Dev :=
  (if d.coverageLate m cell then d.ldgFault 6 else d).countCell mask cell b

/-- Whether some count of field f is at least n. -/
def Ldg.reaches (l : Ldg) (f n : Nat) : Bool := l.counts.any (fun e => e.1 / 32768 == f && n ≤ e.2)

/-- Demands and VIOL follow the counts (R347): a demand begins at n and lasts while any count is at least 1. -/
def Dev.fieldFollow (d : Dev) : Dev :=
  let l := d.ldg
  let n := d.evalN
  let w1 := l.reaches 1 n
  let viol := (l.reaches 0 1).toNat + 2 * (l.reaches 1 1).toNat + 4 * (l.reaches 2 1).toNat
  let d := { d with ldg := { l with
    demandP := l.reaches 0 n || (l.demandP && l.reaches 0 1)
    demandW := w1 || (l.demandW && l.reaches 1 1)
    warned := w1 || (l.warned && l.reaches 1 1) } }
  let d := d.setFld 0xB0 LDG_STATUS_VIOL viol
  if w1 && !l.warned then d.raise 0xB0 8 else d

/-! ### Comparison (R351) -/

/-- A half's 96-bit mask as part of the 192-bit one (R349). -/
def halfMask (h m : Nat) : Nat :=
  (List.range 3).foldl (fun a f => a + (m / 2 ^ (32 * f) % 2 ^ 32) * 2 ^ (64 * f + 32 * h)) 0

/-- Compare a slot once all three verdicts are in (R351). -/
def Dev.ldgCompare (num : Nat) (d : Dev) : Dev :=
  match d.ldg.slots.find? (fun s => s.num == num) with
  | none => d
  | some s =>
    match s.a, s.b0, s.b1 with
    | some (ta, ma), some (t0, m0), some (t1, m1) =>
      let mb := halfMask 0 m0 + halfMask 1 m1
      let lat := min 65535 ((max t0 t1 - ta) / Config.us 1)
      let d := { d with ldg := { d.ldg with slots := d.ldg.slots.filter (fun x => x.num != num) } }
      let d := (d.bump 0xB0 LDG_CMP_CNT).setRegN 0xB3 LDG_LAST_SLOT num
      let d := d.setFld 0xB3 LDG_CHB_STATUS_LAT_LAST lat
      let d := d.setFld 0xB3 LDG_CHB_STATUS_LAT_MAX (max lat (d.fld 0xB3 LDG_CHB_STATUS_LAT_MAX))
      if ma == mb then d else Dev.ldgFault 0 { d with ldg := { d.ldg with mismatch := (num, ma, mb) } }
    | _, _, _ => d

/-- CHANNEL_A_VERDICT (R346 to R348, R351): the oldest slot whose records are all in is judged. -/
def Dev.channelA (m : Mem) (d : Dev) : Dev :=
  match d.ldg.slots.find? (fun s => s.a.isNone && s.due == 0) with
  | none => d
  | some s =>
    let n := d.fld 0xB0 LDG_CTRL_OBJ_M1 + 1
    let mask := bedMask s.det0 n + bedMask s.det1 n * 2 ^ 64 + bedMask s.det2 n * 2 ^ 128
    let d := d.ldgSlot s.num (fun s => { s with a := some (d.now, mask) })
    let d := match s.sector with
      | none => d
      | some x => (List.range 64).foldl (fun (d : Dev) b => if s.evaluated b then d.evalCell m mask (cellOf x b) b else d) d
    let d := (d.fieldFollow).contamSlot s
    let d := if s.trigAt + Config.us 1300 < d.now then d.ldgFault 2 else d
    (d.ldgCompare s.num).ldgDecide m

/-- A verdict half of channel B arrives (R349, R351). -/
def Dev.channelB (low16 half mask : Nat) (d : Dev) : Dev :=
  match d.ldg.slots.find? (fun s => s.num % 65536 == low16) with
  | none => d
  | some s =>
    let d := d.ldgSlot s.num (fun s => if half == 0 then { s with b0 := some (d.now, mask) } else { s with b1 := some (d.now, mask) })
    let d := if s.trigAt + Config.us 1300 < d.now then d.ldgFault 2 else d
    let d := match s.a with
      | some (ta, _) => if ta + Config.us 500 < d.now then d.ldgFault 1 else d
      | none => d
    d.ldgCompare s.num

/-- LSEND of a pair core (R316, R349). -/
def Dev.ldgWord (m : Mem) (k : Nat) (w : Nat) (d : Dev) : Dev :=
  if !d.ldgOn then d
  else
    let c := SMap.get {} d.ldg.cores k
    let put (c : LdgCore) (d : Dev) : Dev := { d with ldg := { d.ldg with cores := SMap.put {} d.ldg.cores k c } }
    match c.words with
    | [] =>
      if w / 2 ^ 16 == 16 + (k - 30) then put { c with words := [w] } d
      else if w / 4 == 2 ^ 19 then
        Dev.ldgDecide m (put { c with outAt := some d.now, a2 := bitAt w 0, b2 := bitAt w 1 } d)
      else (d.ldgFault 0).ldgDecide m
    | h :: ws =>
      if ws.length < 3 then put { c with words := h :: (ws ++ [w]) } d
      else
        let mask := (ws ++ [w]).foldr (fun x acc => x + 2 ^ 24 * acc) 0
        Dev.ldgDecide m (Dev.channelB (h % 65536) (k - 30) mask (put { c with words := [] } d))

/-- VERDICT_LATENCY_EXPIRY (R351): a verdict is missing 1.3 ms after its slot's trigger. -/
def Dev.latencyExpiry (d : Dev) : Dev :=
  if d.ldg.slots.any (fun s => s.trigAt + Config.us 1300 < d.now) then
    Dev.ldgFault 2 { d with ldg := { d.ldg with slots := d.ldg.slots.filter (fun s => d.now ≤ s.trigAt + Config.us 1300) } }
  else d

/-- CHANNEL_B_TIMEOUT (R351). -/
def Dev.channelBTimeout (d : Dev) : Dev :=
  if d.ldg.slots.any (fun s => match s.a with | some (ta, _) => ta + Config.us 500 < d.now | none => false) then d.ldgFault 1 else d

/-- OUTPUT_MESSAGE_TIMEOUT (R351). -/
def Dev.outputTimeout (d : Dev) : Dev :=
  if [30, 31].any (fun k => match (SMap.get {} d.ldg.cores k).outAt with
      | some t => t + Config.ms 2 < d.now
      | none => false) then d.ldgFault 1 else d

/-- COVERAGE_EXPIRY (R352): a protected cell has not been evaluated for SCAN_MAX while a pair is ON. -/
def Dev.coverageExpiry (m : Mem) (cell : Nat) (d : Dev) : Dev :=
  if d.coverageLate m cell then d.ldgFault 6 else d

/-- An entry for a pair core; a full queue is FEED_OVF (R26, R353). -/
def Dev.pairPush (k : Nat) (e : PglEntry) (d : Dev) : Dev :=
  if d.coreRoom k then d.corePush k e else d.ldgFault 3

/-- LODGE_KIND3_ENTRY (R350). -/
def Dev.kind3 (d : Dev) : Dev :=
  if !d.ldgOn then d
  else
    let lanes (o : Nat) : Nat := (List.range 8).foldl (fun a n => if bitAt d.ldg.raw (2 * n + o) then a + 2 ^ n else a) 0
    let e : PglEntry := ⟨[0xC00000, BitVec.ofNat 24 (lanes 1 + 256 * lanes 0 + 65536 * d.fld 0xB3 LDG_OSSD_STATUS_RB),
      BitVec.ofNat 24 (d.regN 0xB2 LDG_RX_CMD % 256 + 256 * d.netOk.toNat), BitVec.ofNat 24 (d.devTime / Config.ms 1), 0, 0], none⟩
    (d.pairPush 30 e).pairPush 31 e

/-! ### Outputs (R355, R356) -/

/-- A reading of the ball against what is due (R355). -/
def Dev.readbackDue (d : Dev) (o : Nat) : Dev :=
  let x := d.ldgOut o
  let rb := d.bit 0xB3 LDG_OSSD_STATUS (4 + o)
  let d := match x.dueHigh with
    | some (t, after) =>
      if rb then d.setLdgOut o { x with dueHigh := none }
      else if t < d.now then Dev.ldgFault (if after then 16 else 9) (d.setLdgOut o { x with dueHigh := none })
      else d
    | none => d
  let x := d.ldgOut o
  match x.dueLow with
  | some t =>
    if !rb then d.setLdgOut o { x with dueLow := none }
    else if t < d.now then Dev.ldgFault 9 (d.setLdgOut o { x with dueLow := none })
    else d
  | none => d

/-- OSSD_TEST_WINDOW_START (R355): at m × 100 ms plus 25 ms × o a high output is pulsed low. -/
def Dev.windowStart (o : Nat) (d : Dev) : Dev :=
  if !d.ldgOn || 3 < o || d.edgeTime % Config.ms 100 != Config.ms 25 * o then d
  else
    let x := d.ldgOut o
    let pulse := d.ossdHigh o
    (d.setLdgOut o { x with window := some d.now, pulse := pulse, dueHigh := if pulse then none else x.dueHigh }).setFld
      0xB3 ⟨LDG_OSSD_STATUS, 8 + o, 8 + o⟩ pulse.toNat

/-- OSSD_TEST_WINDOW_END (R355, R356). -/
def Dev.windowEnd (m : Mem) (o : Nat) (d : Dev) : Dev :=
  let x := d.ldgOut o
  match x.window with
  | none => d
  | some s =>
    if d.now < s + Config.us 300 then d
    else
      let high := x.pulse || x.held
      let stuck := x.pulse && d.bit 0xB3 LDG_OSSD_STATUS (4 + o)
      let d := d.setLdgOut o { x with window := none, pulse := false, held := false,
                                      dueHigh := if high then some (d.now + Config.us 100, x.pulse) else x.dueHigh }
      let d := d.setFld 0xB3 ⟨LDG_OSSD_STATUS, 8 + o, 8 + o⟩ 0
      let d := if stuck then d.ldgFault 16 else d
      Dev.ldgDecide m ((List.range 2).foldl Dev.pairFollow d)

/-- OSSD_READBACK_CHANGE (R355): the ball of output o reads another level. -/
def Dev.readbackChange (m : Mem) (o : Nat) (level : Bool) (d : Dev) : Dev :=
  if !d.hasLodge || 3 < o then d
  else
    let x := d.ldgOut o
    let d := d.readbackDue o
    let was := d.bit 0xB3 LDG_OSSD_STATUS (4 + o)
    let d := d.setFld 0xB3 ⟨LDG_OSSD_STATUS, 4 + o, 4 + o⟩ level.toNat
    let late : Bool := match x.window with | some s => s + Config.us 100 < d.now | none => false
    let others := (List.range 4).any (fun q => q != o && (d.ldgOut q).pulse)
    let d := if was == level then d
      else if x.pulse then if late then d.ldgFault 16 else d
      else if d.ossdHigh o then
        if !level then if others then d.ldgFault 16 else if x.dueHigh.isSome then d else d.ldgFault 9 else d.readbackDue o
      else if level then d.ldgFault 9 else d.readbackDue o
    d.ldgDecide m

/-! ### Inputs (R358 to R361) -/

/-- The level of TPO ball n: high but for its pulses while Lodge operates; low in RESET, until Lodge drives it, and under a boundary
instruction (R358, R458, R494). -/
def Dev.tpoHigh (d : Dev) (n : Nat) : Bool := d.ldgOn && (SMap.get none d.ldg.tpo n).isNone && !d.boundary

/-- TPO_PULSE_START (R358): at m × 8 ms plus 2 ms × n. -/
def Dev.tpoStart (n : Nat) (d : Dev) : Dev :=
  if !d.ldgOn || 3 < n || d.edgeTime % Config.ms 8 != Config.ms 2 * n then d
  else { d with ldg := { d.ldg with tpo := SMap.put none d.ldg.tpo n (some d.now) } }

/-- TPO_PULSE_END (R358, R359): the inputs' levels before the pulse, from 100 µs after its start, and after it, bit 2n for
SIN_nA and 2n + 1 for SIN_nB. -/
def Dev.tpoEnd (m : Mem) (n before during after : Nat) (d : Dev) : Dev :=
  match SMap.get none d.ldg.tpo n with
  | none => d
  | some s =>
    if d.now < s + Config.us 300 then d
    else
      let d := { d with ldg := { d.ldg with tpo := SMap.put none d.ldg.tpo n none, raw := after % 65536 } }
      let d := (List.range 16).foldl (fun (d : Dev) i =>
        let pr := i / 2
        let own := d.sinFld pr (if i % 2 == 0 then LDG_SIN_CFG_TPO_A else LDG_SIN_CFG_TPO_B)
        let bad := if own == n then bitAt before i && bitAt during i else bitAt before i && !bitAt during i && bitAt after i
        let x := SMap.get {} d.ldg.pins pr
        let bit := 2 * n + i % 2
        let x := { x with short := if bad then withBit x.short bit else withoutBit x.short bit }
        let d := { d with ldg := { d.ldg with pins := SMap.put {} d.ldg.pins pr x } }
        if bad then
          Dev.ldgFault 18 (Dev.setFld { d with ldg := { d.ldg with shortBits := withBit d.ldg.shortBits pr } }
            0xB3 ⟨LDG_SIN_STATE, 24 + pr, 24 + pr⟩ 1)
        else d) d
      d.ldgDecide m

/-- Whether pair n is active follows its filtered states and its discrepancy count (R359, R360); a RESTART pair active for
100 ms to 5 s is a restart request (R357). -/
def Dev.pinFollow (n : Nat) (d : Dev) : Dev :=
  let x := SMap.get {} d.ldg.pins n
  let act := d.bit 0xB3 LDG_SIN_STATE n && d.bit 0xB3 LDG_SIN_STATE (8 + n) && x.disc == 0
  if act == d.sinActive n then d
  else
    let d := d.setFld 0xB3 ⟨LDG_SIN_STATE, 16 + n, 16 + n⟩ act.toNat
    let d := { d with ldg := { d.ldg with pins := SMap.put {} d.ldg.pins n { x with activeSince := if act then some d.now else none } } }
    match x.activeSince with
    | some s =>
      if !act && d.sinFld n LDG_SIN_CFG_FUNC == 3 && s + Config.ms 100 ≤ d.now && d.now ≤ s + Config.ms 5000
        then d.restartRequest else d
    | none => d

/-- SIN_FILTER_CHANGE (R359): a level has held for FILTER; input i is SIN_nA for 2n and SIN_nB for 2n + 1. -/
def Dev.filterChange (m : Mem) (i : Nat) (level : Bool) (d : Dev) : Dev :=
  if !d.ldgOn || 15 < i then d
  else
    let n := i / 2
    let d := { d with ldg := { d.ldg with raw := if level then withBit d.ldg.raw i else withoutBit d.ldg.raw i } }
    let was := d.bit 0xB3 LDG_SIN_STATE n == d.bit 0xB3 LDG_SIN_STATE (8 + n)
    let d := d.setFld 0xB3 ⟨LDG_SIN_STATE, n + 8 * (i % 2), n + 8 * (i % 2)⟩ level.toNat
    let agree := !was && d.bit 0xB3 LDG_SIN_STATE n == d.bit 0xB3 LDG_SIN_STATE (8 + n)
    let x : LdgPin := SMap.get {} d.ldg.pins n
    let d := if agree then { d with ldg := { d.ldg with pins := SMap.put {} d.ldg.pins n { x with agreeSince := d.now } } } else d
    Dev.ldgDecide m (d.pinFollow n).ldgSelect

/-- LODGE_MS_TICK (R360): the discrepancy counts advance; outstanding readback checks fall due. -/
def Dev.msTick (m : Mem) (d : Dev) : Dev :=
  if !d.ldgOn || d.edgeTime % Config.ms 1 != 0 then d
  else
    let d := (List.range 8).foldl (fun (d : Dev) n =>
      let x := SMap.get {} d.ldg.pins n
      let differ := d.bit 0xB3 LDG_SIN_STATE n != d.bit 0xB3 LDG_SIN_STATE (8 + n)
      let x := { x with disc := if differ then min 511 (x.disc + 1) else 0
                        agreeSince := if !differ && x.disc != 0 then d.now else x.agreeSince }
      Dev.pinFollow n { d with ldg := { d.ldg with pins := SMap.put {} d.ldg.pins n x } }) d
    let d := (List.range 4).foldl Dev.readbackDue d
    Dev.ldgDecide m d.ldgSelect

/-- SIN_DISC_FAULT (R360): the count of pair n has reached DISC. -/
def Dev.discFault (m : Mem) (n : Nat) (d : Dev) : Dev :=
  if d.ldgOn && n < 8 && d.discOf n ≤ (SMap.get {} d.ldg.pins n).disc then
    Dev.ldgDecide m (Dev.ldgFault 17 (Dev.setFld { d with ldg := { d.ldg with discBits := withBit d.ldg.discBits n } }
      0xB3 ⟨LDG_SIN_STATE, 24 + n, 24 + n⟩ 1))
  else d

/-- Whether the cause of external fault b persists (R353). -/
def Dev.causePersists (d : Dev) (b : Nat) : Bool :=
  if b == 16 then (List.range 4).any (fun o => d.ossdHigh o != d.bit 0xB3 LDG_OSSD_STATUS (4 + o))
  else if b == 17 then (List.range 8).any (fun n => d.discOf n ≤ (SMap.get {} d.ldg.pins n).disc)
  else if b == 18 then (List.range 8).any (fun n => (SMap.get {} d.ldg.pins n).short != 0)
  else d.bit 0xB0 LDG_STATUS 15

/-- LDG_FAULT_CLEAR (R353): a W1C write clears the external bits whose causes have gone. -/
def Dev.faultClear (m : Mem) (w : Word) (d : Dev) : Dev :=
  let d := [16, 17, 18, 19].foldl (fun (d : Dev) b =>
    if w.getLsbD b && !d.causePersists b then d.clrBit 0xB0 LDG_FAULT b else d) d
  let l := { d.ldg with discBits := if d.bit 0xB0 LDG_FAULT 17 then d.ldg.discBits else 0
                        shortBits := if d.bit 0xB0 LDG_FAULT 18 then d.ldg.shortBits else 0 }
  Dev.ldgDecide m (Dev.setFld { d with ldg := l } 0xB3 LDG_SIN_STATE_FAULT (l.discBits ||| l.shortBits))

/-! ### Network (R365 to R369) -/

/-- The six bytes of a MAC address register pair. -/
def Dev.macBytes (d : Dev) (lo : Nat) : List Nat := leBytes 4 (d.regN 0xB2 lo) ++ leBytes 2 (d.regN 0xB2 (lo + 4))

/-- A copy's 36 bytes (R367): on LN9 the body inverted and another seed. -/
def pduCopy (b : Bool) (body : List Nat) : List Nat :=
  let bs := if b then body.map (fun x => 255 - x % 256) else body
  bs ++ leBytes 4 (crc32cSeed (if b then 0xA5A5A5A5 else 0xFFFFFFFF) bs).toNat

/-- An Ethernet frame of a safety lane (R365). -/
def ethFrame (dst src : List Nat) (b : Bool) (payload : List Nat) : List Nat :=
  let f := dst ++ src ++ [0x88, if b then 0xB6 else 0xB5] ++ payload ++ List.replicate (46 - payload.length) 0
  f ++ leBytes 4 (crc32 f).toNat

/-- The status PDU's body (Table 16-3). -/
def Dev.statusBody (d : Dev) (counter : Nat) : List Nat :=
  let st := d.regN 0xB0 LDG_STATUS
  let f := d.regN 0xB0 LDG_FAULT
  [1, 0x10] ++ leBytes 2 (d.fld 0xB2 LDG_NET_CFG_CONN_ID) ++ leBytes 4 counter ++ leBytes 8 d.devTime
    ++ [d.fld 0xB3 LDG_OSSD_STATUS_CMD + 16 * (st / 2 ^ 12 % 4) + 64 * (st / 2 ^ 16 % 2),
        st / 2 ^ 7 % 8 + 8 * (st / 2 ^ 10 % 2) + 16 * (st / 2 ^ 14 % 4) + 64 * (st / 2 ^ 11 % 2),
        d.fld 0xB0 LDG_STATUS_ACTIVE_SET + 32 * d.netOk.toNat, d.devState,
        d.fld 0xB3 LDG_SIN_STATE_ACTIVE, d.fld 0xB3 LDG_SIN_STATE_FAULT]
    ++ leBytes 2 (f % 1024 + 1024 * (f / 2 ^ 16 % 16)) ++ leBytes 4 (d.regN 0xB0 LDG_CFG_CRC)
    ++ leBytes 4 d.sec.safetyVersion

/-- LN8 or LN9 is linked (R171). -/
def Dev.safetyLink (d : Dev) (b : Bool) : Bool := d.on (lanePage (if b then 9 else 8)) PRM_LANE_STATUS_FAR_ALIGNED

/-- LN8 or LN9 is linked and its transmitter sends (R161, R171). -/
def Dev.safetySends (d : Dev) (b : Bool) : Bool := d.safetyLink b && d.laneSends (if b then 9 else 8)

/-- STATUS_PDU_SEND (R365 to R367): at every multiple of 10 ms both linked lanes carry the status PDU. -/
def Dev.statusSend (d : Dev) : Dev :=
  if !d.ldgOn || !d.on 0xB2 LDG_NET_CFG_EN || d.edgeTime % Config.ms 10 != 0 then d
  else
    let n := if d.ldg.sentAny then (d.regN 0xB2 LDG_TX_COUNTER + 1) % 2 ^ 32 else 0
    let body := d.statusBody n
    let frame (b : Bool) : List Nat :=
      if d.safetySends b then ethFrame (d.macBytes LDG_PEER_MAC_LO) (d.macBytes LDG_OWN_MAC_LO) b (pduCopy b body) else []
    Dev.setRegN { d with ldg := { d.ldg with sentAny := true, sent := [frame false, frame true],
                                                    groups := [frameGroups (frame false), frameGroups (frame true)] } } 0xB2 LDG_TX_COUNTER n

/-- Count a rejected copy on its lane. -/
def Dev.rxReject (b : Bool) (d : Dev) : Dev := d.bump 0xB2 (if b then LDG_RX_REJ_B else LDG_RX_REJ_A)

/-- COUNTER of a body. -/
def pduCounter (body : List Nat) : Nat := ofLe ((body.drop 4).take 4)

/-- A copy's own checks (R368). -/
def Dev.copyOk (d : Dev) (b : Bool) (raw : List Nat) : Bool :=
  let body := raw.take 32
  let plain := if b then body.map (fun x => 255 - x % 256) else body
  raw == pduCopy b plain && plain.take 2 == [1, 0x20] && ofLe ((plain.drop 2).take 2) == d.fld 0xB2 LDG_NET_CFG_CONN_ID
    && (plain.drop 9).all (fun x => x == 0)
    && (d.ldg.anyCounter ||
      (let n := (pduCounter plain + 2 ^ 32 - d.regN 0xB2 LDG_RX_COUNTER) % 2 ^ 32
       1 ≤ n && n ≤ 16))

/-- A command is accepted (R357, R368). -/
def Dev.acceptCommand (m : Mem) (body : List Nat) (d : Dev) : Dev :=
  let c := body.getD 8 0
  let old := d.regN 0xB2 LDG_RX_CMD
  let d := (d.bump 0xB2 LDG_RX_OK).setRegN 0xB2 LDG_RX_COUNTER (pduCounter body)
  let d := (d.setFld 0xB2 LDG_RX_CMD_CMD c).setNetOk true
  let d := { d with ldg := { d.ldg with lastAccept := some d.now, anyCounter := false } }
  let d := (d.ldgSelect).ldgDecide m
  if bitAt c 7 && !bitAt old 7 then d.restartRequest.ldgDecide m else d

/-- COMMAND_PDU_RECEIVE (R365, R368): a frame arrives on LN8, or on LN9. -/
def Dev.commandReceive (m : Mem) (b : Bool) (frame : List Nat) (d : Dev) : Dev :=
  let payload := (frame.drop 14).take 36
  let good := frame.take 6 == d.macBytes LDG_OWN_MAC_LO && (frame.drop 12).take 2 == [0x88, if b then 0xB6 else 0xB5]
    && 64 ≤ frame.length && frame.drop (frame.length - 4) == leBytes 4 (crc32 (frame.take (frame.length - 4))).toNat
  if !d.ldgOn || !d.on 0xB2 LDG_NET_CFG_EN || !d.safetyLink b || !good then d
  else if !d.copyOk b payload then d.rxReject b
  else
    let body := if b then (payload.take 32).map (fun x => 255 - x % 256) else payload.take 32
    let other := (if b then d.ldg.rxA else d.ldg.rxB).find? (fun x =>
      pduCounter x.2 == pduCounter body && d.now ≤ x.1 + Config.ms 20)
    match other with
    | none =>
      let l := d.ldg
      { d with ldg := if b then { l with rxB := l.rxB ++ [(d.now, body)] } else { l with rxA := l.rxA ++ [(d.now, body)] } }
    | some x =>
      let l := d.ldg
      let d := { d with ldg := if b then { l with rxA := l.rxA.filter (fun y => y != x) }
                               else { l with rxB := l.rxB.filter (fun y => y != x) } }
      if x.2 == body then d.acceptCommand m body else d.bump 0xB2 LDG_RX_MISMATCH

/-- COMMAND_PAIR_TIMEOUT (R368): copies without a partner within 20 ms. -/
def Dev.pairTimeout (d : Dev) : Dev :=
  let l := d.ldg
  let old (x : Nat × List Nat) : Bool := x.1 + Config.ms 20 < d.now
  let d := { d with ldg := { l with rxA := l.rxA.filter (fun x => !old x), rxB := l.rxB.filter (fun x => !old x) } }
  (d.bumpBy 0xB2 LDG_RX_REJ_A (l.rxA.filter old).length).bumpBy 0xB2 LDG_RX_REJ_B (l.rxB.filter old).length

/-- NET_WATCHDOG_EXPIRY (R369). -/
def Dev.watchdog (m : Mem) (d : Dev) : Dev :=
  match d.ldg.lastAccept with
  | none => d
  | some t =>
    if d.netOk && t + Config.ms (max 20 (d.fld 0xB2 LDG_NET_CFG_WD_MS)) < d.now then
      let d := (Dev.setNetOk false { d with ldg := { d.ldg with anyCounter := true } }).bump 0xB2 LDG_WD_CNT
      Dev.ldgDecide m (d.raise 0xB0 6).ldgSelect
    else d

/-! ### Operation (R372, R375) -/

/-- The words that CFG_CRC covers: every register of pages 0xB0 to 0xB3 with RWL fields, in address order (R372). -/
def Dev.cfgWords (d : Dev) : List Nat :=
  (List.range 4).flatMap (fun i =>
    (pageRegs (0xB0 + i)).flatMap (fun r =>
      if r.rwl == 0 then [] else (List.range r.count).flatMap (fun j => leBytes 4 (d.regN (0xB0 + i) (r.off + r.step * j)))))

/-- PAGE_LOCK of a page 0xB0 to 0xB3 has been set (R372): with all four set CFG_CRC is formed and Lodge starts to operate. -/
def Dev.ldgLocked (m : Mem) (d : Dev) : Dev :=
  if d.hasLodge && (List.range 4).all (fun i => d.locked (0xB0 + i)) then
    let d := d.setReg 0xB0 LDG_CFG_CRC (crc32c d.cfgWords)
    if !d.ldgOn then d
    else
      let core : LdgCore := { outAt := some d.now }
      let d := { d with ldg := { d.ldg with
        cores := [(30, core), (31, core)]
        pins := (List.range 8).foldl (fun (p : SMap LdgPin) n => SMap.put {} p n { agreeSince := d.now }) [] } }
      Dev.ldgDecide m ((d.setFld 0xB3 LDG_OSSD_STATUS_TPO_RB 15).ldgSelect)
  else d

/-- The snapshot of Lodge's mailbox (R375). -/
def Dev.ldgSnapshot (sel : Nat) (d : Dev) : List Word :=
  if 2 < sel then [0, 0, 0, 0, 0]
  else
    let (num, a, b) := d.ldg.mismatch
    let part (m hi : Nat) : Word := BitVec.ofNat 32 (m / 2 ^ (64 * sel + 32 * hi))
    [part a 0, part a 1, part b 0, part b 1, BitVec.ofNat 32 num]

end Sys2Proof.Machine
end

