-- ==== Sys2Proof/Machine/Pergola.lean ====
section
/-! DEFINITION. The instructions of the Pergola cores (Point-processing cores, R299 to R318, Table 14-3). One step executes the
instruction at the core's PC. -/
namespace Sys2Proof.Machine

/-- What executing an instruction comes to: the next address follows; a taken branch; it waits unexecuted or has set the PC itself; it traps; the
body of a block repeat is skipped, its last address given. -/
inductive PglRes where
  | next (d : Dev)
  | jump (d : Dev) (target : Nat)
  | wait (d : Dev)
  | trap (cause : Nat)
  | skip (d : Dev) (last : Nat)

/-- Words a code memory holds (R301). -/
abbrev pglCodeWords : Nat := 65536

/-- The instruction at address a of core k's terrace. -/
def Dev.codeWord (d : Dev) (k a : Nat) : BitVec 48 := SMap.get 0 d.code (pglCodeWords * (k / 8) + a)

/-- Every opcode of Table 14-3. -/
def pglOpcode (op : Nat) : Bool :=
  (1 ≤ op && op ≤ 0x14) || (0x18 ≤ op && op ≤ 0x24) || (0x28 ≤ op && op ≤ 0x2C) || op == 0x30

/-- The PC lies outside the code that core k may execute (Table 14-7, R298). -/
def Dev.codeRangeBad (d : Dev) (k pc : Nat) : Bool :=
  d.variant == .is && k / 8 == 3 && (decide (49152 ≤ pc) != d.safetyCore k)

/-- A trap (R317): cause and PC recorded, the stop rules applied; on the pair a fault of channel B. -/
def Dev.coreTrap (k cause : Nat) (d : Dev) : Dev :=
  let p := pglPage k
  let pc := d.fld p PGL_PC_PC
  let d := ((d.setFld p PGL_TRAP_VALID 1).setFld p PGL_TRAP_CAUSE cause).setFld p PGL_TRAP_PC pc
  let d := (d.coreStop k pglTrapped).raise p 0
  if d.safetyCore k then d.ldgFault 4 else d

/-- The address after the one just executed, with the block repeats (R310), innermost first. -/
def repeatNext (a : Nat) : List (Nat × Nat × Nat) → Nat × List (Nat × Nat × Nat)
  | [] => ((a + 1) % 65536, [])
  | (s, e, n) :: rs =>
    if a != e then ((a + 1) % 65536, (s, e, n) :: rs)
    else if 1 < n then (s, (s, e, n - 1) :: rs)
    else repeatNext a rs

/-- ZLDs in flight are one step nearer (R308). -/
def ageZld (n : Nat) (js : List ZldJob) : List ZldJob := js.map (fun j => { j with left := j.left - n })

/-- ZLDs that are due land before the instruction (R308). -/
def Dev.zldDue (k : Nat) (d : Dev) : Dev :=
  let x := d.getCore k
  let due := x.zld.filter (fun j => j.left == 0)
  due.foldl (Dev.zldLand k) (d.setCore k { x with zld := x.zld.filter (fun j => j.left != 0) })

/-- The waiting accesses and the step's own (R302): the accesses that the step leaves free are made; where it leaves none, the oldest
has waited one step more, and at the 16th holds the core for one step. -/
def Dev.accessStep (k used : Nat) (d : Dev) : Dev :=
  let x := d.getCore k
  match x.access with
  | [] => d
  | a :: rest =>
    if used < 2 then d.accessServe k (2 - used)
    else if a.waited < 15 then d.setCore k { x with access := { a with waited := a.waited + 1 } :: rest }
    else (d.bump (pglPage k) PGL_HOLD_CNT).accessServe k 2

/-- An instruction has been executed: counts, ZLDs, the waiting access (R308, R314). -/
def Dev.executed (k used : Nat) (d : Dev) : Dev :=
  let x := d.getCore k
  let d := d.setCore k { x with zld := ageZld 1 x.zld, instrs := x.instrs.map (fun n => min (n + 1) (2 ^ 24 - 1)) }
  (d.bump (pglPage k) PGL_INSTR_CNT).accessStep k used

/-- Set the PC and the repeats that remain. -/
def Dev.setPc (k : Nat) (x : Nat × List (Nat × Nat × Nat)) (d : Dev) : Dev :=
  (d.setCore k { d.getCore k with reps := x.2 }).setFld (pglPage k) PGL_PC_PC x.1

/-- Finish an instruction at `pc` that made `used` data accesses. -/
def Dev.finish (k pc used : Nat) (d0 : Dev) (r : PglRes) : Dev :=
  match r with
  | .next d => let d := d.executed k used
               d.setPc k (repeatNext pc (d.getCore k).reps)
  | .skip d last => let d := d.executed k used
                    d.setPc k (repeatNext last (d.getCore k).reps)
  | .jump d target =>
    if !(d0.getCore k).reps.isEmpty then d0.coreTrap k trapNest
    else let d := d.executed k used
         d.setPc k (target % 65536, [])
  | .wait d => if d.coreState k == pglRunning then d else d.accessNow k
  | .trap c => d0.coreTrap k c

/-- The memory fields from which an instruction reads (Table 14-6). -/
def PglFields.reads (f : PglFields) : List Nat :=
  if [0x04, 0x06, 0x07, 0x08, 0x14, 0x1E, 0x29, 0x2B, 0x2C].contains f.op then [f.m1]
  else if f.op == 0x1D then [f.m2]
  else if (0x0A ≤ f.op && f.op ≤ 0x13) || [0x18, 0x19, 0x1A, 0x1C].contains f.op then [f.m1, f.m2]
  else []

/-- One step of core k (R308): the instruction at its PC, if its opcode satisfies `is`, runs. `used` tells which memory
fields the instruction uses. A PC outside the core's code traps whatever stands there. -/
def Dev.pglStepIf (k : Nat) (is : Nat → Bool) (used : PglFields → List Nat) (run : PglFields → Dev → PglRes) (d : Dev) : Dev :=
  if 32 ≤ k || d.coreState k != pglRunning || d.gated (4 + k / 8) then d
  else
    let pc := d.fld (pglPage k) PGL_PC_PC
    if d.codeRangeBad k pc then d.coreTrap k trapCodeRange
    else
      let f := pglFields (d.codeWord k pc)
      if !is f.op then d
      else
        let d := d.zldDue k
        d.finish k pc (accesses (used f)) (run f (d.corrects k ((d.getCore k).corrected f.reads)))

/-- One step with a given opcode. -/
def Dev.pglStep (k op : Nat) (used : PglFields → List Nat) (run : PglFields → Dev → PglRes) (d : Dev) : Dev :=
  d.pglStepIf k (fun o => o == op) used run

def useNone (_ : PglFields) : List Nat := []
def useM1 (f : PglFields) : List Nat := [f.m1]
def useM2 (f : PglFields) : List Nat := [f.m2]
def useBoth (f : PglFields) : List Nat := [f.m1, f.m2]

/-- A used field names a pointer that D names too and post-increments it. -/
def pointerClash (f : PglFields) (ms : List Nat) : Bool :=
  ms.any (fun m => memEn m && memMode m == 1 && f.d == 32 + memPtr m)

/-- Write D after the post-increments of the fields used. Where D is a pointer that the same instruction post-increments the
spec does not say which value stays: either one (log entry 13). -/
def Dev.putD (k : Nat) (f : PglFields) (ms : List Nat) (w : W24) (d : Dev) : Dev :=
  let phys := physOf (d.iph k) f.d
  let x := (d.getCore k).posts ms
  if pointerClash f ms then
    let (n, d) := d.draw
    d.setCore k (if n % 2 == 0 then x.writePhys phys w else x)
  else d.setCore k (x.writePhys phys w)

/-- The S operand of an instruction. -/
def Dev.srcS (d : Dev) (k : Nat) (f : PglFields) : Opnd := (d.getCore k).source (d.iph k) f.s f.m1

/-- The T operand of an instruction. -/
def Dev.srcT (d : Dev) (k : Nat) (f : PglFields) : Opnd := (d.getCore k).source (d.iph k) f.t f.m2

/-- An instruction D ← g S T, with flags of the result; `g` also answers the carry where the instruction sets C. -/
def Dev.alu (k : Nat) (g : W24 → W24 → W24 × Option Bool) (f : PglFields) (d : Dev) : PglRes :=
  match d.srcS k f, d.srcT k f with
  | .val a, .val b =>
    if isDest f.d then
      let (r, c) := g a b
      let d := d.putD k f [f.m1, f.m2] r
      let x := (d.getCore k).setZN r
      .next (d.setCore k (match c with | some c => { x with c := c } | none => x))
    else .trap trapIllegal
  | .trap c, _ => .trap c
  | _, .trap c => .trap c

/-- An instruction D ← g S, with flags when `flags`. -/
def Dev.unary (k : Nat) (flags : Bool) (g : W24 → W24) (f : PglFields) (d : Dev) : PglRes :=
  match d.srcS k f with
  | .trap c => .trap c
  | .val a =>
    if isDest f.d then
      let r := g a
      let d := d.putD k f [f.m1] r
      .next (if flags then d.setCore k ((d.getCore k).setZN r) else d)
    else .trap trapIllegal

/-- An instruction that takes an accumulator to a new exact value from S × T (R304). -/
def Dev.mac (k : Nat) (g : Int → Int → Int) (f : PglFields) (d : Dev) : PglRes :=
  match d.srcS k f, d.srcT k f with
  | .val a, .val b =>
    if isAcc f.d then
      let x := d.getCore k
      let (r, ovf) := accOf (g (x.readAcc f.d).toInt (a.toInt * b.toInt))
      let d := d.setCore k ((x.posts [f.m1, f.m2]).writeAcc f.d r)
      .next (if ovf then d.coreFlag k (if f.d == 48 then PGL_STATUS_OVF0 else PGL_STATUS_OVF1) else d)
    else .trap trapIllegal
  | .trap c, _ => .trap c
  | _, .trap c => .trap c

/-! ### Control and moves -/

def Dev.pglNop (k : Nat) (d : Dev) : Dev := d.pglStep k 0x01 useNone (fun _ d => .next d)

/-- HALT: the core stops and RUN is cleared; BOOT becomes NORMAL. A pair core that stops is a fault of channel B. -/
def Dev.pglHalt (k : Nat) (d : Dev) : Dev :=
  d.pglStep k 0x02 useNone (fun _ d =>
    let p := pglPage k
    let d := (d.bump p PGL_INSTR_CNT).setFld p PGL_CTRL_RUN 0
    let d := if d.coreMode k == modeBoot then d.setFld p PGL_CTRL_MODE modeNormal else d
    let d := d.coreStop k pglStopped
    .wait (if d.safetyCore k then d.ldgFault 4 else d))

def Dev.pglTrap (k : Nat) (d : Dev) : Dev :=
  d.pglStep k 0x03 useNone (fun f _ => .trap (0x80 + f.imm % 128))

def Dev.pglMov (k : Nat) (d : Dev) : Dev := d.pglStep k 0x04 useM1 (Dev.unary k true id)

def Dev.pglLdi (k : Nat) (d : Dev) : Dev :=
  d.pglStep k 0x05 useNone (fun f d =>
    if isDest f.d then .next (d.putD k f [] (BitVec.ofNat 24 f.imm)) else .trap trapIllegal)

/-- LD; with M1 disabled the value is left open (log entry 13). -/
def Dev.pglLd (k : Nat) (d : Dev) : Dev :=
  d.pglStep k 0x06 useM1 (fun f d =>
    if !isDest f.d then .trap trapIllegal
    else if memEn f.m1 then
      match d.srcS k f with
      | .trap c => .trap c
      | .val a => .next (d.putD k f [f.m1] a)
    else
      let (n, d) := d.draw
      .next (d.putD k f [] (BitVec.ofNat 24 n)))

/-- Store to M2; a disabled M2 stores nothing. -/
def Core.store (x : Core) (m : Nat) (a : W24) : Core :=
  if memEn m then x.putWord (x.memAddr m) a else x

def Dev.pglSt (k : Nat) (d : Dev) : Dev :=
  d.pglStep k 0x07 useBoth (fun f d =>
    match d.srcS k f with
    | .trap c => .trap c
    | .val a =>
      let x := d.getCore k
      match if memEn f.m2 then x.memTrap f.m2 else none with
      | some c => .trap c
      | none => .next (d.setCore k ((x.store f.m2 a).posts [f.m1, f.m2])))

/-- LDST: D takes M1 and M2 takes the register S; the load reads the value before the store. -/
def Dev.pglLdst (k : Nat) (d : Dev) : Dev :=
  d.pglStep k 0x08 useBoth (fun f d =>
    let x := d.getCore k
    match x.readReg (d.iph k) f.s, (if memEn f.m1 then x.readTrap f.m1 else none), (if memEn f.m2 then x.memTrap f.m2 else none) with
    | none, _, _ => .trap trapIllegal
    | _, some c, _ => .trap c
    | _, _, some c => .trap c
    | some a, none, none =>
      if !isDest f.d then .trap trapIllegal
      else
        let (w, d) := if memEn f.m1 then (SMap.get 0 x.data (x.memAddr f.m1), d)
          else let (n, d) := d.draw
               (BitVec.ofNat 24 n, d)
        .next (Dev.putD k f [f.m1, f.m2] w (d.setCore k (x.store f.m2 a))))

def Dev.pglGett (k : Nat) (d : Dev) : Dev :=
  d.pglStep k 0x09 useNone (fun f d =>
    if isDest f.d then .next (d.putD k f [] (BitVec.ofNat 24 (d.devTime / 1024))) else .trap trapIllegal)

/-! ### Arithmetic -/

def Dev.pglAdd (k : Nat) (d : Dev) : Dev := d.pglStep k 0x0A useBoth (Dev.alu k (fun a b => (a + b, some (carryOut a b))))
def Dev.pglSub (k : Nat) (d : Dev) : Dev := d.pglStep k 0x0B useBoth (Dev.alu k (fun a b => (a - b, some (borrowOut a b))))
def Dev.pglAnd (k : Nat) (d : Dev) : Dev := d.pglStep k 0x0C useBoth (Dev.alu k (fun a b => (a &&& b, none)))
def Dev.pglOr (k : Nat) (d : Dev) : Dev := d.pglStep k 0x0D useBoth (Dev.alu k (fun a b => (a ||| b, none)))
def Dev.pglXor (k : Nat) (d : Dev) : Dev := d.pglStep k 0x0E useBoth (Dev.alu k (fun a b => (a ^^^ b, none)))
def Dev.pglShlI (k : Nat) (d : Dev) : Dev := d.pglStep k 0x0F useBoth (Dev.alu k (fun a b => (pglShl a b, none)))
def Dev.pglShrI (k : Nat) (d : Dev) : Dev := d.pglStep k 0x10 useBoth (Dev.alu k (fun a b => (pglShr a b, none)))
def Dev.pglMaxI (k : Nat) (d : Dev) : Dev := d.pglStep k 0x12 useBoth (Dev.alu k (fun a b => (pglMax a b, none)))
def Dev.pglMinI (k : Nat) (d : Dev) : Dev := d.pglStep k 0x13 useBoth (Dev.alu k (fun a b => (pglMin a b, none)))
def Dev.pglAbsI (k : Nat) (d : Dev) : Dev := d.pglStep k 0x14 useM1 (Dev.unary k true pglAbs)

def Dev.pglCmp (k : Nat) (d : Dev) : Dev :=
  d.pglStep k 0x11 useBoth (fun f d =>
    match d.srcS k f, d.srcT k f with
    | .val a, .val b => .next (d.setCore k (((d.getCore k).posts [f.m1, f.m2]).setZNC (a - b) (borrowOut a b)))
    | .trap c, _ => .trap c
    | _, .trap c => .trap c)

def Dev.pglMpy (k : Nat) (d : Dev) : Dev := d.pglStep k 0x18 useBoth (Dev.mac k (fun _ p => p))
def Dev.pglMac (k : Nat) (d : Dev) : Dev := d.pglStep k 0x19 useBoth (Dev.mac k (fun a p => a + p))
def Dev.pglMsu (k : Nat) (d : Dev) : Dev := d.pglStep k 0x1A useBoth (Dev.mac k (fun a p => a - p))

def Dev.pglAadd (k : Nat) (d : Dev) : Dev :=
  d.pglStep k 0x1B useNone (fun f d =>
    if isAcc f.d && isAcc f.s then
      let x := d.getCore k
      let (r, ovf) := accOf ((x.readAcc f.d).toInt + (x.readAcc f.s).toInt)
      let d := d.setCore k (x.writeAcc f.d r)
      .next (if ovf then d.coreFlag k (if f.d == 48 then PGL_STATUS_OVF0 else PGL_STATUS_OVF1) else d)
    else .trap trapIllegal)

def Dev.pglLda (k : Nat) (d : Dev) : Dev :=
  d.pglStep k 0x1C useBoth (fun f d =>
    match d.srcS k f, d.srcT k f with
    | .val a, .val b =>
      if isAcc f.d then
        .next (d.setCore k (((d.getCore k).posts [f.m1, f.m2]).writeAcc f.d (BitVec.ofInt 56 (a.toInt * 2 ^ shOf b))))
      else .trap trapIllegal
    | .trap c, _ => .trap c
    | _, .trap c => .trap c)

def Dev.pglSta (k : Nat) (d : Dev) : Dev :=
  d.pglStep k 0x1D useM2 (fun f d =>
    match d.srcT k f with
    | .trap c => .trap c
    | .val b =>
      if isAcc f.s && isDest f.d then
        .next (d.putD k f [f.m2] (staValue ((d.getCore k).readAcc f.s) (shOf b) (d.on (pglPage k) PGL_CTRL_SATST)))
      else .trap trapIllegal)

def Dev.pglDstep (k : Nat) (d : Dev) : Dev :=
  d.pglStep k 0x1E useM1 (fun f d =>
    match d.srcS k f with
    | .trap c => .trap c
    | .val a =>
      if isAcc f.d then
        let x := d.getCore k
        .next (d.setCore k ((x.posts [f.m1]).writeAcc f.d (dstep (x.readAcc f.d) a)))
      else .trap trapIllegal)

def Dev.pglClrf (k : Nat) (d : Dev) : Dev :=
  d.pglStep k 0x1F useNone (fun _ d =>
    let p := pglPage k
    .next (((d.setFld p PGL_STATUS_OVF0 0).setFld p PGL_STATUS_OVF1 0).setFld p PGL_STATUS_ZSTALE 0))

/-! ### Branches and loops -/

def Dev.pglBr (k : Nat) (d : Dev) : Dev :=
  d.pglStep k 0x20 useNone (fun f d =>
    let p := pglPage k
    match (d.getCore k).cond (d.on p PGL_STATUS_OVF0) (d.on p PGL_STATUS_OVF1) (d.on p PGL_STATUS_ZSTALE) (f.t % 16) with
    | none => .trap trapIllegal
    | some true => .jump d (f.imm % 65536)
    | some false => .next d)

def Dev.pglCall (k : Nat) (d : Dev) : Dev :=
  d.pglStep k 0x21 useNone (fun f d =>
    let pc := d.fld (pglPage k) PGL_PC_PC
    .jump (d.setCore k ((d.getCore k).writePhys 46 (BitVec.ofNat 24 (pc + 1)))) (f.imm % 65536))

def Dev.pglRet (k : Nat) (d : Dev) : Dev :=
  d.pglStep k 0x22 useNone (fun _ d => .jump d ((SMap.get 0 (d.getCore k).k 14).toNat % 65536))

/-- Advance (R300). -/
def Dev.pglAdvance (k : Nat) (d : Dev) : Dev := d.setFld (pglPage k) PGL_STATUS_IPH (d.iph k + 1)

def Dev.pglLbr (k : Nat) (d : Dev) : Dev :=
  d.pglStep k 0x23 useNone (fun f d =>
    if 32 ≤ f.d && f.d < 48 then
      let x := d.getCore k
      let n := SMap.get 0 x.k (f.d - 32) - 1
      let d := Dev.pglAdvance k (d.setCore k (x.writePhys f.d n))
      if n == 0 then .next d else .jump d (f.imm % 65536)
    else .trap trapIllegal)

def Dev.pglAdv (k : Nat) (d : Dev) : Dev := d.pglStep k 0x24 useNone (fun _ d => .next (d.pglAdvance k))

/-- BRPT (R310). -/
def Dev.pglBrpt (k : Nat) (d : Dev) : Dev :=
  d.pglStep k 0x30 useNone (fun f d =>
    if d.coreMode k == modeNormal then .trap trapMode
    else if !(32 ≤ f.d && f.d < 48) then .trap trapIllegal
    else
      let x := d.getCore k
      let e := f.imm % 65536
      let n := (SMap.get 0 x.k (f.d - 32)).toNat
      let beyond := match x.reps with
        | (_, oe, _) :: _ => decide (oe < e)
        | [] => false
      if 3 ≤ x.reps.length || beyond then .trap trapNest
      else if n = 0 then .skip d e
      else
        let pc := d.fld (pglPage k) PGL_PC_PC
        let d := d.executed k 0
        .wait (d.setPc k ((pc + 1) % 65536, ((pc + 1) % 65536, e, n) :: x.reps)))

/-! ### Input, output, zoom store -/

/-- The next entry moves into K8 to K13 (R312); a SLOT_START is noted (R314, R315, PGL.SLOT_INSTR_LAST). -/
def Dev.popEntry (k : Nat) (e : PglEntry) (rest : List PglEntry) (d : Dev) : Dev :=
  let x := d.getCore k
  let x := (e.words.foldl (fun (a : Core × Nat) w => (a.1.writePhys (40 + a.2) w, a.2 + 1)) ({ x with queue := rest }, 0)).1
  let p := pglPage k
  match e.start with
  | none => (d.setCore k x).coreLevels k
  | some s =>
    let d := match x.instrs with
      | some n => (d.setFld p PGL_SLOT_INSTR_LAST_COUNT n).setFld p PGL_SLOT_INSTR_MAX_COUNT
          (max n (d.fld p PGL_SLOT_INSTR_MAX_COUNT))
      | none => d
    (d.setCore k { x with slot := some s, slotTime := d.devTime, instrs := some 0 }).coreLevels k

/-- POP as it executes: the entry, the wait, or the trap of a detached core. -/
def Dev.popRun (k : Nat) (d : Dev) : PglRes :=
  if !d.attached k then .trap trapDetached
  else match (d.getCore k).queue with
    | [] => .wait (d.setCoreState k pglInPop)
    | e :: rest => .next (d.popEntry k e rest)

def Dev.pglPop (k : Nat) (d : Dev) : Dev := d.pglStep k 0x28 useNone (fun _ d => d.popRun k)

/-- POP_RESUME (R308): an entry has come for a core that waits in POP. -/
def Dev.pglPopResume (k : Nat) (d : Dev) : Dev :=
  if 32 ≤ k || d.coreState k != pglInPop || (d.getCore k).queue.isEmpty then d
  else (d.setCoreState k pglRunning).pglPop k

/-- PUSHO (R315). -/
def Dev.pglPusho (k : Nat) (d : Dev) : Dev :=
  d.pglStep k 0x29 useM1 (fun f d =>
    match d.srcS k f with
    | .trap c => .trap c
    | .val a =>
      let x := d.getCore k
      if 1024 ≤ x.out.length then .trap trapOutFull
      else .next ((d.setCore k { x.posts [f.m1] with out := x.out ++ [a] }).coreLevels k))

/-- The payload of SEND (Table 14-6). -/
def Dev.outPayload (d : Dev) (k kind : Nat) : List Nat :=
  let x := d.getCore k
  leBytes 4 (x.slot.map (fun s => s.1)).toList.sum ++ [k, kind % 256] ++ leBytes 2 x.out.length ++ leBytes 8 d.devTime
    ++ x.out.flatMap (fun w => leBytes 3 w.toNat ++ [if w.msb then 255 else 0])

/-- SEND as it executes: the payload committed, or the wait for egress space. -/
def Dev.sendRun (k : Nat) (f : PglFields) (d : Dev) : PglRes :=
  let (d', ok) := d.offerPayload 5 (d.outPayload k f.imm)
  if ok then
    .next (((d'.setCore k { d'.getCore k with out := [] }).coreLevels k).bump (pglPage k) PGL_SEND_CNT)
  else .wait (d.setCoreState k pglInSend)

def Dev.pglSend (k : Nat) (d : Dev) : Dev := d.pglStep k 0x2A useNone (Dev.sendRun k)

/-- SEND_RESUME (R308): egress space has come for a core that waits in SEND. -/
def Dev.pglSendResume (k : Nat) (d : Dev) : Dev :=
  if 32 ≤ k || d.coreState k != pglInSend || !(d.offerPayload 5 (d.outPayload k 0)).2 then d
  else (d.setCoreState k pglRunning).pglSend k

/-- LSEND (R316, R349). -/
def Dev.pglLsend (m : Mem) (k : Nat) (d : Dev) : Dev :=
  d.pglStep k 0x2B useM1 (fun f d =>
    if !d.safetyCore k then .trap trapMode
    else match d.srcS k f with
      | .trap c => .trap c
      | .val a => .next (Dev.ldgWord m k a.toNat (d.setCore k ((d.getCore k).posts [f.m1]))))

/-- The zoom store item that S selects in the half of the slot's release, none when it is stale (R314). -/
def Dev.zoomItem (k s : Nat) (d : Dev) : Option W24 × Dev :=
  let t := k / 8
  match (d.getCore k).slot with
  | none => (none, d)
  | some (num, half) =>
    let i := (d.getOrg t).half half
    if i.slot != num then (none, d)
    else
      let ch := s / 2 ^ 8 % 512
      let w := s / 2 ^ 6 % 4
      if bitAt s 17 then
        let z := SMap.get 0 i.zwin (4 * ch + w)
        (some (BitVec.ofNat 24 (z / 2 ^ 31 % 2 * 2 ^ 23 + z % 2 ^ 19)), d)
      else
        let (n, d) := d.readCount i.dirty (d.zbin (512 * t + ch) half w (s % 64))
        (some (BitVec.ofNat 24 n), d)

/-- ZLD (R308, R314): the destination is fixed now; a fifth in flight waits until the oldest has landed. -/
def Dev.pglZld (k : Nat) (d : Dev) : Dev :=
  d.pglStep k 0x2C useM1 (fun f d =>
    match d.srcS k f with
    | .trap c => .trap c
    | .val a =>
      if !isDest f.d then .trap trapIllegal
      else
        let d := match (d.getCore k).zld with
          | j :: js =>
            if 3 ≤ js.length then (Dev.zldLand k (d.setCore k { d.getCore k with zld := ageZld j.left js }) j).zldDue k else d
          | [] => d
        let d := d.setCore k ((d.getCore k).posts [f.m1])
        let (v, d) := d.zoomItem k a.toNat
        let x := d.getCore k
        .next (d.setCore k { x with zld := x.zld ++ [⟨physOf (d.iph k) f.d, v.getD 0, v.isNone, 6⟩] }))

/-- ZLD_WRITEBACK (R308): the oldest ZLD lands when its six steps have passed, or while the core executes nothing. -/
def Dev.pglWriteback (k : Nat) (d : Dev) : Dev :=
  if 32 ≤ k then d
  else match (d.getCore k).zld with
    | [] => d
    | j :: js =>
      if j.left == 0 || d.coreState k != pglRunning then Dev.zldLand k (d.setCore k { d.getCore k with zld := js }) j else d

/-- ILLEGAL_OPCODE (R307). -/
def Dev.pglIllegal (k : Nat) (d : Dev) : Dev := d.pglStepIf k (fun o => !pglOpcode o) useNone (fun _ _ => .trap trapIllegal)

/-! ### Writes -/

/-- Whether a write of MODE is permitted (Table 14-4). -/
def Dev.modeAllowed (d : Dev) (k md : Nat) : Bool :=
  let still := d.coreState k == pglStopped || d.coreState k == pglTrapped
  if d.coreMode k == modeBoot then false
  else if md == modeNormal then true
  else if md == modeTest then still && d.devState != stScanning
  else if md == modeRecovery then still
  else false

/-- SATST and MODE of a write of PGL.CTRL (R298, R309). -/
def Dev.pglModeWrite (k : Nat) (w : Word) (d : Dev) : Dev :=
  if d.safetyCore k then d
  else
    let d := d.setFld (pglPage k) PGL_CTRL_SATST (bitsOf w 4 4)
    let md := bitsOf w 3 2
    if md != d.coreMode k && d.modeAllowed k md then d.setFld (pglPage k) PGL_CTRL_MODE md else d

/-- A write of PGL.CTRL (R298, R309, R318): SATST, then MODE, then RUN. -/
def Dev.pglCtrlWrite (k : Nat) (w : Word) (d : Dev) : Dev :=
  if d.safetyCore k then d
  else
    let p := pglPage k
    let d := (d.pglModeWrite k w).setFld p PGL_CTRL_RUN (bitsOf w 0 0)
    if bitsOf w 0 0 == 0 then
      if d.coreRuns k then d.coreStop k pglStopped
      else if d.coreState k == pglTrapped then d.setCoreState k pglStopped
      else d
    else if !d.coreRuns k && d.coreState k != pglParked && d.on (pglTerrace k) PGL_LOAD_STATUS_CODE_VALID then
      d.coreStart k (d.fld p PGL_ENTRY_ENTRY)
    else d

/-- The snapshot of a core's mailbox (R324). -/
def Dev.pglSnapshot (k sel : Nat) (d : Dev) : List Word :=
  let x := d.getCore k
  let w (v : W24) : Word := BitVec.ofNat 32 v.toNat
  if sel < 32 then [w ((x.readReg (d.iph k) sel).getD 0), 0]
  else if sel < 48 then [w (SMap.get 0 x.k (sel - 32)), 0]
  else if sel == 48 || sel == 49 then
    let a := x.readAcc sel
    [BitVec.ofNat 32 a.toNat, BitVec.ofInt 32 (a.toInt / 2 ^ 32)]
  else if sel == 50 then [BitVec.ofNat 32 x.slotTime, BitVec.ofNat 32 (x.slotTime / 2 ^ 32)]
  else [0, 0]

end Sys2Proof.Machine
end

