-- ==== Sys2Proof/Machine/Dma.lean ====
section
/-! DEFINITION. DMA channels: control, completion, errors and halts, rings (DMA engine and circular buffers, R328 to R338). The beats
themselves, which use the register fabric, are in DmaBeats. -/
namespace Sys2Proof.Machine

/-- DMA.STATUS.STATE codes. -/
abbrev dmaIdle : Nat := 0
abbrev dmaFetch : Nat := 1
abbrev dmaRun : Nat := 2
abbrev dmaWait : Nat := 3
abbrev dmaDrain : Nat := 4
abbrev dmaHalted : Nat := 5

/-- Page of channel c. -/
def dmaPage (c : Nat) : Nat := 0x97 + c

def Dev.getDma (d : Dev) (c : Nat) : DmaCh := SMap.get {} d.dma c
def Dev.setDma (c : Nat) (x : DmaCh) (d : Dev) : Dev := { d with dma := SMap.put {} d.dma c x }

/-- STATE of channel c. -/
def Dev.dmaState (d : Dev) (c : Nat) : Nat := d.fld (dmaPage c) DMA_STATUS_STATE

/-- Set STATE, and the common page's HALTED and ACTIVE with it (R342). -/
def Dev.setDmaState (c st : Nat) (d : Dev) : Dev :=
  let d := d.setFld (dmaPage c) DMA_STATUS_STATE st
  let d := d.setFld 0xAF ⟨DMA_HALTED, c, c⟩ (st == dmaHalted).toNat
  d.setFld 0xAF ⟨DMA_ACTIVE, c, c⟩ (1 ≤ st && st ≤ 4 : Bool).toNat

/-- The channel is not in IDLE or HALTED. -/
def Dev.dmaRuns (d : Dev) (c : Nat) : Bool := 1 ≤ d.dmaState c && d.dmaState c ≤ 4

/-- Length of the ring in bytes (DMA.RING_CFG). -/
def Dev.ringLen (d : Dev) (c : Nat) : Nat := 32 * max 2 (min (d.fld (dmaPage c) DMA_RING_CFG_LEN_32) 262144)

/-- Start of the ring. -/
def Dev.ringBase (d : Dev) (c : Nat) : Nat := 32 * d.fld (dmaPage c) DMA_RING_BASE_BASE

/-- Halt with a cause (R335, R336); the channel's record is the caller's. -/
def Dev.dmaHaltKeep (c cause addr desc rem : Nat) (d : Dev) : Dev :=
  let p := dmaPage c
  let d := (d.setFld p DMA_STATUS_CAUSE cause).setRegN p DMA_FAIL_ADDR addr
  let d := (d.setRegN p DMA_CUR_DESC desc).setFld p DMA_COUNT_REM_COUNT rem
  (d.setDmaState c dmaHalted).raise p 0

/-- Halt with a cause; nothing of the channel's transfers stays (R335, R338). -/
def Dev.dmaHalt (c cause addr desc rem : Nat) (d : Dev) : Dev :=
  (d.setDma c {}).dmaHaltKeep c cause addr desc rem

/-- The new geometry applies (R334); 16 bytes of a memory source that have left in part are moved again, to the new ring (log entry 59). -/
def Dev.ringApply (c : Nat) (d : Dev) : Dev :=
  let p := dmaPage c
  let x := d.getDma c
  let redo := match x.desc with
    | some ds => if ds.dstMode == 2 then x.moved % 16 else 0
    | none => 0
  let d := d.setDma c { x with resetDue := false, ringNext := 0, moved := x.moved - redo }
  let d := d.setFld p DMA_COUNT_REM_COUNT (d.fld p DMA_COUNT_REM_COUNT + redo)
  let d := (d.setRegN p DMA_WR_PTR 0).setRegN p DMA_RD_PTR 0
  (d.bump p DMA_RING_RESET).raise p 1

/-- DMA_RING_RESET (R334): a write to RING_BASE or RING_CFG while the channel runs; it waits for the responses. -/
def Dev.ringWritten (c : Nat) (d : Dev) : Dev :=
  if !d.dmaRuns c then d
  else if (d.getDma c).beats.isEmpty then d.ringApply c
  else d.setDma c { d.getDma c with resetDue := true }

/-- DMA_RD_PTR_WRITE (R332). -/
def Dev.rdPtrWrite (c v : Nat) (d : Dev) : Dev :=
  if v % 16 != 0 || d.ringLen c ≤ v then d.bump (dmaPage c) DMA_PTR_REJECT
  else d.setRegN (dmaPage c) DMA_RD_PTR v

/-- DMA_ENABLE (R328, R336): the descriptor at HEAD will be fetched; the record of a halt goes. -/
def Dev.dmaStart (c : Nat) (d : Dev) : Dev :=
  let p := dmaPage c
  let x := d.getDma c
  let ahead := (x.beats.map DmaBeat.ring).sum
  let d := d.setDma c { fetchAt := 32 * d.fld p DMA_HEAD_ADDR, ringNext := (d.fld p DMA_WR_PTR_PTR + ahead) % d.ringLen c,
                        opens := x.opens.filter (fun o => o.issued), beats := x.beats, ord := x.ord }
  let d := ((d.setFld p DMA_STATUS_CAUSE 0).setRegN p DMA_FAIL_ADDR 0).setFld p DMA_COUNT_REM_COUNT 0
  (d.setRegN p DMA_CUR_DESC 0).setDmaState c dmaFetch

/-- Records queued for a channel that is disabled are taken and discarded (R337). -/
def Dev.dmaDiscard (c : Nat) (d : Dev) : Dev :=
  let n := (d.pmp.streams.map (fun q => (q.2.filter (fun r => r.ch == c)).length)).sum
  let qs := d.pmp.streams.foldl (fun (m : SMap (List StreamRec)) q =>
    SMap.put [] m q.1 (q.2.filter (fun r => r.ch != c))) d.pmp.streams
  Dev.bumpBy { d with pmp := { d.pmp with streams := qs } } (dmaPage c) DMA_DISCARD n

/-- DMA_DISABLE (R336, R337). -/
def Dev.dmaStop (c : Nat) (d : Dev) : Dev :=
  let d := (d.setFld (dmaPage c) DMA_STATUS_TRIG_PENDING 0).dmaDiscard c
  if d.dmaState c == dmaHalted then d.setDmaState c dmaIdle
  else if !d.dmaRuns c then d
  else
    let x := d.getDma c
    if x.beats.isEmpty then
      let d := if x.resetDue then d.ringApply c else d
      (d.setDma c {}).setDmaState c dmaIdle
    else (d.setDma c { x with desc := none, opens := x.opens.filter (fun o => o.issued) }).setDmaState c dmaDrain

/-- A write of DMA.CTRL that left `d`, `old` before it: EN stops or starts the channel; the common EN = 0 keeps it off (R328,
R337, R342). -/
def Dev.dmaCtrlWritten (c : Nat) (d : Dev) : Dev :=
  if !d.on (dmaPage c) DMA_CTRL_EN then d.dmaStop c
  else if !d.on 0xAF DMA_COMMON_CTRL_EN then d.setFld (dmaPage c) DMA_CTRL_EN 0
  else if d.dmaState c == dmaIdle then d.dmaStart c
  else d

/-- DMA_COMMON_DISABLE (R342). -/
def Dev.dmaCommonWritten (d : Dev) : Dev :=
  if d.on 0xAF DMA_COMMON_CTRL_EN then d
  else (List.range 24).foldl (fun d c => (d.setFld (dmaPage c) DMA_CTRL_EN 0).dmaStop c) d

/-- Descriptors whose every response has returned complete in order, each with its pulse (R329). -/
def Dev.dmaComplete : Nat → Nat → Dev → Dev
  | 0, _, d => d
  | fuel + 1, c, d =>
    let x := d.getDma c
    match x.opens with
    | [] => d
    | o :: os =>
      if o.issued && !(x.beats.any (fun b => b.ord == o.ord)) then
        let d := d.setDma c { x with opens := os }
        Dev.dmaComplete fuel c (if o.doneEv then d.pulseOnly (256 + c) else d)
      else d

/-- The channel's state after a response: the end of the list, of DRAIN, of a ring reset's or a power-down's wait. -/
def Dev.dmaSettle (c : Nat) (d : Dev) : Dev :=
  let d := d.dmaComplete (d.getDma c).opens.length c
  let x := d.getDma c
  if !x.beats.isEmpty then d
  else
    let d := if x.resetDue then d.ringApply c else d
    if d.dmaState c == dmaDrain then
      let d := (d.setDma c {}).setDmaState c dmaIdle
      if d.on (dmaPage c) DMA_CTRL_EN then d.dmaStart c else d
    else if x.pwr then
      d.dmaHalt c 5 (d.regN (dmaPage c) DMA_FAIL_ADDR) (d.regN (dmaPage c) DMA_CUR_DESC) (d.fld (dmaPage c) DMA_COUNT_REM_COUNT)
    else if x.opens.isEmpty && x.last && d.dmaState c == dmaRun then (d.setDma c {}).setDmaState c dmaIdle
    else d

/-- DMA_WRITE_RESPONSE (R329, R332): the oldest beat's response returns without error; WR_PTR follows the ring's data. -/
def Dev.dmaResponse (c : Nat) (d : Dev) : Dev :=
  let x := d.getDma c
  match x.beats with
  | [] => d
  | b :: bs =>
    if 24 ≤ c || b.err then d
    else
      let p := dmaPage c
      let d := d.setDma c { x with beats := bs }
      let d := if b.ring = 0 then d else d.setRegN p DMA_WR_PTR ((d.fld p DMA_WR_PTR_PTR + b.ring) % d.ringLen c)
      d.dmaSettle c

/-- The domains that an address of a register page, its alias or a Pergola memory lies in. -/
def domainOf (a : Nat) : Option Nat :=
  if 0x40000000 ≤ a && a < 0x400B5000 then pageDomain ((a - 0x40000000) / 0x1000)
  else if 0x60000000 ≤ a && a < 0x616A0000 then pageDomain ((a - 0x60000000) / 32 / 0x1000)
  else if 0x20000000 ≤ a && a < 0x20800000 then some (4 + (a - 0x20000000) / 0x40000 / 8)
  else if 0x20800000 ≤ a && a < 0x20A00000 then some (4 + (a - 0x20800000) / 0x80000)
  else none

/-- Where the parts of the address map begin that can lie in different domains: register pages, their alias pages, the memories of the
cores and the terraces. -/
def domainStarts : List Nat :=
  (List.range 0xB5).flatMap (fun p => [0x40000000 + 0x1000 * p, 0x60000000 + 0x20000 * p])
    ++ (List.range 32).map (fun k => 0x20000000 + 0x40000 * k) ++ (List.range 4).map (fun t => 0x20800000 + 0x80000 * t)

/-- Whether a range touches domain k. -/
def touches (k a n : Nat) : Bool :=
  domainOf a == some k || domainStarts.any (fun b => a < b && b < a + n && domainOf b == some k)

/-- Whether the current descriptor has a source or destination in domain k (R338). -/
def DmaDesc.inDomain (x : DmaDesc) (k : Nat) : Bool :=
  (x.srcMode != 2 && touches k x.src (if x.srcMode == 1 then 1 else x.count))
    || (x.dstMode != 2 && touches k x.dst (if x.dstMode == 1 then 1 else x.count))

/-- Domain k is to be gated (R338, Table 15-4): channels that work in it stop; one whose responses have all returned halts. -/
def Dev.dmaPowerStop (k : Nat) (d : Dev) : Dev :=
  (List.range 24).foldl (fun (d : Dev) c =>
    let x := d.getDma c
    match x.desc with
    | some ds =>
      if d.dmaRuns c && ds.inDomain k then
        let p := dmaPage c
        let addr := match x.beats with
          | b :: _ => b.dst
          | [] => if ds.dstMode == 0 then ds.dst + x.moved else ds.dst
        let d := (d.setRegN p DMA_FAIL_ADDR addr).setDma c { x with pwr := true }
        if x.beats.isEmpty then d.dmaSettle c else d
      else d
    | none => d) d

/-- Domain k is about to be gated: outstanding accesses end as errors, and the channels halt (Table 15-4 step 3). -/
def Dev.dmaPowerHalt (d : Dev) : Dev :=
  (List.range 24).foldl (fun (d : Dev) c =>
    let x := d.getDma c
    if x.pwr then
      match x.beats with
      | b :: _ => (d.setDma c { x with beats := [] , opens := [] }).setRegN (dmaPage c) DMA_FAIL_ADDR b.dst |>.dmaSettle c
      | [] => d.dmaSettle c
    else d) d

end Sys2Proof.Machine
end

