-- ==== Sys2Proof/Machine/Otp.lean ====
section
/-! DEFINITION. One-time-programmable storage: map, generations, boot load, programming; the thermal manager's reactions
(R400 to R409, R210, R379). -/
namespace Sys2Proof.Machine

/-! ### Words -/

/-- The areas that the factory has programmed: factory, identity, vendor key slots, lifecycle (Table 18-3, R415). -/
def factoryWord (w : Nat) : Bool := w < 1024 || (3072 ≤ w && w < 3092) || (3328 ≤ w && w < 3392) || (3840 ≤ w && w < 4096)

/-- Word w of the OTP: programmed since, else as the factory left it, else blank. -/
def Dev.otpWord (d : Dev) (w : Nat) : Word :=
  SMap.get (if factoryWord w then BitVec.ofNat 32 (Config.factory w) else 0) d.otp.words w

/-- The bit errors of word w: 0 none, 1 one that the code corrects, 2 more; the words of the LMS thermometer carry no code (R403). -/
def Dev.otpErr (d : Dev) (w : Nat) : Nat := if 4096 ≤ w then 0 else SMap.get 0 d.otp.ecc w

/-- Word w holds an uncorrectable error. -/
def Dev.otpLost (d : Dev) (w : Nat) : Bool := 2 ≤ d.otpErr w

/-- Program word w. -/
def Dev.otpPut (w : Nat) (v : Word) (d : Dev) : Dev :=
  { d with otp := { d.otp with words := SMap.insert d.otp.words w v, ecc := SMap.put 0 d.otp.ecc w 0 } }

/-- Word i of generation g (R404). -/
def Dev.genWord (d : Dev) (g i : Nat) : Word := d.otpWord (1024 + 512 * g + i)

/-- Generation g is blank, or sealed (R405). -/
def Dev.genBlank (d : Dev) (g : Nat) : Bool := (List.range 512).all (fun i => d.genWord g i == 0)
def Dev.genSealed (d : Dev) (g : Nat) : Bool :=
  d.genWord g 511 == BitVec.ofNat 32 (0x5EA10000 + g) && d.otpErr (1024 + 512 * g + 511) == 0

/-- CRC over words 0 to 509 of a generation (Table 18-4). -/
def Dev.genCrc (d : Dev) (g : Nat) : BitVec 32 :=
  crc32c ((List.range 510).flatMap (fun i => leBytes 4 (d.genWord g i).toNat))

/-- Header and CRC of a generation are right (R406). -/
def Dev.genGood (d : Dev) (g : Nat) : Bool := d.genWord g 0 == 0x4C470001 && d.genWord g 510 == d.genCrc g

/-- No word from 0 to 510 of a generation holds an uncorrectable error (R406). -/
def Dev.genSound (d : Dev) (g : Nat) : Bool := (List.range 511).all (fun i => !d.otpLost (1024 + 512 * g + i))

/-- The open generation (R405): the lowest blank one above every one that is not blank; 4 for none. -/
def Dev.openGen (d : Dev) : Nat :=
  let top := (List.range 4).foldl (fun n g => if d.genBlank g then n else g + 1) 0
  if top < 4 then top else 4

/-- Whether the selected generation g (4: none) holds block j. -/
def Dev.present (d : Dev) (g j : Nat) : Bool := g < 4 && (d.genWord g 1).getLsbD j

/-- What a register takes from the factory area: a value the spec does not give, of its width. -/
def factoryValue (p off bits : Nat) : Nat := Config.factory (8192 + regKey p off) % 2 ^ bits

/-- The register whose factory value scanning budget k takes: the static-beam table is also the scanning table on AQ and DV (R1,
Table 00-1). -/
def Dev.scanSource (d : Dev) (k : Nat) : Nat := if d.variant == .is then GTH_BUD_SCAN_SEG + 4 * k else GTH_BUD_STAT_SEG + 4 * k

/-- Load Gatehouse and CAL registers from the selected generation, else from the factory area (R1, R210, R379, R404). -/
def Dev.otpLoad (g : Nat) (d : Dev) : Dev :=
  let put (p off bits j i : Nat) (d : Dev) : Dev :=
    d.setRegN p off (if d.present g j then (d.genWord g i).toNat else factoryValue p off bits)
  let d := (List.range 10).foldl (fun (d : Dev) k =>
    d.setRegN 0x85 (GTH_BUD_SCAN_SEG + 4 * k)
      (if d.present g 0 then (d.genWord g (2 + k)).toNat else factoryValue 0x85 (d.scanSource k) 32)) d
  let d := (List.range 10).foldl (fun (d : Dev) k =>
    let off := GTH_BUD_STAT_SEG + 4 * k
    let low := min (factoryValue 0x85 off 32) (d.regN 0x85 (GTH_BUD_SCAN_SEG + 4 * k))
    d.setRegN 0x85 off (if d.present g 1 then min low (d.genWord g (12 + k)).toNat else low)) d
  let d := put 0x85 GTH_PRED 16 2 22 d
  let d := put 0x85 GTH_OMEGA_MIN 24 3 23 d
  let d := put 0x85 GTH_VLIM 32 3 24 d
  let d := (List.range 4).foldl (fun (d : Dev) t => put 0x07 (CAL_VBD + 4 * t) 16 6 (25 + t) d) d
  let d := (List.range 64).foldl (fun (d : Dev) s => put 0x85 (GTH_EFF + 4 * s) 32 2 (32 + s) d) d
  let d := (List.range 64).foldl (fun (d : Dev) b =>
    let w := (d.genWord g (96 + b)).toNat
    d.setRegN 0x07 (CAL_BED + 4 * b)
      ((if d.present g 4 then w % 65536 else 0) + (if d.present g 5 then w / 65536 * 65536 else 0))) d
  let d := (List.range 512).foldl (fun (d : Dev) i => d.setRegN 0x07 (CAL_SKEW + 4 * i) (factoryValue 0x07 (CAL_SKEW + 4 * i) 32)) d
  d.setFld 0x85 GTH_STATUS_USER_TABLES (d.present g 0).toNat

/-- Some word of the factory area holds an uncorrectable error (R406). -/
def Dev.factoryLost (d : Dev) : Bool := (List.range 1024).any (fun w => d.otpLost w)

/-- Single-bit errors that boot has corrected (R403): how often it reads a word the spec does not say, so the count is open. -/
def Dev.bootCorrects (d : Dev) : Dev :=
  if (List.range 4096).any (fun w => d.otpErr w == 1) then
    let (n, d) := d.draw
    (d.bumpFirst 0x05 OTP_ECC_CORR 4).bumpBy 0x05 OTP_ECC_CORR n
  else d

/-- The generation is chosen at boot (R405, R406), and its values are loaded. -/
def Dev.otpBoot (d : Dev) : Dev :=
  let sealedBits := (List.range 4).foldl (fun n g => if d.genSealed g then n + 2 ^ g else n) 0
  let blankBits := (List.range 4).foldl (fun n g => if d.genBlank g then n + 2 ^ g else n) 0
  let newest := (List.range 4).foldl (fun (n : Option Nat) g => if d.genSealed g then some g else n) none
  let sel := match newest with
    | some g => if d.genGood g && d.genSound g then g else 4
    | none => 4
  let bad := newest.isSome && sel == 4
  let d := { d with otp := { d.otp with loaded := true } }
  let d := (d.setFld 0x05 OTP_STATUS_SEALED sealedBits).setFld 0x05 OTP_STATUS_BLANK blankBits
  let d := (d.setFld 0x05 OTP_STATUS_SELECTED sel).setFld 0x05 OTP_STATUS_OPEN d.openGen
  let d := d.setFld 0x05 OTP_STATUS_GEN_BAD bad.toNat
  let d := d.otpLoad sel
  if bad then d.raise 0x05 3 else d

/-! ### Programming (R407 to R409) -/

/-- OTP.PROG_STATUS.ERR codes. -/
abbrev otpArea : Nat := 1
abbrev otpUsed : Nat := 2
abbrev otpTemp : Nat := 3
abbrev otpState : Nat := 4
abbrev otpAborted : Nat := 5
abbrev otpSeal : Nat := 6
abbrev otpVerify : Nat := 7
abbrev otpBusy : Nat := 8

/-- A request is refused, or verification has failed. -/
def Dev.otpError (code : Nat) (d : Dev) : Dev := (d.setFld 0x05 OTP_PROG_STATUS_ERR code).raise 0x05 1

/-- The seal's checks (R408). -/
def Dev.sealOk (d : Dev) (g : Nat) (v : Word) : Bool :=
  v == BitVec.ofNat 32 (0x5EA10000 + g) && d.genGood g

/-- Why a request is refused, 0 when it is not (R407, R408, Table 18-5 step 5). -/
def Dev.otpRefusal (d : Dev) (w : Nat) (v : Word) : Nat :=
  let g := d.fld 0x05 OTP_STATUS_OPEN
  if d.otp.job.isSome then otpBusy
  else if d.on 0x05 OTP_STATUS_ABORTED then otpAborted
  else if 4 ≤ g || w < 1024 + 512 * g || 1024 + 512 * (g + 1) ≤ w then otpArea
  else if d.otpWord w != 0 then otpUsed
  else if !d.otpWindow then otpTemp
  else if d.devState != stStandby && d.devState != stArmed then otpState
  else if w == 1024 + 512 * g + 511 && !d.sealOk g v then otpSeal
  else 0

/-- OTP_PROGRAM_GO (R407): refused, complete at once for the value 0, or begun. -/
def Dev.otpGo (d : Dev) : Dev :=
  let w := d.fld 0x05 OTP_PROG_ADDR_WORD
  let v := d.reg 0x05 OTP_PROG_DATA
  let e := d.otpRefusal w v
  if e != 0 then d.otpError e
  else
    let d := d.setFld 0x05 OTP_PROG_STATUS_ERR 0
    if v == 0 then d
    else Dev.setFld { d with otp := { d.otp with job := some (w, v, false) } } 0x05 OTP_STATUS_BUSY 1

/-- OTP_PROGRAM_DONE (R407 to R409): the word is programmed and verified; a word that fails holds what the spec does not say. -/
def Dev.otpDone (ok : Bool) (d : Dev) : Dev :=
  match d.otp.job with
  | none => d
  | some (w, v, abort) =>
    let d := Dev.setFld { d with otp := { d.otp with job := none } } 0x05 OTP_STATUS_BUSY 0
    let g := (w - 1024) / 512
    let d := if ok then d.otpPut w v
      else let (f, d) := d.draw
           d.otpPut w (BitVec.ofNat 32 f)
    let d := d.clrBit 0x05 OTP_STATUS (4 + g)
    let d := if ok then (d.bump 0x05 OTP_PROG_CNT).raise 0x05 0 else d.otpError otpVerify
    let d := if ok && w == 1024 + 512 * g + 511 then (d.setBit 0x05 OTP_STATUS g).setFld 0x05 OTP_STATUS_OPEN 4 else d
    if abort then ((d.setFld 0x05 OTP_STATUS_ABORTED 1).setFld 0x05 OTP_STATUS_OPEN 4).raise 0x05 2 else d

/-- A read of OTP.RD_DATA (R403, R412): the identity area and addresses beyond the OTP read 0; RD_ADDR advances. A word with an
uncorrectable error has no stated value. -/
def Dev.otpRead (d : Dev) : Word × Dev :=
  let w := d.fld 0x05 OTP_RD_ADDR_WORD
  let adv (d : Dev) : Dev := d.setFld 0x05 OTP_RD_ADDR_WORD (w + 1)
  if (3072 ≤ w && w < 3328) || 6144 ≤ w then (0, adv d)
  else if d.otpLost w then
    let (n, d) := d.draw
    (BitVec.ofNat 32 n, adv d)
  else (d.otpWord w, adv (if d.otpErr w == 1 then d.bumpFirst 0x05 OTP_ECC_CORR 4 else d))

/-! ### Thermal reactions (R400, R401) -/

/-- The bits of THM.PARK_MASK park their cores while throttle holds with PARK_EN, and are unparked when it ends. -/
def Dev.parkCores (d : Dev) : Dev :=
  let on := d.throttled && d.on 0x06 THM_CTRL_PARK_EN
  (List.range 32).foldl (fun (d : Dev) k =>
    if d.safetyCore k then d
    else if on && d.bit 0x06 THM_PARK_MASK k then d.corePark k
    else d.coreUnpark k) d

/-- The device-level thermal states and what they bring (R399 to R401, R409). -/
def Dev.thermalFollow (d : Dev) : Dev :=
  let (d, t1, t0, s1) := d.tsStates
  let d := if t1 || t0 then d.parkCores else d
  if s1 then
    let d := d.otpAbort
    if d.devState == stStandby || d.devState == stArmed || d.devState == stScanning then d.enterState stSafeHold else d
  else d

/-- THERMAL_CONVERSION_DONE (R395 to R401, R216, R194): the conversion of sensor s measured `x`. -/
def Dev.thermalDone (s : Nat) (x : Measured) (d : Dev) : Dev :=
  if 14 ≤ s || !d.tsEnabled s then d
  else match d.tsMeasured s x with
    | none => d
    | some (r, d) => ((d.tsConvert s r).thermalFollow).chargingWindow

/-- READING_STALE (R395): a reading has grown older than 20 ms; Gatehouse and OTP_OK see it as faulted. -/
def Dev.readingStale (s : Nat) (d : Dev) : Dev :=
  match d.tsAge s with
  | none => d
  | some a =>
    if a ≤ Config.ms 20 then d
    else (d.setFld 0x06 THM_STATUS_OTP_OK d.otpWindow.toNat).chargingWindow

end Sys2Proof.Machine
end

