-- ==== Sys2Proof/Machine/Sha.lean ====
section
/-! DEFINITION. SHA-256, HMAC-SHA-256 and the LMS and HSS signatures of RFC 8554 with the parameter set of Table 19-1, over
byte lists (Firmware authenticity, identity and attestation, R413, R425, R426). -/
namespace Sys2Proof.Machine

/-! ### SHA-256 -/

/-- Word `i` of a number that holds `n` words, the first at its top. -/
def wordOf (n x i : Nat) : BitVec 32 := BitVec.ofNat 32 (x >>> (32 * (n - 1 - i)))

/-- The round constants, four to a number. -/
def shaConstants : List Nat := [
  0x428a2f9871374491b5c0fbcfe9b5dba5, 0x3956c25b59f111f1923f82a4ab1c5ed5,
  0xd807aa9812835b01243185be550c7dc3, 0x72be5d7480deb1fe9bdc06a7c19bf174,
  0xe49b69c1efbe47860fc19dc6240ca1cc, 0x2de92c6f4a7484aa5cb0a9dc76f988da,
  0x983e5152a831c66db00327c8bf597fc7, 0xc6e00bf3d5a7914706ca635114292967,
  0x27b70a852e1b21384d2c6dfc53380d13, 0x650a7354766a0abb81c2c92e92722c85,
  0xa2bfe8a1a81a664bc24b8b70c76c51a3, 0xd192e819d6990624f40e3585106aa070,
  0x19a4c1161e376c082748774c34b0bcb5, 0x391c0cb34ed8aa4a5b9cca4f682e6ff3,
  0x748f82ee78a5636f84c878148cc70208, 0x90befffaa4506cebbef9a3f7c67178f2]

/-- The hash value before the first block, its eight words in one number. -/
def shaStart : List (BitVec 32) := (List.range 8).map (wordOf 8 0x6a09e667bb67ae853c6ef372a54ff53a510e527f9b05688c1f83d9ab5be0cd19)

/-- The exclusive or of three rotations to the right. -/
def spread (i j k : Nat) (x : BitVec 32) : BitVec 32 := x.rotateRight i ^^^ x.rotateRight j ^^^ x.rotateRight k

/-- One round on the eight working words with the sum of its constant and its schedule word: a choice of f and g by e, a majority
of a, b and c. -/
def shaRound (v : List (BitVec 32)) (kw : BitVec 32) : List (BitVec 32) :=
  match v with
  | [a, b, c, d, e, f, g, h] =>
    let add := h + spread 6 11 25 e + (g ^^^ (e &&& (f ^^^ g))) + kw
    let most := (a &&& (b ||| c)) ||| (b &&& c)
    [add + spread 2 13 22 a + most, a, b, c, d + add, e, f, g]
  | _ => v

/-- `n` more words of the message schedule in front of the words `ws`, newest first. -/
def shaSchedule : Nat → List (BitVec 32) → List (BitVec 32)
  | 0, ws => ws
  | n + 1, ws =>
    let old (i : Nat) : BitVec 32 := ws.getD (i - 1) 0
    let near := (old 2).rotateRight 17 ^^^ (old 2).rotateRight 19 ^^^ (old 2 >>> 10)
    let far := (old 15).rotateRight 7 ^^^ (old 15).rotateRight 18 ^^^ (old 15 >>> 3)
    shaSchedule n ((near + old 7 + (far + old 16)) :: ws)

/-- One compression of a 64-byte block. -/
def shaBlock (v : List (BitVec 32)) (bs : List Nat) : List (BitVec 32) :=
  let m := ofBe bs
  let ws := (shaSchedule 48 ((List.range 16).map (fun i => wordOf 16 m (15 - i)))).reverse
  let ks := shaConstants.flatMap (fun k => (List.range 4).map (wordOf 4 k))
  List.zipWith (· + ·) v ((List.zipWith (· + ·) ks ws).foldl shaRound v)

/-- All blocks of a padded message, `n` of them. -/
def shaBlocks : Nat → List (BitVec 32) → List Nat → List (BitVec 32)
  | 0, v, _ => v
  | n + 1, v, bs => shaBlocks n (shaBlock v (bs.take 64)) (bs.drop 64)

/-- SHA-256 of a byte list, 32 bytes. -/
def sha256 (m : List Nat) : List Nat :=
  let pad := 0x80 :: List.replicate ((119 - m.length % 64) % 64) 0 ++ beBytes 8 (8 * m.length)
  (shaBlocks ((m.length + pad.length) / 64) shaStart (m ++ pad)).flatMap (fun w => beBytes 4 w.toNat)

/-- HMAC-SHA-256 with a key of at most 64 bytes. -/
def hmac256 (key m : List Nat) : List Nat :=
  let k := key ++ List.replicate (64 - key.length) 0
  sha256 (k.map (fun b => b ^^^ 0x5C) ++ sha256 (k.map (fun b => b ^^^ 0x36) ++ m))

/-! ### LM-OTS and LMS -/

/-- Type codes of Table 19-1. -/
abbrev lmsTop : Nat := 6
abbrev lmsBottom : Nat := 7
abbrev lmotsType : Nat := 3

/-- Chains of a one-time signature: 64 digits of the digest and 3 of its checksum. -/
abbrev otsChains : Nat := 67

/-- The 4-bit digit i of a byte string. -/
def otsDigit (bs : List Nat) (i : Nat) : Nat := let b := bs.getD (i / 2) 0; if i % 2 == 0 then b / 16 % 16 else b % 16

/-- The checksum of a 32-byte digest, with its left shift of 4. -/
def otsChecksum (q : List Nat) : List Nat :=
  beBytes 2 (16 * ((List.range 64).map (fun i => 15 - otsDigit q i)).sum)

/-- The digits signed for a digest. -/
def otsDigits (q : List Nat) : List Nat := (List.range otsChains).map (otsDigit (q ++ otsChecksum q))

/-- Chain i from step `j` on, `n` steps. -/
def otsChain (id : List Nat) (q i : Nat) : Nat → Nat → List Nat → List Nat
  | 0, _, x => x
  | n + 1, j, x => otsChain id q i n (j + 1) (sha256 (id ++ beBytes 4 q ++ beBytes 2 i ++ [j] ++ x))

/-- The digest of a message under leaf q with randomizer c. -/
def otsDigest (id : List Nat) (q : Nat) (c m : List Nat) : List Nat := sha256 (id ++ beBytes 4 q ++ [0x81, 0x81] ++ c ++ m)

/-- The one-time public key from the ends of its chains. -/
def otsPublic (id : List Nat) (q : Nat) (ends : List (List Nat)) : List Nat :=
  sha256 (id ++ beBytes 4 q ++ [0x80, 0x80] ++ ends.flatten)

/-- Piece i of 32 bytes. -/
def piece (bs : List Nat) (i : Nat) : List Nat := (bs.drop (32 * i)).take 32

/-- The one-time public key that a signature (after its type code: C, then the chains) makes of a message. -/
def otsCandidate (id : List Nat) (q : Nat) (sig m : List Nat) : List Nat :=
  let ds := otsDigits (otsDigest id q (sig.take 32) m)
  let ys := sig.drop 32
  otsPublic id q ((List.range otsChains).map (fun i => let a := ds.getD i 0; otsChain id q i (15 - a) a (piece ys i)))

/-- The root that a leaf's key and a path of `n` nodes give. -/
def lmsRoot (id : List Nat) : Nat → Nat → List Nat → List Nat → List Nat
  | 0, _, x, _ => x
  | n + 1, node, x, path =>
    let p := path.take 32
    let y := sha256 (id ++ beBytes 4 (node / 2) ++ [0x83, 0x83] ++ (if node % 2 == 1 then p ++ x else x ++ p))
    lmsRoot id n (node / 2) y (path.drop 32)

/-- The hash of a leaf. -/
def lmsLeaf (id : List Nat) (node : Nat) (k : List Nat) : List Nat := sha256 (id ++ beBytes 4 node ++ [0x82, 0x82] ++ k)

/-- LMS verification of a signature under a 56-byte public key of tree height h (RFC 8554). -/
def lmsVerify (h : Nat) (pub sig m : List Nat) : Bool :=
  let id := (pub.drop 8).take 16
  let q := ofBe (sig.take 4)
  let k := otsCandidate id q ((sig.drop 8).take 2176) m
  q < 2 ^ h && lmsRoot id h (2 ^ h + q) (lmsLeaf id (2 ^ h + q) k) ((sig.drop 2188).take (32 * h)) == pub.drop 24

/-- The type codes and Nspk of an HSS public key and signature (R413). -/
def hssTypes (pub sig : List Nat) : Bool :=
  let w (bs : List Nat) (o : Nat) : Nat := ofBe ((bs.drop o).take 4)
  w pub 0 == 2 && w pub 4 == lmsTop && w pub 8 == lmotsType && w sig 0 == 1
    && w sig 8 == lmotsType && w sig 2188 == lmsTop
    && w sig 2512 == lmsBottom && w sig 2516 == lmotsType
    && w sig 2572 == lmotsType && w sig 4752 == lmsBottom

/-- HSS verification with L = 2 (RFC 8554): the top tree signs the bottom public key, which signs the message. -/
def hssVerify (pub sig m : List Nat) : Bool :=
  let pub1 := (sig.drop 2512).take 56
  lmsVerify 10 (pub.drop 4) ((sig.drop 4).take 2508) pub1 && lmsVerify 15 pub1 (sig.drop 2568) m

/-! ### Signing (RFC 8554 Appendix A) -/

/-- The start of chain i of leaf q. -/
def otsSecret (id seed : List Nat) (q i : Nat) : List Nat := sha256 (id ++ beBytes 4 q ++ beBytes 2 i ++ [0xFF] ++ seed)

/-- The one-time public key of leaf q. -/
def otsKey (id seed : List Nat) (q : Nat) : List Nat :=
  otsPublic id q ((List.range otsChains).map (fun i => otsChain id q i 15 0 (otsSecret id seed q i)))

/-- A node of a tree, `n` levels above the leaves of a tree of height h. -/
def lmsNode (id seed : List Nat) (h : Nat) : Nat → Nat → List Nat
  | 0, node => lmsLeaf id node (otsKey id seed (node - 2 ^ h))
  | n + 1, node =>
    sha256 (id ++ beBytes 4 node ++ [0x83, 0x83] ++ lmsNode id seed h n (2 * node) ++ lmsNode id seed h n (2 * node + 1))

/-- The 56-byte public key of a tree. -/
def lmsPublic (type h : Nat) (id seed : List Nat) : List Nat :=
  beBytes 4 type ++ beBytes 4 lmotsType ++ id ++ lmsNode id seed h h 1

/-- An LMS signature by leaf q with randomizer c. -/
def lmsSign (type h : Nat) (id seed : List Nat) (q : Nat) (c m : List Nat) : List Nat :=
  let ds := otsDigits (otsDigest id q c m)
  let ys := (List.range otsChains).flatMap (fun i => otsChain id q i (ds.getD i 0) 0 (otsSecret id seed q i))
  let path := (List.range h).flatMap (fun j =>
    let node := (2 ^ h + q) / 2 ^ j
    lmsNode id seed h j (if node % 2 == 1 then node - 1 else node + 1))
  beBytes 4 q ++ beBytes 4 lmotsType ++ c ++ ys ++ beBytes 4 type ++ path

end Sys2Proof.Machine
end

