-- ==== Sys2Proof/Machine/Security.lean ====
section
/-! DEFINITION. Signed objects, code loads, boot verification, tokens, identity and attestation (Firmware authenticity, identity and
attestation, R413 to R434; R319, R320). -/
namespace Sys2Proof.Machine

/-! ### Keys (R415, R416) -/

/-- First word of a slot's hash, and its revocation word: class 0 vendor, 1 customer (Table 19-2). -/
def slotWord (cls slot : Nat) : Nat := 3328 + 64 * cls + 8 * slot
def revokeWord (cls slot : Nat) : Nat := 3456 + 8 * cls + slot
def svnWord (cls i : Nat) : Nat := 3472 + 32 * cls + i

/-- The hash that a slot holds, 32 bytes. -/
def Dev.slotHash (d : Dev) (cls slot : Nat) : List Nat :=
  (List.range 8).flatMap (fun i => leBytes 4 (d.otpWord (slotWord cls slot + i)).toNat)

/-- A slot's hash words are all blank. -/
def Dev.slotBlank (d : Dev) (cls slot : Nat) : Bool := (List.range 8).all (fun i => d.otpWord (slotWord cls slot + i) == 0)

/-- A live slot (R416). -/
def Dev.slotLive (d : Dev) (cls slot : Nat) : Bool :=
  !d.slotBlank cls slot && d.otpWord (revokeWord cls slot) == 0 && !d.otpLost (revokeWord cls slot)
    && (List.range 8).all (fun i => !d.otpLost (slotWord cls slot + i))

/-- The live slots of a class, as a set. -/
def Dev.liveSet (d : Dev) (cls : Nat) : Nat := (List.range 8).foldl (fun n s => if d.slotLive cls s then n + 2 ^ s else n) 0

/-- MIN_SVN of a class (R416). -/
def Dev.minSvn (d : Dev) (cls : Nat) : Nat := ((List.range 32).filter (fun i => d.otpWord (svnWord cls i) != 0)).length

/-- Customer mode (R416). -/
def Dev.custMode (d : Dev) : Bool := d.liveSet 1 != 0

/-- SEC.KEYS and CUST_MODE follow the OTP. -/
def Dev.keysFollow (d : Dev) : Dev :=
  let d := (d.setFld 0x04 SEC_KEYS_V_LIVE (d.liveSet 0)).setFld 0x04 SEC_KEYS_C_LIVE (d.liveSet 1)
  let d := (d.setFld 0x04 SEC_KEYS_V_MIN_SVN (d.minSvn 0)).setFld 0x04 SEC_KEYS_C_MIN_SVN (d.minSvn 1)
  d.setFld 0x04 SEC_STATUS_CUST_MODE d.custMode.toNat

/-- SEC.CHALLENGE takes 16 bytes from the random-number generator, which the spec leaves open (R422, log entry 2). -/
def Dev.newChallenge (d : Dev) : Dev :=
  (List.range 4).foldl (fun (d : Dev) i =>
    let (n, d) := d.draw
    d.setRegN 0x04 (SEC_CHALLENGE + 4 * i) n) d

/-- One above the highest programmed thermometer bit (R428). -/
def Dev.nextBlock (d : Dev) : Nat :=
  (List.range 2048).foldl (fun n i =>
    let w := (d.otpWord (4096 + i)).toNat
    if w = 0 then n else 32 * i + Nat.log2 w + 1) 0

/-- SEC.ID_BLOCKS follows. -/
def Dev.blocksFollow (d : Dev) : Dev := d.setFld 0x04 SEC_ID_BLOCKS_FREE (65536 - d.nextBlock)

/-- What security loads at boot, no later than 2 ms after the end of the last reset cause (Table 21-5). An uncorrectable error in the
factory area stops the boot in FAULT (R406). -/
def Dev.bootLoad (d : Dev) : Dev :=
  let d := d.bootCorrects
  if d.factoryLost then Dev.enterFault DEV_FAULT_CAUSE_OTP_FACTORY { d with otp := { d.otp with loaded := true } }
  else ((d.otpBoot.newChallenge).keysFollow).blocksFollow

/-! ### Verification (R417 to R419) -/

/-- Bytes of a signature block (R417). -/
abbrev sigBlockLen : Nat := 5304

/-- A signed object: code of Table 19-4 (0: accepted), SHA-256 of the signed message, the signer's two bytes. -/
structure Verified where
  code : Nat
  digest : List Nat
  signer : Nat × Nat
deriving DecidableEq, Repr

/-- Check the object whose message before the block is `n` bytes at `a` (Table 19-4). `format` tells that the object's own MAGIC
and reserved bytes are right, `permitted` judges class and slot; `key` is the hash that the public key must have, given
class and slot, none where the slot must be live and hold it. -/
def Dev.verify (m : Mem) (a n : Nat) (format : Bool) (permitted : Nat → Nat → Bool) (key : Option (List Nat)) (d : Dev) : Verified :=
  let b := a + n
  let inside := b + sigBlockLen ≤ Config.sramBytes
  if !inside then ⟨1, [], (0, 0)⟩
  else
    let blk := memBytes m b sigBlockLen
    let cls := blk.getD 4 0
    let slot := blk.getD 5 0
    let svn := ofLe ((blk.drop 6).take 2)
    let pub := (blk.drop 8).take 60
    let sig := blk.drop 68
    let msg := memBytes m a n ++ blk.take 8
    let digest := sha256 msg
    let keyOk := match key with
      | some h => sha256 pub == h
      | none => d.slotLive cls slot && sha256 pub == d.slotHash cls slot
    let code :=
      if !format || ofLe (blk.take 4) != 0x4C530001 || 1 < cls || 7 < slot then 1
      else if !permitted cls slot || !keyOk then 2
      else if svn < d.minSvn cls then 3
      else if !hssTypes pub sig then 4
      else if !hssVerify pub sig msg then 5
      else 0
    ⟨code, digest, (slot + 8 * cls, svn % 256)⟩

/-- A rejection is recorded (SEC.VERIFY_LAST). -/
def Dev.verifyNote (code : Nat) (d : Dev) : Dev := if code = 0 then d else d.setFld 0x04 SEC_VERIFY_LAST_CODE code

/-- Record a loaded image at place i of Table 19-8. -/
def Dev.noteImage (i : Nat) (digest : List Nat) (signer : Nat × Nat) (d : Dev) : Dev :=
  { d with sec := { d.sec with digests := SMap.put [] d.sec.digests i digest, signers := SMap.put (0, 0) d.sec.signers i signer } }

/-! ### Pergola code loads (R319, R320) -/

/-- The header of a Pergola image (Table 14-8): MAGIC and reserved bytes right, TERRACES, SAFETY, FIRST, COUNT, ENTRY,
BOOT_ENTRY, VERSION. -/
structure PglHeader where
  format : Bool
  terraces : Nat
  safety : Bool
  first : Nat
  count : Nat
  entry : Nat
  bootEntry : Nat
  version : Nat
deriving DecidableEq, Repr

def pglHeader (m : Mem) (a : Nat) : PglHeader :=
  let h := memBytes m a 32
  let at_ (o n : Nat) : Nat := ofLe ((h.drop o).take n)
  ⟨at_ 0 4 == 0x4C500001 && at_ 4 1 < 32 && at_ 5 3 == 0 && at_ 10 2 == 0 && at_ 12 4 < 2 ^ 17 && at_ 24 8 == 0,
   at_ 4 1 % 16, bitAt (at_ 4 1) 4, at_ 8 2, at_ 12 4 % 2 ^ 17, at_ 16 2, at_ 18 2, at_ 20 4⟩

/-- Why a load into terrace t is refused, 0 when it is not: PGL.LOAD_STATUS.ERR (R320). A safety image goes nowhere but into the safety
partition (R298, R319); into another place it is refused by its range (log entry 83). -/
def Dev.pglRefusal (m : Mem) (t a : Nat) (d : Dev) : Nat :=
  let h := pglHeader m a
  let running := (List.range 8).any (fun j =>
    let k := 8 * t + j
    !d.safetyCore k && d.coreState k != pglStopped && d.coreState k != pglTrapped)
  let fence := if h.safety then h.first < 49152 || t != 3 else d.variant == .is && t == 3 && 49152 < h.first + h.count
  if (SMap.get none d.pglLoads t).isSome then 7
  else if running then 1
  else if Config.sramBytes < a + 32 + 8 * h.count + sigBlockLen then 3
  else if !bitAt h.terraces t then 4
  else if h.safety && (d.devState != stBoot || d.variant != .is) then 6
  else if 65536 < h.first + h.count || h.count = 0 || fence then 2
  else 0

/-- Write the instructions of an image to the terrace's code memory. -/
def Dev.codeWrite (m : Mem) (t a first count : Nat) (d : Dev) : Dev :=
  { d with code := (List.range count).foldl (fun (c : SMap (BitVec 48)) i =>
      SMap.put 0 c (pglCodeWords * t + first + i) (BitVec.ofNat 48 (ofLe (memBytes m (a + 32 + 8 * i) 6)))) d.code }

/-- A load into terrace t of the image at `a` (R320): refused, or begun: CODE_VALID falls, the words are written and hashed. -/
def Dev.loadBegin (m : Mem) (t a : Nat) (d : Dev) : Dev :=
  let p := pglTerrace (8 * t)
  let e := d.pglRefusal m t a
  if e != 0 then (d.setFld p PGL_LOAD_STATUS_ERR e).raise p 9
  else
    let h := pglHeader m a
    let vendor := h.safety || !d.custMode
    let pads := (List.range h.count).all (fun i => (memBytes m (a + 32 + 8 * i + 6) 2) == [0, 0])
    let v := d.verify m a (32 + 8 * h.count) (h.format && pads) (fun c _ => c == (if vendor then 0 else 1)) none
    let d := d.setFld p (if h.safety then PGL_LOAD_STATUS_SAFETY_VALID else PGL_LOAD_STATUS_CODE_VALID) 0
    let d := (d.setFld p PGL_LOAD_STATUS_ERR 0).setFld p PGL_LOAD_STATUS_BUSY 1
    let d := d.codeWrite m t a h.first h.count
    let l : PglLoad := ⟨h.first, h.count, v.code, h.entry, h.bootEntry, h.version, v.digest, v.signer⟩
    { d with pglLoads := SMap.put none d.pglLoads t (some l) }

/-- The image of a load lies in the safety partition (R298). -/
def Dev.isSafetyLoad (d : Dev) (t : Nat) (l : PglLoad) : Bool := d.variant == .is && t == 3 && 49152 ≤ l.first

/-- PGL_LOAD_DONE (R320): the load of terrace t ends with verified code, or its range is cleared. -/
def Dev.loadEnd (t : Nat) (d : Dev) : Dev :=
  let p := pglTerrace (8 * t)
  match SMap.get none d.pglLoads t with
  | none => d
  | some l =>
    let d := Dev.setFld { d with pglLoads := SMap.put none d.pglLoads t none } p PGL_LOAD_STATUS_BUSY 0
    if l.code = 0 then
      let safe := d.isSafetyLoad t l
      let d := (d.setFld p (if safe then PGL_LOAD_STATUS_SAFETY_VALID else PGL_LOAD_STATUS_CODE_VALID) 1).setFld p PGL_LOAD_STATUS_ERR 0
      let d := (List.range 8).foldl (fun (d : Dev) j =>
        if d.safetyCore (8 * t + j) == safe then d.setFld (pglPage (8 * t + j)) PGL_ENTRY_ENTRY l.entry else d) d
      let d := (if safe then { d with sec := { d.sec with safetyVersion := l.version } } else d).setRegN p PGL_CODE_VERSION l.version
      (d.noteImage (if safe then 5 else 1 + t) l.digest l.signer).raise p 8
    else
      let d := { d with code := (List.range l.count).foldl (fun (c : SMap (BitVec 48)) i =>
        SMap.put 0 c (pglCodeWords * t + l.first + i) 0) d.code }
      ((d.setFld p PGL_LOAD_STATUS_ERR 5).verifyNote l.code).raise p 9

/-- PGL_LOAD (R320): a write of 1 to PGL.LOAD_CTRL.LOAD of terrace t. -/
def Dev.pglLoad (m : Mem) (t : Nat) (d : Dev) : Dev := d.loadBegin m t (4096 * d.fld (pglTerrace (8 * t)) PGL_LOAD_SRC_BASE)

/-! ### Boot (R420, R421) -/

/-- A rejection or absence is reported; the first of an attempt is kept (R421). -/
def Dev.bootReport (image err : Nat) (d : Dev) : Dev :=
  let d := if d.on 0x04 SEC_BOOT_STATUS_ERR then d
    else (d.setFld 0x04 SEC_BOOT_STATUS_IMAGE image).setFld 0x04 SEC_BOOT_STATUS_ERR err
  d.raise 0x04 0

/-- K_D (R426). -/
def Dev.identity (d : Dev) (w n : Nat) : List Nat := (List.range n).flatMap (fun i => leBytes 4 (d.otpWord (w + i)).toNat)
def Dev.deriveKd (d : Dev) : List Nat := hmac256 (d.identity 3084 8) ([0x4B, 0x44] ++ beBytes 4 1)

/-- A word of the identity area holds an uncorrectable error (R426). -/
def Dev.identityLost (d : Dev) : Bool := (List.range 256).any (fun i => d.otpLost (3072 + i))

/-- SEC_BOOT_GO (R420, R426): in BOOT, once the boot load has been made. -/
def Dev.bootGo (d : Dev) : Dev :=
  if d.devState != stBoot || !d.otp.loaded || d.sec.booting then d
  else
    let lost := d.identityLost
    let d := { d with sec := { d.sec with booting := true, kd := if lost then none else some d.deriveKd } }
    let d := (d.setFld 0x04 SEC_BOOT_STATUS_IMAGE 0).setFld 0x04 SEC_BOOT_STATUS_ERR 0
    let d := d.setFld 0x04 SEC_BOOT_STATUS_STEP 1
    if lost then (d.setFld 0x04 SEC_STATUS_ID_BAD 1).setFld 0x54 GZB_SEQ_STATUS_KEY_OK 0
    else (d.setFld 0x54 GZB_SEQ_STATUS_KEY_OK 1).setFld 0x04 SEC_STATUS_KEY_OK 1

/-- The management image's verification: header, then Table 19-4 (R419, R420). -/
def Dev.verifyMgmt (m : Mem) (a : Nat) (d : Dev) : Verified :=
  let h := memBytes m a 32
  let len := ofLe ((h.drop 12).take 4)
  let fmt := ofLe (h.take 4) == 0x4C4D0001 && (h.drop 4).take 8 == List.replicate 8 0 && (h.drop 16).take 4 == [0, 0, 0, 0]
    && h.drop 24 == List.replicate 8 0 && len % 8 == 0 && len ≤ 262144
  d.verify m a (32 + min len 262144) fmt (fun c _ => c == 0) none

/-- Load one image at boot through terrace t's engine, and report its rejection as image i (R421): the load, where it succeeded. -/
def Dev.bootImage (m : Mem) (i t a : Nat) (d : Dev) : Dev × Option PglLoad :=
  let d := d.loadBegin m t a
  match SMap.get none d.pglLoads t with
  | none => (d.bootReport i 6, none)
  | some l =>
    let d := d.loadEnd t
    if l.code != 0 then (d.bootReport i l.code, none) else (d, some l)

/-- Cores of an image with BOOT_ENTRY start there in BOOT mode (R320). -/
def Dev.bootCores (d : Dev) (x : Nat × PglLoad) : Dev :=
  let (t, l) := x
  if l.bootEntry == 0xFFFF || d.isSafetyLoad t l || !d.on (pglTerrace (8 * t)) PGL_LOAD_STATUS_CODE_VALID then d
  else (List.range 8).foldl (fun (d : Dev) j =>
    let k := 8 * t + j
    if d.safetyCore k then d else (d.setFld (pglPage k) PGL_CTRL_MODE modeBoot).coreStart k l.bootEntry) d

/-- The enabled terrace images, with the loads that succeeded (Table 19-5 step 3). -/
def Dev.bootTerraces (m : Mem) (d : Dev) : Dev × List (Nat × PglLoad) :=
  (List.range 4).foldl (fun (x : Dev × List (Nat × PglLoad)) t =>
    if x.1.on 0x04 (SEC_IMG_PGL_EN.plus (4 * t)) then
      let (d, l) := x.1.bootImage m (1 + t) t (4096 * x.1.fld 0x04 (SEC_IMG_PGL_BASE.plus (4 * t)))
      (d, x.2 ++ (l.map (fun l => (t, l))).toList)
    else x) (d, [])

/-- The safety image (Table 19-5 step 4, R421), and whether the device may leave BOOT. An image that is no safety image is rejected as
one that the load engine refuses (R298, log entry 83). -/
def Dev.bootSafety (m : Mem) (d : Dev) : Dev × Bool :=
  let named := d.on 0x04 SEC_IMG_SAFE_EN
  let a := 4096 * d.fld 0x04 SEC_IMG_SAFE_BASE
  if d.variant == .is then
    if !named then (d.bootReport 5 7, false)
    else if !(pglHeader m a).safety then (d.bootReport 5 6, false)
    else
      let (d, l) := d.bootImage m 5 3 a
      (d, l.isSome)
  else if named then (((d.setFld 0x70 PGL_LOAD_STATUS_ERR 6).raise 0x70 9).bootReport 5 6, true)
  else (d, true)

/-- The safety pair starts at the safety image's ENTRY (R298). -/
def Dev.startPair (d : Dev) : Dev :=
  [30, 31].foldl (fun (d : Dev) k => (d.setFld (pglPage k) PGL_CTRL_RUN 1).coreStart k (d.fld (pglPage k) PGL_ENTRY_ENTRY)) d

/-- Step 6 of Table 19-5 is reached once step 5 has been and the identity public key is there. -/
def Dev.bootStepSix (d : Dev) : Dev :=
  if d.fld 0x04 SEC_BOOT_STATUS_STEP == 5 && d.on 0x04 SEC_STATUS_ID_READY then d.setFld 0x04 SEC_BOOT_STATUS_STEP 6 else d

/-- IMAGES_VERIFIED (R420, R421): the verification that GO started finishes. The cores of BOOT_ENTRY images start once every image has
been loaded (log entry 83). -/
def Dev.imagesVerified (m : Mem) (d : Dev) : Dev :=
  if !d.sec.booting then d
  else
    let d := { d with sec := { d.sec with booting := false } }
    let fail (e : Nat) (d : Dev) : Dev := (d.bootReport 0 e).setFld 0x04 SEC_BOOT_STATUS_STEP 2
    if !d.on 0x04 SEC_IMG_MGMT_EN then fail 7 d
    else
      let v := d.verifyMgmt m (4096 * d.fld 0x04 SEC_IMG_MGMT_BASE)
      let d := d.verifyNote v.code
      if v.code != 0 then fail v.code d
      else
        let d := Dev.noteImage 0 v.digest v.signer { d with sec := { d.sec with mgmtRuns := true } }
        let (d, loads) := d.bootTerraces m
        let (d, good) := d.bootSafety m
        let d := (Dev.setFld (loads.foldl Dev.bootCores d) 0x04 SEC_BOOT_STATUS_STEP 5).bootStepSix
        if d.variant != .is then d.enterState stStandby
        else if good then d.startPair.enterState stStandby
        else d.enterFault DEV_FAULT_CAUSE_SAFETY_IMAGE

/-! ### Identity (R425 to R427) -/

/-- I_0 and SEED_0, and those of bottom tree j. -/
def Dev.idI0 (d : Dev) : List Nat := d.identity 3080 4
def Dev.idSeed0 (d : Dev) : List Nat := d.identity 3072 8
def Dev.idSeed1 (d : Dev) (j : Nat) : List Nat := sha256 (d.idI0 ++ beBytes 4 j ++ [0xFF, 0xFE, 0xFF] ++ d.idSeed0)
def Dev.idI1 (d : Dev) (j : Nat) : List Nat := (sha256 (d.idI0 ++ beBytes 4 j ++ [0xFF, 0xFF, 0xFF] ++ d.idSeed0)).take 16

/-- The identity public key, 60 bytes (R413, R427). -/
def Dev.idPub (d : Dev) : List Nat := beBytes 4 2 ++ lmsPublic lmsTop 10 d.idI0 d.idSeed0

/-- The device's UID (R427). -/
def Dev.uid (d : Dev) : List Nat := sha256 d.idPub

/-- ID_READY (R420 step 6). -/
def Dev.idReady (d : Dev) : Dev :=
  if d.sec.kd.isNone || d.on 0x04 SEC_STATUS_ID_READY || d.on 0x04 SEC_STATUS_ID_BAD then d
  else
    let pub := d.idPub
    let d := (List.range 15).foldl (fun (d : Dev) i =>
      d.setRegN 0x04 (SEC_ID_PUB + 4 * i) (ofLe ((pub.drop (4 * i)).take 4))) d
    (d.setFld 0x04 SEC_STATUS_ID_READY 1).bootStepSix

/-- n free bytes (log entry 2). -/
def Dev.drawBytes : Nat → Dev → List Nat × Dev
  | 0, d => ([], d)
  | n + 1, d =>
    let (x, d) := d.draw
    let (xs, d) := Dev.drawBytes n d
    (x % 256 :: xs, d)

/-- The identity HSS signature of a message by index q (R425, RFC 8554): randomizers are open. -/
def Dev.idSign (q : Nat) (m : List Nat) (d : Dev) : List Nat × Dev :=
  let j := q / 32768
  let pub1 := lmsPublic lmsBottom 15 (d.idI1 j) (d.idSeed1 j)
  let (c0, d) := d.drawBytes 32
  let (c1, d) := d.drawBytes 32
  (beBytes 4 1 ++ lmsSign lmsTop 10 d.idI0 d.idSeed0 j c0 pub1 ++ pub1
    ++ lmsSign lmsBottom 15 (d.idI1 j) (d.idSeed1 j) (q % 32768) c1 m, d)

/-! ### Reservation and attestation (R428 to R431) -/

/-- SEC.ID_NEXT follows the open block. -/
def Dev.nextFollow (d : Dev) : Dev :=
  match d.sec.block with
  | some (q, _) => (d.setFld 0x04 SEC_ID_NEXT_OPEN 1).setFld 0x04 SEC_ID_NEXT_Q q
  | none => d.setFld 0x04 SEC_ID_NEXT_OPEN 0

/-- A report ends with an error (R431). -/
def Dev.attFail (e : Nat) (d : Dev) : Dev :=
  let d := Dev.setFld { d with sec := { d.sec with att := none } } 0x04 SEC_ATT_STATUS_BUSY 0
  (d.setFld 0x04 SEC_ATT_STATUS_ERR e).raise 0x04 2

/-- RESERVATION_OPEN (R428, R429): for a signature without an open block the next bit is programmed and its block opens. It
waits for a host program. -/
def Dev.reserve (d : Dev) : Dev :=
  if d.sec.att.isNone || d.sec.block.isSome || d.otp.job.isSome then d
  else
    let b := d.nextBlock
    if !d.otpWindow then d.attFail 2
    else if d.on 0x05 OTP_STATUS_ABORTED then d.attFail 3
    else if 65536 ≤ b then d.attFail 4
    else
      let w := 4096 + b / 32
      let d := d.otpPut w (d.otpWord w ||| BitVec.ofNat 32 (2 ^ (b % 32)))
      let d := (Dev.nextFollow { d with sec := { d.sec with block := some (512 * b, 512 * b + 512) } }).blocksFollow
      if d.fld 0x04 SEC_ID_BLOCKS_FREE < 1024 then d.raise 0x04 5 else d

/-- The report's body (Table 19-8). -/
def Dev.attBody (d : Dev) : List Nat :=
  let st := d.regN 0x05 OTP_STATUS
  let flags := (d.on 0x04 SEC_STATUS_DBG_UNLOCKED).toNat + 2 * (d.on 0x05 OTP_STATUS_GEN_BAD).toNat
    + 4 * (d.on 0x05 OTP_STATUS_ABORTED).toNat + 8 * d.custMode.toNat
    + 16 * (d.on 0x70 PGL_LOAD_STATUS_SAFETY_VALID).toNat + 32 * d.ldgOn.toNat
  let image (i : Nat) : List Nat := match SMap.get [] d.sec.digests i with
    | [] => List.replicate 32 0
    | x => x
  leBytes 4 0x4C410001 ++ [1, d.variant.code, 0xB0, flags, d.fld 0x05 OTP_STATUS_SELECTED, st % 256, d.minSvn 0, d.minSvn 1]
    ++ leBytes 4 (d.regN 0x07 CAL_COUNT) ++ leBytes 4 (d.regN 0x07 CAL_FAIL_CNT)
    ++ leBytes 4 (if d.variant == .is then d.regN 0xB0 LDG_CFG_CRC else 0) ++ leBytes 8 d.devTime
    ++ (List.range 8).flatMap (fun i => leBytes 4 (d.regN 0x04 (SEC_NONCE + 4 * i))) ++ d.uid
    ++ (List.range 6).flatMap image
    ++ (List.range 6).flatMap (fun i => let s := SMap.get (0, 0) d.sec.signers i; [s.1, s.2])
    ++ [0, 0, 0, 0] ++ d.idPub ++ [0, 0, 0, 0]

/-- ATTESTATION_GO (R431). -/
def Dev.attGo (d : Dev) : Dev :=
  if d.on 0x04 SEC_ATT_STATUS_BUSY then (d.setFld 0x04 SEC_ATT_STATUS_ERR 1).raise 0x04 2
  else
    let d := d.setFld 0x04 SEC_ATT_STATUS_VALID 0
    if d.on 0x04 SEC_STATUS_ID_BAD then d.attFail 5
    else if d.devState == stReset || d.devState == stBoot || !d.on 0x04 SEC_STATUS_ID_READY then d.attFail 6
    else
      let d := (d.setFld 0x04 SEC_ATT_STATUS_ERR 0).setFld 0x04 SEC_ATT_STATUS_BUSY 1
      { d with sec := { d.sec with att := some d.attBody } }

/-- ATTESTATION_DONE (R428, R430, R431): the report is signed by the next index of the open block. -/
def Dev.attDone (d : Dev) : Dev :=
  match d.sec.att, d.sec.block with
  | some body, some (q, e) =>
    let (sig, d) := d.idSign q body
    let d := Dev.nextFollow { d with sec := { d.sec with
      att := none, report := body ++ sig, block := if q + 1 < e then some (q + 1, e) else none } }
    let d := (d.setFld 0x04 SEC_ATT_STATUS_BUSY 0).setFld 0x04 SEC_ATT_STATUS_VALID 1
    let d := d.setFld 0x04 SEC_ATT_STATUS_SEQ (d.fld 0x04 SEC_ATT_STATUS_SEQ + 1)
    (d.bump 0x04 SEC_ATT_CNT).raise 0x04 1
  | _, _ => d

/-- A read of SEC.RPT_DATA (R431). -/
def Dev.rptRead (d : Dev) : Word × Dev :=
  let a := d.fld 0x04 SEC_RPT_ADDR_ADDR
  let w := if d.on 0x04 SEC_ATT_STATUS_VALID then ofLe ((d.sec.report.drop (4 * a)).take 4) else 0
  (BitVec.ofNat 32 w, d.setFld 0x04 SEC_RPT_ADDR_ADDR (a + 1))

/-! ### Tokens (R422 to R424) -/

/-- A token's address, operation and argument. -/
def Dev.tokenAddr (d : Dev) : Nat := 8 * d.fld 0x04 SEC_TOKEN_ADDR_ADDR
def Dev.tokenOp (m : Mem) (d : Dev) : Nat := (memByte m (d.tokenAddr + 4)).toNat

/-- Codes of SEC.TOKEN_STATUS.ERR beyond Table 19-4. -/
abbrev tokUid : Nat := 6
abbrev tokChallenge : Nat := 7
abbrev tokPolicy : Nat := 8
abbrev tokTemp : Nat := 9
abbrev tokState : Nat := 10
abbrev tokAborted : Nat := 11
abbrev tokBusy : Nat := 12

/-- Whether class and slot may sign token operation op (Table 19-7). -/
def tokenSigner (op arg16 cls slot : Nat) : Bool :=
  if op == 2 then cls == 1
  else if op == 3 then cls == arg16 / 8 % 2 && slot != arg16 % 8
  else if op == 4 then cls == arg16 / 256 % 2
  else true

/-- The conditions of an operation (Table 19-7). -/
def Dev.tokenPolicy (d : Dev) (op arg16 : Nat) : Bool :=
  let cls := arg16 / 8 % 2
  let slot := arg16 % 8
  if op == 1 then true
  else if op == 2 then d.slotBlank 1 slot
  else if op == 3 then withoutBit (d.liveSet cls) slot != 0
  else if op == 4 then d.minSvn (arg16 / 256 % 2) < arg16 % 64 && arg16 % 64 ≤ 32
  else false

/-- Why a token at its address is rejected, 0 when it is accepted (R422 to R424). -/
def Dev.tokenCode (m : Mem) (d : Dev) : Nat :=
  let a := d.tokenAddr
  let body := memBytes m a 96
  let part (o n : Nat) : List Nat := (body.drop o).take n
  let op := body.getD 4 0
  let arg16 := ofLe (part 6 2)
  let fmt := ofLe (part 0 4) == 0x4C540001 && part 5 1 == [0] && part 88 8 == List.replicate 8 0
  let key := if op == 2 && !d.custMode then some (part 56 32) else none
  let v := d.verify m a 96 fmt (tokenSigner op arg16) key
  if v.code != 0 then v.code
  else if part 8 32 != d.uid then tokUid
  else if part 40 16 != (List.range 4).flatMap (fun i => leBytes 4 (d.regN 0x04 (SEC_CHALLENGE + 4 * i))) then tokChallenge
  else if !d.tokenPolicy op arg16 then tokPolicy
  else if op == 1 then if d.variant == .is && d.devState != stStandby then tokState else 0
  else if !d.otpWindow then tokTemp
  else if d.devState != stStandby && d.devState != stArmed then tokState
  else if d.on 0x05 OTP_STATUS_ABORTED then tokAborted
  else if d.otp.job.isSome then tokBusy
  else 0

/-- Security programs the bits of v in a word (R423), a word at a time: each is counted and raised as programmed and verified (R410). -/
def Dev.secProgram (w : Nat) (v : Word) (d : Dev) : Dev :=
  if v == 0 then d else ((d.otpPut w (d.otpWord w ||| v)).bump 0x05 OTP_PROG_CNT).raiseApart 0x05 0

/-- TOKEN_DEBUG_UNLOCK (R424). -/
def Dev.tokUnlock (m : Mem) (d : Dev) : Dev :=
  let mask := (memByte m (d.tokenAddr + 56)).toNat % 8
  let d := d.setFld 0xB4 DBG_STATUS_UNLOCK (d.fld 0xB4 DBG_STATUS_UNLOCK ||| mask)
  ((d.setFld 0x04 SEC_STATUS_DBG_UNLOCKED 1).ossdOff).raise 0x04 6

/-- TOKEN_INSTALL_CUSTOMER (Table 19-7). -/
def Dev.tokInstall (m : Mem) (d : Dev) : Dev :=
  let slot := (memByte m (d.tokenAddr + 6)).toNat % 8
  Dev.keysFollow ((List.range 8).foldl (fun (d : Dev) i => d.secProgram (slotWord 1 slot + i) (memWord m (d.tokenAddr + 56 + 4 * i))) d)

/-- TOKEN_REVOKE (Table 19-7). -/
def Dev.tokRevoke (m : Mem) (d : Dev) : Dev :=
  let a := (memByte m (d.tokenAddr + 6)).toNat
  (d.secProgram (revokeWord (a / 8 % 2) (a % 8)) 0xDEAD).keysFollow

/-- TOKEN_RAISE_SVN (Table 19-7): blank words from the lowest up become non-blank; with what value the spec does not say. -/
def Dev.tokRaise (m : Mem) (d : Dev) : Dev :=
  let cls := (memByte m (d.tokenAddr + 7)).toNat % 2
  let n := (memByte m (d.tokenAddr + 6)).toNat % 64
  Dev.keysFollow ((List.range 32).foldl (fun (d : Dev) i =>
    if d.minSvn cls < n && d.otpWord (svnWord cls i) == 0 then
      let (f, d) := d.draw
      d.secProgram (svnWord cls i) (BitVec.ofNat 32 (max 1 (f % 2 ^ 32)))
    else d) d)

/-- SEC.TOKEN_CTRL.GO (R422, R423): the token is judged, its operation done or its rejection counted, the challenge
renewed. -/
def Dev.tokenGo (m : Mem) (d : Dev) : Dev :=
  let op := d.tokenOp m
  let code := d.tokenCode m
  let d := (d.setFld 0x04 SEC_TOKEN_STATUS_OP op).setFld 0x04 SEC_TOKEN_STATUS_ERR code
  let d := if code ≤ 5 then d.verifyNote code else d
  let d := if code != 0 then (d.bump 0x04 SEC_TOKEN_REJ_CNT).raise 0x04 4
    else
      let d := if op == 1 then d.tokUnlock m else if op == 2 then d.tokInstall m
        else if op == 3 then d.tokRevoke m else d.tokRaise m
      d.raise 0x04 3
  d.newChallenge

/-- The snapshot of the SEC mailbox (R434). -/
def Dev.secSnapshot (sel : Nat) (d : Dev) : List Word :=
  let bytes := if sel == 0 then d.uid else if sel ≤ 6 then SMap.get [] d.sec.digests (sel - 1) else []
  (List.range 8).map (fun i => BitVec.ofNat 32 (ofLe ((bytes.drop (4 * i)).take 4)))

end Sys2Proof.Machine
end

