-- ==== Sys2Proof/Machine/Calibration.lean ====
section
/-! DEFINITION. Calibration: the bed tests of the interpolators (Calibration, R384 to R393). -/
namespace Sys2Proof.Machine

/-- The least time between the starts of two bed tests (R387). -/
def calSpacing : Nat := Config.ms 250

/-- The spacing of R387 allows a test to start now. -/
def Dev.calSpaced (d : Dev) : Bool := match d.cal.startAt with | none => true | some a => a + calSpacing ≤ d.now

/-- A test of bed b begins with run A (R386); in a gated terrace it fails at once, with cause PWR (R389). Under source 1 and SCANNING
it is refused, with cause STATE (R389). -/
def Dev.calBegin (b : Nat) (d : Dev) : Dev :=
  let free := d.fld 0x07 CAL_CTRL_SRC == 1
  let d := { d with cal := { d.cal with waits := false } }
  if free && d.devState == stScanning then d.setFld 0x07 CAL_STATUS_CAUSE 7
  else
    let d := { d with cal := { d.cal with
      bed := some b, free := free, ref := free && d.on 0x07 CAL_CTRL_REF_EN && b % 16 == 0
      hits := 2 ^ (10 + min (d.fld 0x07 CAL_CDT_CFG_HITS_LOG2) 7), tlim := max 1 (d.fld 0x07 CAL_CDT_CFG_TLIM)
      runAt := d.now, total := [], tally := [], tallyA := [], passA := 0, startAt := some d.now } }
    let d := ((d.setFld 0x07 CAL_STATUS_BED b).setFld 0x07 CAL_STATUS_STATE 1).setFld 0x07 CAL_STATUS_CAUSE 0
    let d := d.setFld 0x07 CAL_STATUS_REF_FAIL 0
    if d.gated (b / 16) then d.calFail 6 else d

/-- CAL_START (R390): a write of 1 to START; ignored with EN = 0 or while a test runs, and kept until the spacing allows it. -/
def Dev.calStart (d : Dev) : Dev :=
  if !d.on 0x07 CAL_CTRL_EN || d.cal.bed.isSome then d
  else if d.calSpaced then d.calBegin (d.fld 0x07 CAL_CDT_CFG_BED)
  else { d with cal := { d.cal with waits := true } }

/-- BED_TEST_START (R390): the START that waited. -/
def Dev.calLate (d : Dev) : Dev :=
  if d.cal.waits && d.on 0x07 CAL_CTRL_EN && d.cal.bed.isNone && d.calSpaced then d.calBegin (d.fld 0x07 CAL_CDT_CFG_BED) else d

/-- CAL_AUTO_START (R390): the next bed in turn, SCHED.INTERVAL after the start of the test before it. -/
def Dev.calAuto (d : Dev) : Dev :=
  let gap := Config.ms (10 * max 25 (d.fld 0x07 CAL_SCHED_INTERVAL))
  let due := match d.cal.startAt with | none => true | some a => a + gap ≤ d.now
  if d.on 0x07 CAL_CTRL_EN && d.on 0x07 CAL_CTRL_AUTO && d.cal.bed.isNone && due then
    let b := d.cal.next
    Dev.calBegin b { d with cal := { d.cal with next := (b + 1) % 64 } }
  else d

/-- CAL_ABORT (R389). -/
def Dev.calAbort (d : Dev) : Dev := d.calFail 5

/-- The 64 tallies of channel k. -/
def Cal.tallies (t : SMap Nat) (k : Nat) : List Nat := (List.range 64).map (fun f => SMap.get 0 t (64 * k + f))

/-- The table that tallies over `hits` conversions give, in 0.1 ps (R385). -/
def calTable (hits : Nat) (ns : List Nat) : List Nat := ns.map (fun n => min ((16000 * n + hits) / (2 * hits)) 255)

/-- Channel k passes the run whose tallies are `t`: it reached HITS and its table meets R66 (R385). -/
def Cal.passes (c : Cal) (k : Nat) : Bool :=
  c.hits ≤ SMap.get 0 c.total k && widthsOk (calTable c.hits (Cal.tallies c.tally k))

/-- The channels of a test: 0 to 31, and 32 for the reference. -/
def Cal.chans (c : Cal) : List Nat := List.range (if c.ref then 33 else 32)

/-- The set of channels that pass the run. -/
def Cal.passSet (c : Cal) : Nat := (c.chans.filter (fun k => c.passes k)).foldl (fun n k => n + 2 ^ k) 0

/-- The sum of the squares of the differences of channel k's two tables (R386 step 4). -/
def Cal.sqDiff (c : Cal) (k : Nat) : Nat :=
  let a := calTable c.hits (Cal.tallies c.tallyA k)
  let b := calTable c.hits (Cal.tallies c.tally k)
  ((a.zip b).map (fun x => (x.1 - x.2) * (x.1 - x.2) + (x.2 - x.1) * (x.2 - x.1))).foldl (· + ·) 0

/-- The shadow of a table receives 64 widths from register `base` of page p on. -/
def Dev.shadowPut (p base : Nat) (ws : List Nat) (d : Dev) : Dev :=
  (List.range 16).foldl (fun (d : Dev) i =>
    d.setShadow p (base + 4 * i) (BitVec.ofNat 32 (ofLe ((List.range 4).map (fun j => ws.getD (4 * i + j) 0))))) d

/-- The committed table of channel k: the summed tallies over twice HITS (R386 step 5). -/
def Cal.table (c : Cal) (k : Nat) : List Nat :=
  calTable (2 * c.hits) (((Cal.tallies c.tallyA k).zip (Cal.tallies c.tally k)).map (fun x => x.1 + x.2))

/-- Commit the channels of the set P of bed b; answers those that R66 took. -/
def Dev.calCommit (b : Nat) (ps : List Nat) (d : Dev) : Dev × Nat :=
  let c := d.cal
  ps.foldl (fun (x : Dev × Nat) k =>
    let d := (x.1.shadowPut (sdlPage b) (SDL_CAL_TAB + 64 * k) (c.table k)).commitChannel b k
    (d, if d.bit (sdlPage b) SDL_CAL_REJECT k then x.2 else x.2 + 2 ^ k)) (d, 0)

/-- The reference channel is judged alone (R386): committed when it passed both runs and its own d is at most 1.5 ps. -/
def Dev.calRefEnd (t : Nat) (d : Dev) : Dev :=
  let c := d.cal
  if !c.ref then d
  else if bitAt c.passA 32 && c.passes 32 && c.sqDiff 32 ≤ 225 * 64 then
    let d := (d.shadowPut (refPage t) SDL_REF_CAL_TAB (c.table 32)).commitRef t
    d.touchSlots.setFld 0x07 CAL_STATUS_REF_FAIL (d.fld (refPage t) SDL_REF_CAL_REJECT_REJECT)
  else d.setFld 0x07 CAL_STATUS_REF_FAIL 1

/-- d in 0.1 ps of the channels ps; where it is no whole number, either neighbour (log entry 14). -/
def Dev.calD (ps : List Nat) (d : Dev) : Nat × Dev :=
  let n := 64 * ps.length
  let q := (ps.map (fun k => d.cal.sqDiff k)).foldl (· + ·) 0
  if n = 0 then (0, d)
  else
    let r := isqrt (q / n)
    if r * r * n == q then (r, d) else let (x, d) := d.draw; (r + x % 2, d)

/-- CHECK, COMMIT and the end of a bed test (R386 steps 3 to 6, R387, R388). -/
def Dev.calCheck (b : Nat) (d : Dev) : Dev :=
  let c := d.cal
  let ps := (List.range 32).filter (fun k => bitAt c.passA k && c.passes k)
  let q := (ps.map (fun k => c.sqDiff k)).foldl (· + ·) 0
  let (dv, d) := d.calD ps
  let d := d.calRefEnd (b / 16)
  let was := SMap.get (0, 0, 0) c.beds b
  let ok := !ps.isEmpty && q ≤ 225 * 64 * ps.length
  let d := { d with cal := { d.cal with beds := SMap.put (0, 0, 0) d.cal.beds b (was.1, was.2.1, dv), ref := false } }
  if !ok then d.calFail (if ps.isEmpty then 3 else 2)
  else
    let (d, took) := d.calCommit b ps
    let d := (d.touchSlots.setRegN 0x07 CAL_CH_FAIL (2 ^ 32 - 1 - took)).bump 0x07 CAL_COUNT
    let d := { d with cal := { d.cal with
      bed := none, beds := SMap.put (0, 0, 0) d.cal.beds b (d.devTime, (was.2.1 + 1) % 2 ^ 32, dv) } }
    ((d.setFld 0x07 CAL_STATUS_STATE 0).setFld 0x07 CAL_STATUS_CAUSE 1).raise 0x07 0

/-- The run ends: every channel has HITS, or TLIM s have passed (R385). -/
def Dev.calRunOver (d : Dev) : Bool :=
  d.calRuns && (d.cal.chans.all (fun k => d.cal.hits ≤ SMap.get 0 d.cal.total k) || d.cal.runAt + Config.ms (1000 * d.cal.tlim) ≤ d.now)

/-- CAL_RUN_END (R385, R386): run A is followed by run B, run B by the check. -/
def Dev.calRunEnd (d : Dev) : Dev :=
  if !d.calRunOver then d
  else
    let c := d.cal
    match c.bed with
    | none => d
    | some b =>
      if d.calState == 1 then
        Dev.setFld { d with cal := { c with runAt := d.now, passA := c.passSet, tallyA := c.tally, total := [], tally := [] } } 0x07
          CAL_STATUS_STATE 2
      else d.calCheck b

/-- A collision (R389): a write to the tables or commits of what is under test is ignored. -/
def Dev.calCollide (d : Dev) : Dev := d.bumpFirst 0x07 CAL_HOST_COLLIDE 2

/-- The mailbox words of page 0x07 (R393). -/
def Dev.calSnapshot (sel : Nat) (d : Dev) : List Word :=
  if 64 ≤ sel then []
  else
    let x := SMap.get (0, 0, 0) d.cal.beds sel
    [BitVec.ofNat 32 x.1, BitVec.ofNat 32 (x.1 / 2 ^ 32), BitVec.ofNat 32 x.2.1, BitVec.ofNat 32 x.2.2]

end Sys2Proof.Machine
end

