-- ==== Sys2Proof/Machine/SlotFlow.lean ====
section
/-! DEFINITION. A slot through the whole device: the keyed sequence, the trigger, skips, swaps and releases, extraction and delivery
(Architecture, R27 to R32; Histogram memory, R81 to R83; Echo extraction, R118 to R126; Emitter drive, R187 to R189). -/
namespace Sys2Proof.Machine

/-! ### Keyed sequence (R121, R122, R501) -/

/-- DITHER_SEQUENCE_START: the computation reads its settings; one in progress starts anew. -/
def Dev.seqStart (d : Dev) : Dev :=
  let on := d.on 0x54 GZB_DITHER_EN && d.on 0x54 GZB_SEQ_STATUS_KEY_OK
  { d with seqGen := ⟨some (on, d.fld 0x54 GZB_DITHER_DMAX, d.regN 0x54 GZB_DITHER_SALT, d.regN 0x54 GZB_LISTEN), none⟩ }

/-- K_D, which is all zeros before its derivation, when nothing uses it. -/
def Dev.kdBytes (d : Dev) : List Nat := d.sec.kd.getD (List.replicate 32 0)

/-- D_0 to D_15 of slot n (R121). -/
def ditherCounts (kd : List Nat) (n dmax salt : Nat) : List Nat :=
  let h := hmac256 kd ([0] ++ beBytes 4 n ++ beBytes 4 salt)
  (List.range 16).map (fun k => (256 * h.getD (2 * k) 0 + h.getD (2 * k + 1) 0) * (dmax + 1) / 65536)

/-- Whether slot n is a listen slot without a key (R122, KEYED = 0), by the LISTEN word. -/
def listenPlain (w n : Nat) : Bool := 2 ≤ w % 256 && (n + w / 256 % 256) % (w % 256) == 0

/-- Whether slot n is the listen slot of its block (R122, KEYED = 1). The block number enters the message in 4 bytes, big-endian, as the
slot number does under R121 (DESIGN CHOICE, log entry 77: the spec gives neither width nor byte order for it). -/
def listenKeyed (kd : List Nat) (w n salt : Nat) : Bool :=
  let k := w % 256
  let h := hmac256 kd ([1] ++ beBytes 4 (n / k) ++ beBytes 4 salt)
  2 ≤ k && n % k == (256 * h.getD 0 0 + h.getD 1 0) * k / 65536

/-- The LISTEN word's KEYED bit counts only with the key (GZB.SEQ_STATUS.KEY_OK). -/
def Dev.keyed (d : Dev) (w : Nat) : Bool := bitAt w 16 && d.on 0x54 GZB_SEQ_STATUS_KEY_OK

/-- DITHER_SEQUENCE_DONE (R121): the sequence of the slot that the next trigger numbers is held ready. -/
def Dev.seqDone (d : Dev) : Dev :=
  match d.seqGen.running with
  | none => d
  | some (on, dmax, salt, w) =>
    let n := (d.regN 0x83 BND_SLOT_NUM + 1) % 2 ^ 32
    let kd := d.kdBytes
    let seq : DitherSeq := {
      d := if on then ditherCounts kd n dmax salt else []
      dmax := if on then dmax else 0
      listen := if d.keyed w then listenKeyed kd w n salt else listenPlain w n }
    { d with seqGen := ⟨none, some seq⟩ }

/-- The sequence that slot n starts with: the one held ready; while one is computed, none, with SEQ_LATE (R501). -/
def Dev.seqFor (d : Dev) (n : Nat) : DitherSeq :=
  match d.seqGen.ready with
  | some s => s
  | none =>
    let w := d.regN 0x54 GZB_LISTEN
    { listen := !d.keyed w && listenPlain w n, late := d.seqGen.running.isSome }

/-! ### Deliveries of a terrace (R119, R311) -/

/-- The cores of terrace t that take part in its deliveries, the safety pair apart (R311, R298). -/
def Dev.terraceCores (d : Dev) (t : Nat) : List Nat := ((List.range 8).map (fun i => 8 * t + i)).filter (fun k => !d.safetyCore k)

/-- The core of the pair that takes the beds of terrace t (R298). -/
def pairCore (t : Nat) : Nat := 30 + t / 2

/-- Mark terrace t in a slot's NOT_EXTRACTED (R126, R468); no record of it is still to come. -/
def Dev.markNot (m : Mem) (t num : Nat) (d : Dev) : Dev :=
  let d := { d with slots := d.slots.map (fun (s : SlotRec) =>
    if s.num == num then { s with notExtracted := withBit s.notExtracted t, due := withoutBit s.due t } else s) }
  d.ldgNotExtracted m num t

/-- Every record of the slot from terrace t has been accepted (R167). -/
def Dev.recordsIn (t : Nat) (d : Dev) : Dev :=
  let g := d.getGzb t
  if g.scan.isSome || !g.echoes.isEmpty || g.recDone then d
  else
    let d := d.setGzb t { g with recDone := true }
    let d := { d with slots := d.slots.map (fun (s : SlotRec) =>
      if s.num == g.num then { s with due := withoutBit s.due t } else s) }
    d.ldgTerraceDone g.num t

/-- Give a marker to every core of a list whose queue has room; answers the cores still without it. -/
def Dev.giveMarker (mk : Dev → Nat → PglEntry) (after : Nat → Core → Core) (ks : List Nat) (d : Dev) : Dev × List Nat :=
  ks.foldl (fun (x : Dev × List Nat) k =>
    if x.1.coreRoom k then
      let d := if x.1.coreTakes k then x.1.corePush k (mk x.1 k) else x.1
      (d.setCore k (after k (d.getCore k)), x.2)
    else (x.1, x.2 ++ [k])) (d, [])

/-- A core begins to count a slot's records. -/
def Core.beginSlot (num : Nat) (x : Core) : Core := if x.givenSlot == num then x else { x with given := 0, givenSlot := num }

/-- The pair's core of terrace t takes a marker too on IS, at the first delivery of it (R298). -/
def Dev.pairMarker (first : Bool) (t : Nat) (after : Core → Core) (mk : Core → PglEntry) (d : Dev) : Dev :=
  if first && d.variant == .is then
    let k := pairCore t
    let d := d.setCore k (after (d.getCore k))
    d.pairPush k (mk (d.getCore k))
  else d

/-- SLOT_MARKER_DELIVERY (R311): SLOT_START first, with which the terrace latches its beds; SLOT_END once every record of terrace t is
delivered. A marker waits for each core whose queue is full. -/
def Dev.markerDelivery (t : Nat) (d : Dev) : Dev :=
  let g := d.getGzb t
  if !g.busy then d
  else if !g.starts.isEmpty then
    let d := if g.opened then d else d.latchBeds t
    let d := d.pairMarker (!g.opened) t (Core.beginSlot g.num) (fun _ => g.startEntry)
    let (d, left) := d.giveMarker (fun _ _ => g.startEntry) (fun _ x => x.beginSlot g.num) g.starts
    d.setGzb t { d.getGzb t with starts := left, opened := true }
  else if g.scan.isSome || !g.echoes.isEmpty then d
  else
    let d := d.pairMarker (!g.closing) t id (fun x => slotEndEntry g.num x.given)
    let (d, left) := d.giveMarker (fun d k => slotEndEntry g.num (d.getCore k).given) (fun _ x => x) g.ends
    d.setGzb t { d.getGzb t with ends := left, closing := true, busy := !left.isEmpty }

/-- Count a record given to core k. -/
def Dev.noteGiven (k : Nat) (d : Dev) : Dev := d.setCore k { d.getCore k with given := (d.getCore k).given + 1 }

/-- A record for its bed's core: queued, or discarded and counted (R311, R313). -/
def Dev.bedPush (e : Echo) (num : Nat) (d : Dev) : Dev :=
  let k := d.bedCore (e.ch / 32)
  if d.safetyCore k then Dev.bumpFirst (pglTerrace k) PGL_UNMAPPED 10 d
  else
    let took := d.coreTakes k
    let d := d.corePush k (e.entry num)
    if took then d.noteGiven k else d

/-- BLOOM as it is decided when the records of a channel leave (R118, Table 05-4). -/
def Dev.bloom (t : Nat) (e : Echo) (d : Dev) : Echo × Dev :=
  let g := d.getGzb t
  let wL := binLsb ((d.getOrg t).half g.half).geo.binW
  if d.isBloom g.num wL e && !bitAt e.flags 2 then ({ e with flags := e.flags + 4 }, d.gzbOnce t 2) else (e, d)

/-- ECHO_RECORD_DELIVERY (R118, R119, R120, R136, R311): the oldest record of channel `ch` goes to its core, to Promenade and, on
IS, to the echo feed; the records of one channel are consecutive. It stays while a consumer holds no credit. -/
def Dev.recordDelivery (m : Mem) (ch : Nat) (d : Dev) : Dev :=
  let t := ch / 512
  let g := d.getGzb t
  match g.echoes.find? (fun e => e.ch == ch) with
  | none => d
  | some e =>
    let turn := e.feedOnly || d.prm.mid.isNone || d.prm.mid == some ch
    if !g.starts.isEmpty || !d.bloomReady g.num ch || !turn then d
    else
      let (e', d1) := d.bloom t e
      let k := d1.bedCore (ch / 32)
      let toCores := !e.feedOnly
      if toCores && !d1.safetyCore k && !d1.coreRoom k then d
      else
        let (d2, ok) := if toCores then d1.offerRecord g.num (e'.record g.num) else (d1, true)
        if !ok then d
        else
          let d3 := if toCores then
              Dev.bedPush e' g.num { d2 with prm := { d2.prm with mid := if e.last then none else some ch } }
            else d2
          let d3 := if d3.variant == .is then
              let d4 := d3.ldgEcho m g.num e'
              let p := pairCore t
              let room := d4.coreRoom p
              let d4 := d4.pairPush p (e'.entry g.num)
              if room then d4.noteGiven p else d4
            else d3
          let g3 := d3.getGzb t
          (d3.setGzb t { g3 with echoes := g3.echoes.erase e }).recordsIn t

/-! ### Scan (R125, R110, R96) -/

/-- Every consumer of terrace t's records holds credit: the queues of its cores and Promenade's buffer have room (R120). -/
def Dev.scanCredit (d : Dev) (t : Nat) : Bool :=
  (d.terraceCores t).all (fun k => d.coreRoom k) && (d.lanesGated || !d.prm.aligned || d.hasSpace 16)

/-- SCAN_WORD (R120, R125): the scan goes on while the consumers hold credit. -/
def Dev.scanNext (ch : Nat) (d : Dev) : Dev := if d.scanCredit (ch / 512) then d.scanWord ch else d

/-- Taps of the half under scan are staged with their slot, the words as the scan read them (R96, R97, R140, R168). -/
def Dev.stageTaps (t : Nat) (r : Release) (d : Dev) : Dev :=
  let g := d.getGzb t
  let ps := r.taps.map (fun (tp : TapCfg) =>
    let c := SMap.get {} g.chans tp.ch
    (t, tapPayload r t tp c.raw c.zraw))
  { d with slots := d.slots.map (fun (s : SlotRec) => if s.num == r.info.slot then { s with taps := s.taps ++ ps } else s) }

/-- Terrace t's half goes back to Orangery (R83, R126). -/
def Dev.halfBack (t : Nat) (d : Dev) : Dev :=
  let o := d.getOrg t
  let d := d.setOrg t { o with phase := if o.phase == 3 then 0 else o.phase }
  d.setFld (orgPage t) ORG_WIN_STATUS_SCANNING 0

/-- The extraction of a slot in terrace t is complete (R89, R128). -/
def Dev.scanEnd (t : Nat) (d : Dev) : Dev :=
  let g := d.getGzb t
  match g.scan with
  | none => d
  | some r =>
    if !g.allDone then d
    else
      let d := (d.extractionEnd t).stageTaps t r
      let d := d.setGzb t { d.getGzb t with scan := none, chans := [] }
      (d.halfBack t).recordsIn t

/-- CHANNEL_EXTRACTION (R110 to R117, R120, R124, R128), while the consumers hold credit. -/
def Dev.channelDone (ch : Nat) (d : Dev) : Dev :=
  if d.scanCredit (ch / 512) then
    let num := (d.getGzb (ch / 512)).num
    let (d, ws) := d.extractChannel ch
    let d := ws.foldl (Dev.ldgWindow num) d
    d.scanEnd (ch / 512)
  else d

/-- The half in delivery whose SLOT_START no core has had yet is marked NOT_EXTRACTED in it (R126, R312). -/
def GzbT.markStart (g : GzbT) : GzbT :=
  if g.opened then g
  else { g with startEntry := { g.startEntry with words := g.startEntry.words.set 2 (g.startEntry.words.getD 2 0 ||| 0x4000) } }

/-- The scan of terrace t is abandoned: EN written 0, or the terrace is gated (R126, R467); records already completed leave. -/
def Dev.scanAbandoned (m : Mem) (t : Nat) (d : Dev) : Dev :=
  let g := d.getGzb t
  match g.scan with
  | none => d
  | some _ =>
    let d := (d.abandonScan t).halfBack t
    let d := d.setGzb t (d.getGzb t).markStart
    let d := { d with slots := d.slots.map (fun (s : SlotRec) =>
      if s.num == g.num then { s with notExtracted := withBit s.notExtracted t } else s) }
    (d.ldgNotExtracted m g.num t).recordsIn t

/-! ### Release and swap (R81 to R83, R96, R126) -/

/-- What the released half h carries, saturation flags and tap settings as they stand at the release (R81 step 4, R102). -/
def Dev.releaseOf (d : Dev) (t h : Nat) (s : SlotRec) : Release :=
  let o := d.getOrg t
  let b0 := d.getBank (2 * t)
  let b1 := d.getBank (2 * t + 1)
  { half := h, info := o.half h, listen := s.listen
    shots0 := b0.shots, shots1 := b1.shots, sMin0 := b0.sMin, sMax0 := b0.sMax, sMin1 := b1.sMin, sMax1 := b1.sMax
    tBlank := (d.getBlank t).slotSum
    hops := (d.hopLog.filter (fun (e : Nat × List Nat) => e.1 / 512 == t)).map (fun (e : Nat × List Nat) => (e.1 % 512, e.2))
    taps := d.latchTaps t s.num }

/-- HALF_RELEASE (R81 step 4, R83, R126): terrace t's half h of slot s goes to Gazebo; with Gazebo off it comes back without a scan.
Its SLOT_START is fixed here (R312). -/
def Dev.release (m : Mem) (t h : Nat) (s : SlotRec) (d : Dev) : Dev :=
  let r := d.releaseOf t h s
  let ks := d.terraceCores t
  let s := (d.slots.find? (fun x => x.num == s.num)).getD s
  let g := { d.getGzb t with num := s.num, half := h, busy := true, startEntry := s.startEntry t h, starts := ks, ends := ks
                             opened := false, closing := false, once := 0, sun := 0, track := [] }
  if d.on (gzbPage t) GZB_CTRL_EN then
    let d := d.setGzb t { g with scan := some r, chans := [], echoes := [], recDone := false }
    let d := { d with slots := d.slots.map (fun (x : SlotRec) => if x.num == s.num then { x with due := withBit x.due t } else x) }
    d.setFld (orgPage t) ORG_WIN_STATUS_SCANNING 1
  else (d.setGzb t { g.markStart with recDone := true }).markNot m t s.num

/-- The window of terrace t maps the half of another slot from now on (R81 step 3, R83, R94): ORG.WIN_SLOT, VALID and SWAP_CNT follow. -/
def Dev.windowMoves (t slot : Nat) (d : Dev) : Dev :=
  let p := orgPage t
  ((d.setRegN p ORG_WIN_SLOT slot).setFld p ORG_WIN_STATUS_VALID (d.getOrg t).full.toNat).bump p ORG_SWAP_CNT

/-- The slot in acquisition: the latest that has not been closed. -/
def Dev.openSlot (d : Dev) : Option SlotRec := (d.slots.filter (fun s => s.acquiring)).getLast?

/-- The slot that ends at the trigger of slot n, until its halves are released (Table 04-2). -/
def Dev.endingSlot (d : Dev) (n : Nat) : Option SlotRec := d.slots.find? (fun s => s.acquiring && s.num != n)

/-- The terrace sums of the slot header (R46, R74, R133). -/
def Dev.slotSums (d : Dev) : List Nat :=
  (List.range 4).flatMap (fun t =>
    if d.down t then [0, 0, 0, 0]
    else
      let s := d.getSdl t
      [sat16 s.deadSum, sat16 s.prestartSum, sat16 s.dropSum, sat16 ((d.getBlank t).slotSum / 64)])

/-- The LOCK bits of a header that is fixed now (R74). -/
def Dev.lockBits (d : Dev) : Nat :=
  (List.range 4).foldl (fun n t => if (d.getSdl t).locked && !d.down t then n + 2 ^ t else n) 0

/-- The terraces that are gated or lost (R467, R468), as a set. -/
def Dev.downSet (d : Dev) : Nat := (List.range 4).foldl (fun n t => if d.down t then n + 2 ^ t else n) 0

/-- Slot s closes, every event of it being classified: what Sundial, Meadow and Bandstand supply to its header (R74, R133, R468). -/
def Dev.closeSlot (m : Mem) (s : SlotRec) (d : Dev) : Dev :=
  let lost := (List.range 8).foldl (fun n b => if (d.getBank b).lost then n + 2 ^ b else n) 0
  let lock := d.lockBits
  let sums := d.slotSums
  let d := { d with slots := d.slots.map (fun (x : SlotRec) =>
    if x.num == s.num then
      { x with acquiring := false, startLost := lost, lock := x.lockKept.getD lock, sums := sums } else x) }
  let d := d.ldgSlotClosed s.num d.bnd.firedSet lost
  (List.range 4).foldl (fun (d : Dev) t => if d.down t then d.markNot m t s.num else d) d

/-- Gazebo still works on the half released before (R28, R119). -/
def Dev.scanBusy (d : Dev) (t : Nat) : Bool := (d.getGzb t).scan.isSome || (d.getGzb t).busy

/-- LONG_BUFFER_RELEASE (R83): the last gate has closed and every entry is incremented; the slot closes when no terrace
still acquires it. -/
def Dev.longRelease (m : Mem) (t : Nat) (d : Dev) : Dev :=
  let o := d.getOrg t
  let pending := (d.chan.any (fun (e : Nat × Chan) => e.1 / 512 == t && (!e.2.align.isEmpty || !e.2.queue.isEmpty)))
  match d.openSlot with
  | none => d
  | some s =>
    if o.phase != 2 || d.acqBusy || d.bnd.acq.isSome || pending || d.down t || d.scanBusy t then d
    else
      let d := (d.release m t 0 s).windowMoves t s.num
      let d := d.setOrg t { d.getOrg t with phase := if (d.getGzb t).scan.isSome then 3 else 0 }
      if (List.range 4).all (fun t => d.down t || (let p := (d.getOrg t).phase; p == 3 || p == 0)) then d.closeSlot m s else d

/-- A detection of terrace t is still in the alignment stages (R70). -/
def Dev.aligning (d : Dev) (t : Nat) : Bool := d.chan.any (fun (e : Nat × Chan) => e.1 / 512 == t && !e.2.align.isEmpty)

/-- The last slot before triggers stop (R195, R464): once its acquisition is over and its detections are classified, its ping-pong
halves are released without a swap, so that its records leave. The window keeps the half of the slot before (R94). -/
def Dev.lastRelease (m : Mem) (d : Dev) : Dev :=
  match d.openSlot with
  | none => d
  | some s =>
    if d.bnd.acq.isSome || d.bnd.startDue.isSome || (d.devState == stScanning && d.on 0x83 BND_CTRL_EN)
        || (List.range 4).any (fun t => d.aligning t || (!d.down t && d.scanBusy t)) then d
    else
      let d := (List.range 4).foldl (fun (d : Dev) t =>
        if !d.down t && (d.getOrg t).phase == 1 then
          let d := d.release m t (d.getOrg t).act s
          d.setOrg t { d.getOrg t with phase := 0 }
        else d) d
      if (List.range 4).any (fun t => !d.down t && (d.getOrg t).phase == 2) then d else d.closeSlot m s

/-- HALF_SWAP, HALF_CLEAR, ZOOM_PLACE (R81 step 3, R82, R88): the half that held the slot before the ending one becomes active for slot
n; the window maps the ending slot's. -/
def Dev.swapHalf (m : Mem) (t n : Nat) (d : Dev) : Dev :=
  let o := d.getOrg t
  if o.swapDue && !d.down t then
    let d := d.windowMoves t (o.half o.act).slot
    let d := d.activate m t (1 - o.act) n false
    d.setOrg t { d.getOrg t with swapDue := false }
  else d

/-- 150 ns after the trigger of slot n (Table 04-2 step 3). -/
def Dev.swapHalves (m : Mem) (n : Nat) (d : Dev) : Dev := (List.range 4).foldl (fun (d : Dev) t => d.swapHalf m t n) d

/-- What a terrace does at the trigger of slot n itself (R81 step 1, R83, R48, R49, R74, R89): LONG_BUFFER_START in long mode; in
ping-pong mode the half of the ending slot is kept for its release, and the swap falls due. The windows that would follow a skipped
source slot are not tracked, nor are those of a half that MODE has turned into part of the long-mode buffer. -/
def Dev.terraceTrigger (m : Mem) (t n : Nat) (prev : Option SlotRec) (s : Sample) (d : Dev) : Dev :=
  let long := d.longMode t
  let o := d.getOrg t
  let source := if long then n - 1 else n - 2
  let o := if d.bnd.skipped.contains source && (d.getGzb t).num != n - 1 then { o with track := [] } else o
  let d := (d.lagBuild t s.omega (s.fbLost || s.hold)).lockSlotStart t
  if long then
    let d := d.setOrg t { o with swapDue := false, ending := none }
    let d := match prev with
      | some p => if o.phase == 1 then d.release m t o.act p else d
      | none => d
    (d.activate m t 0 n true).setFld (orgPage t) ORG_WIN_STATUS_VALID 0
  else d.setOrg t { o with swapDue := true, ending := if o.phase == 1 then some o.act else none }

/-- What starts afresh in terrace t once the slot before is released (R74, R102, Table 03-6). -/
def Dev.terraceStart (t : Nat) (d : Dev) : Dev :=
  let d := d.setOrg t { d.getOrg t with swapDue := false, ending := none }
  let d := d.sdlSlotStart t
  let d := d.setBlank t { d.getBlank t with slotSum := 0 }
  let d := { d with hopLog := SMap.drop d.hopLog (fun c => c / 512 == t) }
  [2 * t, 2 * t + 1].foldl (fun (d : Dev) b =>
    d.setBank b { d.getBank b with sched := false, early := none, shots := 0, sMin := 0, sMax := 0, lost := false }) d

/-- 300 ns after the trigger of slot n (Table 04-2 step 4): the ending slot closes and its halves are released; every terrace starts
its sums afresh. -/
def Dev.slotRelease (m : Mem) (n : Nat) (d : Dev) : Dev :=
  let d := { d with bnd := { d.bnd with startDue := none } }
  let d := match d.endingSlot n with
    | none => d
    | some p =>
      (List.range 4).foldl (fun (d : Dev) t =>
        match (d.getOrg t).ending with
        | some h => if d.down t then d else d.release m t h p
        | none => d) (d.closeSlot m p)
  (List.range 4).foldl (fun (d : Dev) t => if d.down t then d else d.terraceStart t) d

/-- What falls due after a trigger, each part at its time, when the clock moves on to `t` (Table 04-2, Table 01-6): the swap at 150 ns,
the releases at 300 ns, and then the fetch. -/
def Dev.slotDues (t : Nat) (m : Mem) (d : Dev) : Dev :=
  match d.bnd.startDue with
  | none => d
  | some (x, n) =>
    let a := x + Config.ns 150
    let b := x + Config.ns 300
    let d := if a ≤ t then (d.advance a).swapHalves m n else d
    if b ≤ t then ((d.advance b).slotRelease m n).fetch else d

/-! ### The trigger (R27, R28, R137, R138) -/

/-- Terrace t keeps a slot from starting (R28). -/
def Dev.terraceBusy (d : Dev) (t : Nat) : Bool :=
  let p := (d.getOrg t).phase
  !d.down t && (d.scanBusy t || p == 2 || p == 3)

/-- Whether the slot numbered n on `line` is skipped (R28, R182, R400). -/
def Dev.skips (d : Dev) (n line : Nat) : Bool :=
  d.acqBusy || (List.range 4).any (fun t => d.terraceBusy t) || d.throttleSkips n || d.gridError line

/-- A frame begins at slot n (R138, R139, R188). -/
def Dev.frameBegin (n : Nat) (rev : Bool) (d : Dev) : Dev :=
  let f := (d.fld 0x83 BND_FRAME_FRAME_NUM + 1) % 65536
  let d := (d.setFld 0x83 BND_FRAME_FRAME_NUM f).setFld 0x83 BND_FRAME_SLOT_IN_FRAME 0
  let d := (d.setFld 0x83 BND_LINE_IN_FRAME 1).setFld 0x83 BND_LINE_REV rev.toNat
  let r : FrameRec := { num := f, buf := d.fld 0x83 BND_BUF_ACTIVE, entries := hdrN d.activeBuf, firstNum := n, firstTime := d.devTime
                        unsync := d.isFollower && !d.on 0x03 DTB_STATUS_LOCKED }
  { d with frames := d.frames ++ [r], bnd := { d.bnd with skipOnce := false, against := 0 } }

/-- The frame takes slot n (R138, R139). -/
def Dev.frameSlot (n : Nat) (skip : Bool) (d : Dev) : Dev :=
  let f := d.fld 0x83 BND_FRAME_FRAME_NUM
  { d with frames := d.frames.map (fun (r : FrameRec) =>
      if r.num == f && r.ended.isNone then
        { r with slots := r.slots + 1, skips := if skip then r.skips + 1 else r.skips, lastNum := n, lastTime := d.devTime }
      else r) }

/-- The slot record of slot n (R133, R134, R187). -/
def Dev.slotRec (n : Nat) (s : Sample) (skip : Bool) (seq : DitherSeq) (d : Dev) : SlotRec :=
  { num := n, frame := d.fld 0x83 BND_FRAME_FRAME_NUM, inFrame := d.fld 0x83 BND_FRAME_SLOT_IN_FRAME
    devTime := d.devTime, angle := s.angle, omega := s.omega, fbLost := s.fbLost, hold := s.hold
    skipped := skip, listen := !skip && seq.listen, seqLate := !skip && seq.late
    unsync := d.isFollower && !d.on 0x03 DTB_STATUS_LOCKED
    lock := if skip then d.lockBits else 0
    notExtracted := if skip then d.downSet else 0
    acquiring := !skip }

/-- Slot n starts (R27): its swap and the releases of the slot before fall due, Bandstand begins its acquisition; a terrace that is
gated is not extracted (R133). The ending slot's LOCK bits are those before this trigger (R74); in a listen slot the alien entries that
last until it end (R122). -/
def Dev.slotStart (m : Mem) (n line : Nat) (s : Sample) (seq : DitherSeq) (rbMissing : Bool) (rb : List (Nat × Nat × Nat))
    (d : Dev) : Dev :=
  let prev := d.openSlot
  let d := d.gapTrigger
  let lock := d.lockBits
  let d := { d with slots := d.slots.map (fun (x : SlotRec) => if x.acquiring then { x with lockKept := some lock } else x) }
  let d := (List.range 4).foldl (fun (d : Dev) t => if d.down t then d else d.terraceTrigger m t n prev s) d
  let d := if seq.listen then d.aliensEnd n else d
  let d := { d with
    slots := d.slots ++ [d.slotRec n s false seq]
    gth := { d.gth with inhibitOnce := false, lateOnce := false }
    bnd := { d.bnd with
      startDue := some (d.now, n)
      gapDone := true
      acq := some { trigAt := d.now, num := n, line := line, dith := seq.d, dmax := seq.dmax, listen := seq.listen
                    rbMissing := rbMissing, rb := rb } } }
  let d := d.ldgSlotBegin (d.slotRec n s false seq)
  (List.range 4).foldl (fun (d : Dev) t => if d.down t then d.markNot m t n else d) d

/-- Slot n is skipped (R28, R134, R182): its header marks the gated terraces (R133); the zoom tables are fetched all the same (R90). -/
def Dev.slotSkip (m : Mem) (n line : Nat) (s : Sample) (seq : DitherSeq) (d : Dev) : Dev :=
  let d := (List.range 4).foldl (fun (d : Dev) t => if d.down t then d else d.ztabStart t m) d
  let d := if d.gridError line then (d.bump 0x83 BND_GRID_ERR).raise 0x83 1 else d
  let d := (d.bump 0x83 BND_SLOT_SKIP).gapTrigger
  let d := if d.bnd.skipOnce then d else Dev.raise 0x83 0 { d with bnd := { d.bnd with skipOnce := true } }
  let d := { d with slots := d.slots ++ [d.slotRec n s true seq]
                    bnd := { d.bnd with skipped := (n :: d.bnd.skipped).take 2 } }
  (List.range 4).foldl (fun (d : Dev) t => if d.down t then d.ldgNotExtracted m n t else d) d

/-- A slot trigger on `line` (R27, R28, R121, R137, R138, R187 to R189, R363). `begins` with its direction starts a frame;
`forced` is a skip of R187. -/
def Dev.trigger (m : Mem) (line : Nat) (begins rev : Bool) (s : Sample) (forced rbMissing : Bool)
    (rb : List (Nat × Nat × Nat)) (d : Dev) : Dev :=
  let n := (d.regN 0x83 BND_SLOT_NUM + 1) % 2 ^ 32
  let skip := forced || d.skips n line
  let d := (d.setRegN 0x83 BND_SLOT_NUM n).dtestPulse 1 1
  let d := if skip then d else d.applyPending
  let d := if begins then d.frameBegin n rev
    else d.setFld 0x83 BND_FRAME_SLOT_IN_FRAME (min 4095 (d.fld 0x83 BND_FRAME_SLOT_IN_FRAME + 1))
  let d := (d.setFld 0x83 BND_LINE_LINE line).frameSlot n skip
  let seq := d.seqFor n
  let d := d.ldgTakeover
  let d := if skip then d.slotSkip m n line s seq else d.slotStart m n line s seq rbMissing rb
  let d := d.seqStart
  let last := if d.on 0x83 BND_LINE_REV then line == 0 else line + 1 == hdrN d.activeBuf
  if last then d.endFrame false else d

/-- SLOT_TRIGGER (R27, R187, R188): the latest angle sample reaches the next line; of several reached at once all but the last
are skipped. `rbMissing` and `rb` are what the fetch's readback will find (R203). -/
def Dev.slotTrigger (m : Mem) (rbMissing : Bool) (rb : List (Nat × Nat × Nat)) (d : Dev) : Dev :=
  if !d.mayTrigger || d.fld 0x83 BND_CTRL_TRIG_MODE == 1 then d
  else match d.bnd.fresh, d.crossing with
    | some s, some (line, begins, rev) =>
      let more := d.reachesMore line rev
      let d := d.trigger m line begins rev s more rbMissing rb
      if more then d else { d with bnd := { d.bnd with fresh := none } }
    | _, _ => d

/-- TIMED_TRIGGER_EXPIRY (R189). -/
def Dev.timedTrigger (m : Mem) (rbMissing : Bool) (rb : List (Nat × Nat × Nat)) (d : Dev) : Dev :=
  match d.bnd.timedNext with
  | none => d
  | some x =>
    if !d.timedPossible || d.now < x then d
    else
      let s := (SMap.get none d.bnd.samples (d.fld 0x83 BND_CTRL_SRC)).getD {}
      let begins := !d.inFrame
      let line := if begins then 0 else d.fld 0x83 BND_LINE_LINE + 1
      let d := { d with bnd := { d.bnd with timedNext := some (x + d.timedPeriod) } }
      d.trigger m line begins false s false rbMissing rb

/-- A write of GZB.CTRL, `old` before it (R126). -/
def Dev.gzbCtrlWritten (m : Mem) (t : Nat) (old : Word) (d : Dev) : Dev :=
  if bitAt old.toNat 0 && !d.on (gzbPage t) GZB_CTRL_EN then d.scanAbandoned m t else d

/-- A write of GZB.LISTEN (R123). -/
def Dev.listenWritten (d : Dev) : Dev := d.clearAlienMaps.seqStart

end Sys2Proof.Machine
end

