-- ==== Sys2Proof/Machine/Power.lean ====
section
/-! DEFINITION. Supplies, reset, device-state requests, clocks and power domains (Supplies, reset, start-up and power domains). -/
namespace Sys2Proof.Machine

/-! ### Supplies and reset (R456 to R458) -/

/-- SUPPLY_OUT_OF_WINDOW (R456): rail `r` of Table 21-1 has been outside its window for 10 µs. -/
def Dev.supplyOut (r : Nat) (d : Dev) : Dev :=
  if 8 ≤ r then d
  else
    let d : Dev := { d with pwr := { d.pwr with railAt := d.now } }
    let d := (d.setBit 0x01 PWR_SUPPLY_FLAG r).setFld 0x01 PWR_STATUS_SUPPLY_OK 0
    let d := (d.bump 0x01 PWR_SUPPLY_CNT).raise 0x01 3
    if d.devState == stArmed || d.devState == stScanning then d.enterState stSafeHold else d

/-- SUPPLY_RESTORED (R456): every rail has been inside its window for 1 ms. -/
def Dev.supplyRestored (d : Dev) : Dev :=
  if d.pwr.railAt + Config.ms 1 ≤ d.now then d.setFld 0x01 PWR_STATUS_SUPPLY_OK 1 else d

/-- The OTP words after a reset: a word that was being programmed holds a value the spec does not give, neither blank
nor a seal (R409). -/
def Dev.otpAfter (d : Dev) : Otp × Dev :=
  match d.otp.job with
  | none => ({ words := d.otp.words, ecc := d.otp.ecc }, d)
  | some (w, v, _) =>
    let (f, d) := d.draw
    let x := BitVec.ofNat 32 f
    let isSeal := w % 512 == 511 && x == v
    let e := d.otpPut w (if x == 0 || isSeal then 1 else x)
    ({ words := e.otp.words, ecc := SMap.put 0 d.otp.ecc w (f / 2 ^ 32 % 3) }, d)

/-- The machine in RESET (R457, R458): every register and every block at its reset value. What lies outside the reset domain stays: OTP,
shared SRAM, pin levels, the supply supervision; DEV.FAULT_CAUSE but at power-on. -/
def Dev.inReset (cause : Nat) (power : Bool) (d : Dev) : Dev :=
  let (otp, d) := d.otpAfter
  let n : Dev := {
    variant := d.variant, now := d.now, freeCtr := d.freeCtr, blankLow := d.blankLow, otp := otp,
    gth := { emitEn := d.gth.emitEn, emitSince := d.gth.emitSince }, ldg := { raw := d.ldg.raw },
    pwr := { d.pwr with switch := none } }
  let n := n.setFld 0x00 DEV_STATE_STATE stReset
  let n := if power then n else n.setReg 0x00 DEV_FAULT_CAUSE (d.reg 0x00 DEV_FAULT_CAUSE)
  let n := n.setFld 0x01 PWR_STATUS_PWRGOOD (!bitAt d.pwr.causes 3).toNat
  let n := n.setFld 0x01 PWR_STATUS_SUPPLY_OK (d.fld 0x01 PWR_STATUS_SUPPLY_OK)
  let n := n.setFld 0x85 GTH_STATUS_EMIT_EN d.gth.emitEn.toNat
  n.setFld 0x01 PWR_RESET_CAUSE_CAUSE cause

/-- A reset cause begins (R457): the device enters RESET, and the cause is recorded when it was not there. -/
def Dev.resetBegin (cause : Nat) (d : Dev) : Dev := if d.devState == stReset then d else d.inReset cause false

/-- A cause that lasts begins: bit `b` of the causes in force, code `cause`. -/
def Dev.causeBegin (b cause : Nat) (d : Dev) : Dev :=
  if bitAt d.pwr.causes b then d
  else Dev.resetBegin cause { d with pwr := { d.pwr with causes := withBit d.pwr.causes b } }

/-- A cause that lasts ends. -/
def Dev.causeEnd (b : Nat) (d : Dev) : Dev :=
  if bitAt d.pwr.causes b then { d with pwr := { d.pwr with causes := withoutBit d.pwr.causes b, freeAt := d.now } } else d

/-- RESET_L_ASSERT, RESET_L_RELEASE, PWRGOOD_FALL, PWRGOOD_RISE (R457): the inputs after their filters. -/
def Dev.resetLFall (d : Dev) : Dev := d.causeBegin 2 2
def Dev.resetLRise (d : Dev) : Dev := d.causeEnd 2
def Dev.pwrgoodFall (d : Dev) : Dev := (d.causeBegin 3 3).setFld 0x01 PWR_STATUS_PWRGOOD 0
def Dev.pwrgoodRise (d : Dev) : Dev := (d.causeEnd 3).setFld 0x01 PWR_STATUS_PWRGOOD 1

/-- The rails with a brown-out level (Table 21-1). -/
def hasBrownout (r : Nat) : Bool := r == 0 || r == 1 || r == 6

/-- BROWNOUT and BROWNOUT_END (R456, R457) of rail `r`. -/
def Dev.brownout (r : Nat) (d : Dev) : Dev := if hasBrownout r then d.causeBegin (8 + r) 4 else d
def Dev.brownoutEnd (r : Nat) (d : Dev) : Dev := if hasBrownout r then d.causeEnd (8 + r) else d

/-- SOFT_RESET (R457): 10 µs of RESET. -/
def Dev.softReset (d : Dev) : Dev :=
  Dev.resetBegin 5 { d with pwr := { d.pwr with freeAt := max d.pwr.freeAt (d.now + Config.us 10) } }

/-- POWER_ON (R457): RESET with cause power-on; PWRGOOD and RESET_L stand at the levels given. -/
def Dev.powerOn (pwrgood resetL : Bool) (d : Dev) : Dev :=
  let causes := (if resetL then 0 else 4) + (if pwrgood then 0 else 8)
  let d := Dev.inReset 1 true { d with pwr := { causes := causes, freeAt := d.now, railAt := d.now } }
  d.setFld 0x01 PWR_STATUS_SUPPLY_OK pwrgood.toNat

/-- Every reset cause has ended. -/
def Dev.released (d : Dev) : Bool := d.devState != stReset || (d.pwr.causes == 0 && d.pwr.freeAt ≤ d.now)

/-- BOOT_ENTRY (R463): 50 µs after the end of every cause. -/
def Dev.bootEntry (d : Dev) : Dev :=
  if d.devState == stReset && d.pwr.causes == 0 && d.pwr.freeAt + Config.us 50 ≤ d.now then
    Dev.setState stBoot { d with otp := { d.otp with bootAt := d.now } }
  else d

/-! ### Device-state requests (R463, Table 21-4) -/

/-- PWR.REQ_STATUS.ERR codes. -/
abbrev reqTransition : Nat := 1
abbrev reqPll : Nat := 2
abbrev reqSupply : Nat := 3
abbrev reqThermal : Nat := 4
abbrev reqUnlocked : Nat := 5

/-- The conditions of ARMED: PLL, supplies, no thermal shut-down (Table 21-4). -/
def Dev.armedRefusal (d : Dev) : Nat :=
  if !d.pllLocked then reqPll
  else if !d.on 0x01 PWR_STATUS_SUPPLY_OK then reqSupply
  else if d.on 0x06 THM_STATUS_SHUT then reqThermal
  else 0

/-- The pages that must be locked before SCANNING (R201). -/
def scanLocks : List Nat := [0x06, 0x84, 0x85, 0x86, 0x87, 0x8E, 0x90, 0x91]

/-- Why a request for state `req` is refused, 0 when it is allowed (Table 21-4). -/
def Dev.requestRefusal (req : Nat) (d : Dev) : Nat :=
  let s := d.devState
  if req == stStandby then
    if s == stArmed || s == stScanning then 0
    else if s == stSafeHold then (if d.on 0x06 THM_STATUS_SHUT then reqThermal else 0)
    else reqTransition
  else if d.boundary && (req == stArmed || req == stScanning) then reqTransition
  else if req == stArmed then
    if s == stScanning then 0
    else if s == stStandby || s == stSafeHold then d.armedRefusal
    else reqTransition
  else if req == stScanning then
    if s == stArmed then
      if d.armedRefusal != 0 then d.armedRefusal
      else if scanLocks.all (fun p => d.locked p) then 0 else reqUnlocked
    else reqTransition
  else if req == stSafeHold then
    if s == stStandby || s == stArmed || s == stScanning then 0 else reqTransition
  else reqTransition

/-- A write of PWR.STATE_REQ (R463). -/
def Dev.stateRequest (req : Nat) (d : Dev) : Dev :=
  let e := d.requestRefusal req
  let d := (d.setFld 0x01 PWR_REQ_STATUS_LAST req).setFld 0x01 PWR_REQ_STATUS_ERR e
  if e == 0 then d.enterState req else d

/-! ### Clocks (R459, R460) -/

/-- TIMING_PLL_LOCK: at the first lock after reset device time starts from 0; at a relock a follower re-acquires (R144). -/
def Dev.pllLock (d : Dev) : Dev :=
  if !d.released || d.pllLocked then d
  else
    let d := d.setFld 0x01 PWR_STATUS_PLL_LOCKED 1
    if !d.dtb.run then { d with dtb := { d.dtb with run := true, dt := 0 } }
    else if d.isFollower then { d with dtb := { d.dtb with reacquire := true } }
    else d

/-- TIMING_PLL_UNLOCK. -/
def Dev.pllUnlock (d : Dev) : Dev :=
  if !d.pllLocked then d
  else
    let d := (d.setFld 0x01 PWR_STATUS_PLL_LOCKED 0).bump 0x01 PWR_UNLOCK_CNT
    let d := (d.setFld 0x01 PWR_STATUS_TIME_DISC 1).raise 0x01 2
    let d := if d.devState == stArmed || d.devState == stScanning then d.enterState stSafeHold else d
    (List.range 4).foldl (fun (d : Dev) t => if d.down t then d else d.scaleLoss t) d

/-- LANE_PLL_LOCK (R459, R161): released at the timing PLL's first lock; off while every lane is in DEEP or the cluster is gated. The
transmitters count their columns from here (R155). -/
def Dev.lanePllLock (d : Dev) : Dev :=
  if !d.dtb.run || d.down 8 || (List.range 10).all (fun n => 2 ≤ d.laneState n) then d
  else if d.on 0x01 PWR_STATUS_LANE_PLL_LOCKED then d
  else Dev.setFld { d with prm := { d.prm with lastAm := none, scramAt := none } } 0x01 PWR_STATUS_LANE_PLL_LOCKED 1

/-- AUX_PLL_LOCK (R459). -/
def Dev.auxPllLock (d : Dev) : Dev := if d.dtb.run then d.setFld 0x01 PWR_STATUS_AUX_PLL_LOCKED 1 else d

/-! ### Power domains (R465 to R470) -/

/-- GATE_CTRL and GATE_STATUS bit of domain k (Table 21-6). -/
def gateBit (k : Nat) : Nat := if k < 4 then k else if k < 8 then k + 4 else 16

/-- Why gating domain k is refused: 1 LOOP, 2 SAFETY (Table 21-6). -/
def Dev.gateRefusal (k : Nat) (d : Dev) : Nat :=
  if k < 4 then (if d.loopState (2 + k) != ftnOffSt then 1 else 0)
  else if k == 7 then (if d.variant == .is then 2 else 0)
  else if k == 8 then (if d.variant == .is && d.on 0xB0 LDG_CTRL_EN then 2 else 0)
  else 0

/-- Whether a key of the register file lies in domain k, the offsets that no gating touches apart (R443). -/
def keyIn (k key : Nat) : Bool := pageDomain (key / 0x1000) == some k && !isUngatedOffset (key / 0x1000) (key % 0x1000)

/-- Terrace t stops (Table 21-7 step 2): its cells are quenched, entries not yet counted are discarded, its gates are shut. -/
def Dev.terraceStop (t : Nat) (d : Dev) : Dev :=
  let d := { d with
    cells := SMap.drop d.cells (fun c => c / 32768 == t)
    pixels := SMap.drop d.pixels (fun x => x / 2048 == t)
    chan := SMap.drop d.chan (fun c => c / 512 == t)
    hops := SMap.drop d.hops (fun c => c / 512 == t) }
  [2 * t, 2 * t + 1].foldl (fun (d : Dev) b =>
    d.setBank b { d.getBank b with gate := none, early := none, gateOpen := false, gateDone := true, winOpen := false, armed := none }) d

/-- What a domain does when PWR begins to gate it (R467 steps 1 and 2, R468, R389). -/
def Dev.domainStop (m : Mem) (k : Nat) (d : Dev) : Dev :=
  let d := d.dmaPowerStop k
  if k < 4 then
    let d := (((d.calFailIn k 6).scanAbandoned m k).terraceStop k)
    match d.prm.mid with
    | some c => if c / 512 == k then { d with prm := { d.prm with mid := none } } else d
    | none => d
  else if k < 8 then
    (List.range 8).foldl (fun (d : Dev) i => d.coreStop (8 * (k - 4) + i) pglStopped) d
  else d.leaveAligned

/-- PWR acts on one bit of GATE_CTRL: refused, begun, or nothing to do (R466). -/
def Dev.gateOne (m : Mem) (d : Dev) (k : Nat) : Dev :=
  let want := d.bit 0x01 PWR_GATE_CTRL (gateBit k)
  if d.pwr.switch.isSome || want == d.gated k then d
  else
    let e := if want then d.gateRefusal k else 0
    if e != 0 then
      ((d.clrBit 0x01 PWR_GATE_CTRL (gateBit k)).setFld 0x01 PWR_GATE_ERR_ERR e).setFld 0x01 PWR_GATE_ERR_DOMAIN k
    else
      let d := Dev.setFld { d with pwr := { d.pwr with switch := some (k, want, d.now) } } 0x01 PWR_GATE_STATUS_BUSY 1
      if want then d.domainStop m k else d

/-- PWR goes through the bits in their order, one domain at a time (R466). -/
def Dev.gateNext (m : Mem) (d : Dev) : Dev := (List.range 9).foldl (Dev.gateOne m) d

/-- The domain in progress has reached its state, and the next request is acted on. -/
def Dev.gateOver (m : Mem) (d : Dev) : Dev :=
  Dev.gateNext m (Dev.setFld { d with pwr := { d.pwr with switch := none } } 0x01 PWR_GATE_STATUS_BUSY 0)

/-- Drop the contents of domain k: registers, mailboxes, read marks and the block's own state (R443, R470). -/
def Dev.domainLost (k : Nat) (d : Dev) : Dev :=
  let d := { d with
    regs := SMap.drop d.regs (keyIn k)
    seen := SMap.drop d.seen (keyIn k)
    mbx := SMap.drop d.mbx (fun x => pageDomain (x / 4) == some k)
    calShadow := SMap.drop d.calShadow (keyIn k) }
  if k < 4 then
    { d with
      blank := SMap.drop d.blank (fun t => t == k), lag := SMap.drop d.lag (fun m => m / 16 == k)
      lagDir := SMap.drop d.lagDir (fun t => t == k), hopLog := SMap.drop d.hopLog (fun c => c / 512 == k)
      hopClip := SMap.drop d.hopClip (fun t => t == k), sdl := SMap.drop d.sdl (fun t => t == k)
      org := SMap.drop d.org (fun t => t == k), bins := SMap.drop d.bins (fun x => x / 16384 / 512 == k)
      zoom := SMap.drop d.zoom (fun x => x / 512 / 512 == k), blocks := SMap.drop d.blocks (fun x => x / 256 / 512 == k)
      gzb := SMap.drop d.gzb (fun t => t == k), satEchoes := SMap.drop d.satEchoes (fun c => c / 512 == k) }
  else if k < 8 then
    { d with
      cores := SMap.drop d.cores (fun c => c / 8 + 4 == k), code := SMap.drop d.code (fun a => a / 65536 + 4 == k)
      bedMap := SMap.drop d.bedMap (fun b => b / 16 + 4 == k), pglLoads := SMap.drop d.pglLoads (fun t => t + 4 == k) }
  else Dev.setFld { d with prm := {} } 0x01 PWR_STATUS_LANE_PLL_LOCKED 0

/-- Records of terrace t that have not left when it is gated are lost with it; its slot does not wait for them. -/
def Dev.deliveriesLost (m : Mem) (t : Nat) (d : Dev) : Dev :=
  let g := d.getGzb t
  if g.recDone && g.echoes.isEmpty then d
  else d.markNot m t g.num

/-- DOMAIN_GATED (R467 steps 3 and 4). -/
def Dev.domainGated (m : Mem) (d : Dev) : Dev :=
  match d.pwr.switch with
  | some (k, true, _) =>
    let d := d.dmaPowerHalt
    let d := if k < 4 then d.deliveriesLost m k else d
    let d := (d.domainLost k).setBit 0x01 PWR_GATE_STATUS (gateBit k)
    ((d.bump 0x01 PWR_GATE_CNT).raise 0x01 0).gateOver m
  | _ => d

/-- DOMAIN_RESTORED (R470, R443, R462): the pages hold their reset values, the bias loop of a terrace follows FTN.CTRL again. -/
def Dev.domainRestored (m : Mem) (d : Dev) : Dev :=
  match d.pwr.switch with
  | some (k, false, _) =>
    let d := ((d.domainLost k).clrBit 0x01 PWR_GATE_STATUS (gateBit k)).raise 0x01 1
    let d := if k < 4 then Dev.loopSync false { d with pwr := { d.pwr with switch := none } } (2 + k) else d
    d.gateOver m
  | _ => d

/-- DOMAIN_SWITCH_TIMEOUT (R466): the state was not reached within 1 ms. -/
def Dev.domainTimeout (d : Dev) : Dev :=
  match d.pwr.switch with
  | some (_, _, a) => if a + Config.ms 1 ≤ d.now then d.enterFault DEV_FAULT_CAUSE_PWR else d
  | none => d

end Sys2Proof.Machine
end

