-- ==== Sys2Proof/Machine/Bus.lean ====
section
/-! DEFINITION. The register fabric: pages, their common registers and mailboxes, the bit-alias window, the memory windows
(Register interface and event sources, R13, R33 to R35, R435 to R443). What a write does beside its field is the block's. -/
namespace Sys2Proof.Machine

/-! ### Common registers (R438 to R440, R443) -/

/-- A page without its block: Lodge's where its fuse is not blown (R3). -/
def Dev.absent (d : Dev) (p : Nat) : Bool := 0xB0 ≤ p && p ≤ 0xB3 && !d.hasLodge

/-- The offsets of a mailbox. -/
def isMailbox (off : Nat) : Bool := off == MBX_SELECT || off == MBX_CTRL || (MBX_DATA ≤ off && off < MBX_DATA + 32)

/-- A register that does not answer: its page is without its block, or unpowered (R3, R443); the mailboxes of an unpowered page answer,
with data 0 (R440; DEDUCED, log entry 86). -/
def Dev.dead (d : Dev) (p off : Nat) : Bool :=
  d.absent p || (!d.powered p && !isUngatedOffset p off && !isMailbox off)

/-- PAGE_STATUS. -/
def Dev.pageStatus (d : Dev) (p : Nat) : Nat :=
  if d.absent p then 2
  else 4 + 2 * (d.powered p).toNat + (d.locked p).toNat

/-- An initiator's mailbox in a page. -/
def Dev.mailbox (d : Dev) (ini : Initiator) (p : Nat) : Mailbox := SMap.get {} d.mbx (4 * p + ini.index)
def Dev.setMailbox (ini : Initiator) (p : Nat) (x : Mailbox) (d : Dev) : Dev :=
  { d with mbx := SMap.put {} d.mbx (4 * p + ini.index) x }

/-- The two words of a 64-bit value. -/
def twoWords (n : Nat) : List Word := [BitVec.ofNat 32 n, BitVec.ofNat 32 (n / 2 ^ 32)]

/-- The oldest log entry (R453). -/
def Dev.evmSnapshot (sel : Nat) (d : Dev) : List Word :=
  if sel != 0 then []
  else match d.evm.log with
    | [] => []
    | e :: _ => twoWords e.time ++ [BitVec.ofNat 32 (2 ^ 31 + 2 ^ 24 * e.bit + 2 ^ 16 * e.page + e.src), BitVec.ofNat 32 e.seq]

/-- The snapshot that page p defines for a selection (R440, and the blocks' mailbox rules R149, R221, R243, R283, R296, R324, R375, R393,
R434, R453); nothing for any other. -/
def Dev.snapshot (p sel : Nat) (d : Dev) : List Word :=
  if !d.powered p then []
  else if p == 0x02 then d.evmSnapshot sel
  else if p == 0x03 then
    if sel == 0 then twoWords d.devTime else if sel == 1 then twoWords d.dtb.lastTm
    else if sel == 2 then twoWords d.dtb.lastA else []
  else if p == 0x04 then d.secSnapshot sel
  else if p == 0x07 then d.calSnapshot sel
  else if 0x58 ≤ p && p < 0x78 then d.pglSnapshot (p - 0x58) sel
  else if p == 0x85 then d.gthSnapshot sel
  else if 0x86 ≤ p && p < 0x8E then d.ftnSnapshot (p - 0x86) sel
  else if p == 0x92 then d.cscSnapshot sel
  else if p == 0x93 then if sel == 0 then twoWords d.blv.tTrig else if sel == 1 then twoWords d.blv.readyAt else []
  else if p == 0xB0 then d.ldgSnapshot sel
  else []

/-- MBX_SNAPSHOT (R440): the latest selection of an initiator is taken, and VALID is set. -/
def Dev.mbxTake (ini : Initiator) (p : Nat) (d : Dev) : Dev :=
  let x := d.mailbox ini p
  if !x.due then d
  else d.setMailbox ini p { x with due := false, valid := true, data := d.snapshot p x.sel }

/-! ### Reads -/

/-- A word of the Bandstand pattern buffers (R498). -/
def Dev.patternWord (d : Dev) (a : Nat) : Word :=
  if 0x100000 ≤ a then 0
  else BitVec.ofNat 32 (bufNum (if a < 0x80000 then d.bnd.buf0 else d.bnd.buf1) (4 * (a % 0x80000 / 4)) 4)

/-- DBG_MEM_READ (R498). -/
def Dev.dbgRead (d : Dev) : Word × Dev :=
  if d.bit 0xB4 DBG_STATUS 2 then
    (d.patternWord (d.regN 0xB4 DBG_MEM_ADDR), d.setRegN 0xB4 DBG_MEM_ADDR (d.regN 0xB4 DBG_MEM_ADDR + 4))
  else (0, d)

/-- Registers of the management plane whose value is formed when they are read. -/
def Dev.readManagement (p off : Nat) (d : Dev) : Option (Word × Dev) :=
  let n (v : Nat) : Option (Word × Dev) := some (BitVec.ofNat 32 v, d)
  if p == 0x02 then
    if off == EVM_PIN_STATUS then n ((List.range 4).foldl (fun a i => if d.pinLow i then a + 2 ^ i else a) 0)
    else if off == EVM_LOG_LEVEL then n d.evm.log.length
    else if EVM_SUMMARY ≤ off && off < EVM_SUMMARY + 36 then n (d.summary ((off - EVM_SUMMARY) / 4))
    else none
  else if p == 0x04 then if off == SEC_RPT_DATA then some d.rptRead else none
  else if p == 0x05 then if off == OTP_RD_DATA then some d.otpRead else none
  else if p == 0x06 then
    if THM_READ ≤ off && off < THM_READ + 56 then some (d.tsRegister ((off - THM_READ) / 4), d) else none
  else none

/-- Registers of the data plane whose value is formed when they are read. -/
def Dev.readData (p off : Nat) (d : Dev) : Option (Word × Dev) :=
  if 0x10 ≤ p && p < 0x50 then
    let tab := (SDL_CAL_TAB ≤ off && off < SDL_CAL_TAB + 2048)
      || (p % 16 == 0 && SDL_REF_CAL_TAB ≤ off && off < SDL_REF_CAL_TAB + 64)
    if tab && d.on p SDL_CTRL_CAL_VIEW then some (d.shadowWord p off, d)
    else if off == SDL_LOCK_STATUS then some (d.reg (refPage ((p - 0x10) / 16)) SDL_LOCK_STATUS, d)
    else none
  else if 0x50 ≤ p && p < 0x54 then if off == ORG_GATE_STATUS then some (d.gateStatus (p - 0x50), d) else none
  else if 0x54 ≤ p && p < 0x58 then
    if off == GZB_STATUS then
      some (BitVec.ofNat 32 (2 ^ 16 * d.mapEntries (p - 0x54) + (d.getGzb (p - 0x54)).scan.isSome.toNat), d)
    else none
  else none

/-- Registers of the emitter, analog, safety and test pages whose value is formed when they are read. -/
def Dev.readRest (p off : Nat) (d : Dev) : Option (Word × Dev) :=
  if p == 0x85 then if off == GTH_STATUS then some (setBits (d.reg p off) 9 9 d.fireEnable.toNat, d) else none
  else if p == 0x90 then if off == PMP_EXC_STATUS then some (d.excStatus, d) else none
  else if p == 0x93 then if off == BLV_RD_DATA then some d.blvReadData else none
  else if p == 0xB2 then
    if off == LDG_NET_STATUS then
      let w := setBits (d.reg p off) 1 1 (d.safetyLink false).toNat
      some (setBits w 2 2 (d.safetyLink true).toNat, d)
    else none
  else if p == 0xB3 then
    if off == LDG_OSSD_STATUS then
      some ((List.range 4).foldl (fun w n => setBits w (12 + n) (12 + n) (d.tpoHigh n).toNat) (d.reg p off), d)
    else none
  else if p == 0xB4 then if off == DBG_MEM_DATA then some d.dbgRead else none
  else none

/-- A register's value with what the read itself does to it: RC bits are cleared, the peak level restarts from the level, a counter's
first-count event is armed again (R73, R174, Table 20-3). -/
def Dev.readStored (p off : Nat) (d : Dev) : Word × Dev :=
  match regDef p off with
  | none => (0, d)
  | some r =>
    let w := d.reg p off
    let d := { d with seen := SMap.put false d.seen (regKey p off) false }
    let d := if r.rc == 0 then d else d.setReg p off (w &&& ~~~r.rc)
    (w, if p == 0x82 && off == PRM_EGRESS then d.setFld p PRM_EGRESS_PEAK (d.fld p PRM_EGRESS_LEVEL) else d)

/-- A common register's value, none where the offset is the page's own. -/
def Dev.readCommon (ini : Initiator) (p off : Nat) (d : Dev) : Option Word :=
  if off == EVENT_RAW || off == EVENT_MASK || off == PAGE_LOCK then some (d.reg p off)
  else if off == EVENT_PENDING then some (d.pending p)
  else if off == MBX_SELECT then some (BitVec.ofNat 32 (d.mailbox ini p).sel)
  else if off == MBX_CTRL then some (BitVec.ofNat 32 (d.mailbox ini p).valid.toNat)
  else if MBX_DATA ≤ off && off < MBX_DATA + 32 then some ((d.mailbox ini p).data.getD ((off - MBX_DATA) / 4) 0)
  else none

/-- A read of the register at `off` of page `p` (R437 to R440, R443). -/
def Dev.pageRead (ini : Initiator) (p off : Nat) (d : Dev) : Word × Dev :=
  if off == 0 then (BitVec.ofNat 32 (2 ^ 16 * p + 2 ^ 8 * pageBlock p + pageInstance p), d)
  else if off == 4 then (0x100, d)
  else if off == 8 then (BitVec.ofNat 32 (d.pageStatus p), d)
  else if d.dead p off then (0, d)
  else match d.readCommon ini p off with
    | some w => (w, d)
    | none =>
      match d.readManagement p off with
      | some x => x
      | none => match d.readData p off with
        | some x => x
        | none => match d.readRest p off with
          | some x => x
          | none => d.readStored p off

/-! ### Writes -/

/-- The merge of a write with a register (R13, R442): RW bits take the word, RWL bits too while the page is not locked, W1C bits
written 1 are cleared. W1S and WO bits act and hold nothing. -/
def Dev.mergeWrite (r : RegDef) (p off : Nat) (w : Word) (d : Dev) : Dev :=
  let old := d.reg p off
  let mask := r.rw ||| (if d.locked p then 0 else r.rwl)
  d.setReg p off (((old &&& ~~~mask) ||| (w &&& mask)) &&& ~~~(w &&& r.w1c))

/-- Writing EVM.LOG_POP (R449). -/
def Dev.logPop (seq : Nat) (d : Dev) : Dev :=
  let i := d.evm.log.findIdx (fun e => e.seq == seq)
  { d with evm := { d.evm with log := if i < d.evm.log.length then d.evm.log.drop (i + 1) else d.evm.log } }

/-- Writing EVM.LOG_CTRL.CLEAR (R452). -/
def Dev.logClear (d : Dev) : Dev := { d with evm := { d.evm with log := [] } }

/-- What follows a write of SEC.BOOT_CTRL.GO: with K_D the sequence generator starts (R121, R420). -/
def Dev.bootGoThen (d : Dev) : Dev :=
  let was := d.on 0x54 GZB_SEQ_STATUS_KEY_OK
  let d := d.bootGo
  if !was && d.on 0x54 GZB_SEQ_STATUS_KEY_OK then d.seqStart else d

/-- What a write of a page 0x00 to 0x07 does beside its fields. -/
def Dev.afterManagement (m : Mem) (p off : Nat) (old w : Word) (d : Dev) : Dev :=
  if p == 0x01 then
    if off == PWR_STATE_REQ then d.stateRequest (bitsOf w 2 0)
    else if off == PWR_GATE_CTRL then d.gateNext m
    else if off == PWR_RESET_CTRL then if bitAt w.toNat 0 && bitsOf w 31 16 == 0x52E5 then d.softReset else d
    else d
  else if p == 0x02 then
    if off == EVM_SOFT then if bitAt w.toNat 0 then d.raise 0x02 2 else d
    else if off == EVM_LOG_POP then d.logPop w.toNat
    else if off == EVM_LOG_CTRL then if bitAt w.toNat 0 then d.logClear else d
    else d
  else if p == 0x03 then
    if off == DTB_CTRL then
      let d := d.dtbCtrlWritten old
      let d := if bitsOf w DTB_CTRL_LOAD.hi DTB_CTRL_LOAD.lo == 1 then d.dtbLoad else d
      if bitsOf w DTB_CTRL_RESYNC.hi DTB_CTRL_RESYNC.lo == 1 then d.dtbResync else d
    else d
  else if p == 0x04 then
    if off == SEC_BOOT_CTRL then if bitAt w.toNat 0 then d.bootGoThen else d
    else if off == SEC_ATT_CTRL then if bitAt w.toNat 0 then d.attGo else d
    else if off == SEC_TOKEN_CTRL then if bitAt w.toNat 0 then d.tokenGo m else d
    else d
  else if p == 0x05 then
    if off == OTP_PROG_CTRL then if bitAt w.toNat 0 then d.otpGo else d else d
  else if p == 0x06 then
    if off == THM_CTRL || off == THM_PARK_MASK then d.parkCores else d
  else if p == 0x07 then
    if off == CAL_CTRL then
      let d := if bitAt w.toNat CAL_CTRL_START.lo then d.calStart else d
      if bitAt w.toNat CAL_CTRL_ABORT.lo then d.calAbort else d
    else d
  else d

/-- Whether a write meets the bed under test, as bed `b`'s page or as its reference page (R389). -/
def Dev.underTest (d : Dev) (b : Nat) : Bool := d.calRuns && d.cal.bed == some b
def Dev.terraceTest (d : Dev) (t : Nat) : Bool :=
  d.calRuns && (match d.cal.bed with | some b => b / 16 == t | none => false)

/-- A write of a Sundial page: the tables go to their shadows, commits act, a bed under test is left alone (R66, R389). -/
def Dev.sdlWrite (r : RegDef) (p off : Nat) (w : Word) (d : Dev) : Dev :=
  let b := p - 0x10
  let t := b / 16
  if SDL_CAL_TAB ≤ off && off < SDL_CAL_TAB + 2048 then if d.underTest b then d.calCollide else d.setShadow p off w
  else if SDL_REF_CAL_TAB ≤ off && off < SDL_REF_CAL_TAB + 64 then d.setShadow p off w
  else if off == SDL_CAL_COMMIT then if d.underTest b then d.calCollide else d.commitBed b w.toNat
  else if p % 16 == 0 && off == SDL_START_CTRL then
    let d := d.mergeWrite r p off w
    if !bitAt w.toNat 31 then d
    else if d.terraceTest t then d.calCollide
    else d.commitRef t
  else d.mergeWrite r p off w

/-- What a write of a data-plane page other than Sundial's and Pergola's does beside its fields. -/
def Dev.afterData (m : Mem) (p off : Nat) (old w : Word) (d : Dev) : Dev :=
  if p < 0x0C then
    if off == MDW_LATCH_CLR then if bitAt w.toNat 0 then d.latchClear (p - 0x08) else d
    else if off == MDW_BLANK_CTRL then d.blankCtrlWritten (p - 0x08) old
    else if off == MDW_CTRL then d.armModeWritten (p - 0x08)
    else d
  else if p < 0x10 then
    if TRL_ROUTE ≤ off && off < TRL_ROUTE + 256 then d.routeWritten (p - 0x0C) off old else d
  else if p < 0x54 then
    if off == ORG_CTRL then d.orgCtrlWritten (p - 0x50) old
    else if off == ORG_CLEAR then if bitAt w.toNat 0 then d.orgClear (p - 0x50) else d
    else d
  else
    if off == GZB_CTRL then d.gzbCtrlWritten m (p - 0x54) old
    else if p == 0x54 && (off == GZB_DITHER || off == GZB_DITHER_SALT) then d.seqStart
    else if p == 0x54 && off == GZB_LISTEN then d.listenWritten
    else d

/-- A write of a Pergola page (R298, R309, R318, R320). -/
def Dev.pglWrite (m : Mem) (r : RegDef) (p off : Nat) (w : Word) (d : Dev) : Dev :=
  if off == PGL_CTRL then d.pglCtrlWrite (p - 0x58) w
  else if p % 8 == 0 && off == PGL_LOAD_CTRL then if bitAt w.toNat 0 then d.pglLoad m ((p - 0x58) / 8) else d
  else d.mergeWrite r p off w

/-- A write of BND.BUF (R180): READY, then LOAD. -/
def Dev.bufWrite (m : Mem) (w : Word) (d : Dev) : Dev :=
  let d := d.readyWrite (bitAt w.toNat 2)
  if bitAt w.toNat 8 then d.patternLoad m else d

/-- GTH.CFG has been written, with a dump demand that stood or not and another loop selected before: a demand of DUMP_ON_EN begins or ends
(R217); the conditions of R212 are those of the loop selected now. -/
def Dev.gthCfgWritten (stood : Bool) (src : Nat) (d : Dev) : Dev :=
  let l := d.fld 0x85 GTH_CFG_SRC
  let d := if l == src then d else { d with gth := { d.gth with calmSince := none } }
  let d := (d.setFld 0x85 GTH_STATUS_SLOW (d.isSlow.getD (d.on 0x85 GTH_STATUS_SLOW)).toNat)
  let d := d.setFld 0x85 GTH_STATUS_STALE (d.on 0x85 GTH_STATUS_STALE && d.isStale).toNat
  let d := (d.loopTell l).dumpFollow
  if d.emitDump && !stood then (d.bump 0x85 GTH_DUMP_CNT).raise 0x85 3 else d

/-- A write of a Gatehouse register (R211, R217). -/
def Dev.gthWrite (r : RegDef) (off : Nat) (w : Word) (d : Dev) : Dev :=
  if GTH_BUD_SCAN_SEG ≤ off && off < GTH_BUD_STAT_GRP + 20 then d.budgetWrite off w
  else if off == GTH_OMEGA_MIN then d.omegaMinWrite w
  else if off == GTH_VLIM then d.vlimWrite w
  else if off == GTH_CFG then (d.mergeWrite r 0x85 off w).gthCfgWritten d.dumpDemand (d.fld 0x85 GTH_CFG_SRC)
  else d.mergeWrite r 0x85 off w

/-- A write of a Fountain register (R34, R223, R233, R236, R242). -/
def Dev.ftnWrite (r : RegDef) (l off : Nat) (w : Word) (d : Dev) : Dev :=
  if off == FTN_CTRL then d.ftnCtrlWrite l w true
  else if off == FTN_SP then d.spWrite l w
  else if r.rwo == 0 then d.mergeWrite r (ftnPage l) off w
  else
    let (n, ign) := d.rwoWrite l off r.rwo w
    let d := d.setReg (ftnPage l) off (n &&& r.rwo)
    if ign then d.coefIgnored l
    else if off == FTN_SP_LIM then d.spLimWritten l
    else d

/-- What a write of an analog page does beside its fields (R245, R248, R252, R261, R280). -/
def Dev.afterAnalog (p off : Nat) (old : Word) (d : Dev) : Dev :=
  if p == 0x8E then
    if off == PMP_CTRL then d.pmpCtrlWritten old else if off == PMP_CLAMP then d.clampWritten else d
  else if p == 0x8F then
    if PMP_SD_CTRL ≤ off && off < PMP_SD_CTRL + 8 then d.sdCtrlWritten ((off - PMP_SD_CTRL) / 4) old
    else if PMP_SD_LIST ≤ off && off < PMP_SD_LIST + 128 then d.sdListWritten ((off - PMP_SD_LIST) / 64)
    else d
  else if p == 0x90 then
    if PMP_EXC ≤ off && off < PMP_EXC + 16 && !d.locked p then d.excWritten ((off - PMP_EXC) / 4) else d
  else if p == 0x92 then
    if off == CSC_CTRL then d.cscCtrlWritten old
    else if CSC_CH_CFG ≤ off && (off - CSC_CH_CFG) % 32 == 0 then d.cscCfgWritten ((off - CSC_CH_CFG) / 32) old
    else if CSC_DET_CFG ≤ off && (off - CSC_DET_CFG) % 32 == 0 then d.cscDetWritten ((off - CSC_DET_CFG) / 32) old
    else d
  else d

/-- What a write of a Belvedere page does beside its fields (R287, R289). -/
def Dev.afterBlv (p off : Nat) (w : Word) (d : Dev) : Dev :=
  if p == 0x93 && off == BLV_CTRL then
    let d := if bitAt w.toNat BLV_CTRL_ABORT.lo then d.blvAbort else d
    let d := if bitAt w.toNat BLV_CTRL_ARM.lo then d.blvArm else d
    if bitAt w.toNat BLV_CTRL_FORCE.lo then
      let (d, bs) := d.blvTrigger 5 d.devTime
      d.raiseAll 0x93 bs
    else d
  else if p == 0x94 && BLV_TU_CFG ≤ off && off < BLV_TU_CFG + 128 then d.blvUnitReset ((off - BLV_TU_CFG) / 32)
  else d

/-- A write of a DMA page (R328, R332, R334, R337, R342). -/
def Dev.dmaWrite (r : RegDef) (p off : Nat) (w : Word) (d : Dev) : Dev :=
  let c := p - 0x97
  if p == 0xAF then
    let d := d.mergeWrite r p off w
    if off == DMA_COMMON_CTRL then d.dmaCommonWritten else d
  else if off == DMA_RD_PTR then d.rdPtrWrite c (bitsOf w 22 0)
  else
    let d := d.mergeWrite r p off w
    if off == DMA_CTRL then d.dmaCtrlWritten c
    else if off == DMA_RING_BASE || off == DMA_RING_CFG then d.ringWritten c
    else d

/-- What a write of a lane, link or Bandstand page does beside its fields. -/
def Dev.afterLink (p off : Nat) (old : Word) (d : Dev) : Dev :=
  if p < 0x82 then if off == PRM_LANE_CTRL then d.laneCtrlWritten (p - 0x78) old else d
  else if p == 0x82 then if off == PRM_LINK_CTRL then d.linkCtrlWritten else d
  else if p == 0x83 then
    if off == BND_CTRL then d.bndCtrlWritten old else if off == BND_TIMED_PERIOD then d.timedCheck else d
  else if p == 0x84 then
    if off == BND_THERM_MAP then d.chargingWindow
    else if off == BND_SEG_MASK_LO || off == BND_SEG_MASK_HI || off == BND_DIAG_CFG then d.noteMasks else d
  else d

/-- A write of the DBG page: test selections are refused and counted while they are locked (R496). -/
def Dev.dbgWrite (r : RegDef) (off : Nat) (w : Word) (d : Dev) : Dev :=
  if (off == DBG_ATEST_SEL || (DBG_DTEST ≤ off && off < DBG_DTEST + 64)) && !d.bit 0xB4 DBG_STATUS 1 then
    d.bump 0xB4 DBG_LOCKED_CNT
  else d.mergeWrite r 0xB4 off w

/-- The bits of a write that the register's own refusals leave (R33): PMP.IN_CFG.GAIN of inputs 0 to 23, SEC.IMG_* outside BOOT. -/
def Dev.refused (p off : Nat) (d : Dev) : Word :=
  if p == 0x91 && PMP_IN_CFG ≤ off && off < PMP_IN_CFG + 96 then 0x38
  else if p == 0x04 && SEC_IMG_MGMT ≤ off && off ≤ SEC_IMG_SAFE && d.devState != stBoot then 0xFFFFFFFF
  else 0

/-- The merge of a write whose register refuses some of its bits. -/
def Dev.mergeAllowed (r : RegDef) (p off : Nat) (w : Word) (d : Dev) : Dev :=
  let no := d.refused p off
  d.mergeWrite r p off ((w &&& ~~~no) ||| (d.reg p off &&& no))

/-- A write of a register of the page's own. -/
def Dev.ownWrite (m : Mem) (r : RegDef) (p off : Nat) (w : Word) (d : Dev) : Dev :=
  let old := d.reg p off
  if p < 0x08 then (d.mergeAllowed r p off w).afterManagement m p off old w
  else if 0x10 ≤ p && p < 0x50 then d.sdlWrite r p off w
  else if p < 0x58 then (d.mergeWrite r p off w).afterData m p off old w
  else if p < 0x78 then d.pglWrite m r p off w
  else if p < 0x85 then
    if p == 0x83 && off == BND_BUF then d.bufWrite m w else (d.mergeWrite r p off w).afterLink p off old
  else if p == 0x85 then d.gthWrite r off w
  else if p < 0x8E then d.ftnWrite r (p - 0x86) off w
  else if p < 0x93 then (d.mergeAllowed r p off w).afterAnalog p off old
  else if p < 0x97 then (d.mergeWrite r p off w).afterBlv p off w
  else if p < 0xB0 then d.dmaWrite r p off w
  else if p < 0xB4 then if p == 0xB0 && off == LDG_FAULT then d.faultClear m w else d.mergeWrite r p off w
  else d.dbgWrite r off w

/-- A write of a common register; none where the offset is the page's own. -/
def Dev.writeCommon (m : Mem) (ini : Initiator) (p off : Nat) (w : Word) (d : Dev) : Option Dev :=
  if off == EVENT_MASK then some (d.setReg p off w)
  else if off == EVENT_PENDING then some (d.setReg p EVENT_RAW (d.reg p EVENT_RAW &&& ~~~w))
  else if off == PAGE_LOCK then
    if bitAt w.toNat 0 && !d.locked p then
      let d := d.setReg p PAGE_LOCK 1
      some (if 0xB0 ≤ p && p ≤ 0xB3 then d.ldgLocked m else d)
    else some d
  else if off == MBX_SELECT then some (d.setMailbox ini p { d.mailbox ini p with sel := bitsOf w 15 0, due := true, valid := false })
  else none

/-- Offsets whose writes neither set CFG_TOUCHED nor count as configuration (R35, R353). -/
def isQuiet (off : Nat) : Bool := off == EVENT_PENDING || off == MBX_SELECT || off == MBX_CTRL

/-- What a write does by landing on its page: CFG_TOUCHED of the slots in their interval (R35), Lodge's CONFIG fault (R353). -/
def Dev.landing (p off : Nat) (d : Dev) : Dev :=
  if isQuiet off then d
  else
    let d := if isDataPlane p then d.touchSlots else d
    if 0x08 ≤ p && p ≤ 0x57 then d.ldgFault 8 else d

/-- A write of the register at `off` of page `p` (R33, R437 to R443). -/
def Dev.pageWrite (m : Mem) (ini : Initiator) (p off : Nat) (w : Word) (d : Dev) : Dev :=
  let d := d.landing p off
  if d.dead p off then d
  else match d.writeCommon m ini p off w with
    | some d => d
    | none => match regDef p off with
      | some r => d.ownWrite m r p off w
      | none => d

/-! ### The bit-alias window (R441) -/

/-- The bits of a register that keep their value when a word that holds them is written: RW, RWL and RWO. -/
def holdMask (p off : Nat) : Word :=
  if off == EVENT_MASK then 0xFFFFFFFF
  else if off == MBX_SELECT then 0xFFFF
  else match regDef p off with
    | some r => r.rw ||| r.rwl ||| r.rwo
    | none => 0

/-- The value those bits have: for a calibration table its shadow. -/
def Dev.heldWord (ini : Initiator) (p off : Nat) (d : Dev) : Word :=
  if off == MBX_SELECT then BitVec.ofNat 32 (d.mailbox ini p).sel
  else if 0x10 ≤ p && p < 0x50 && SDL_CAL_TAB ≤ off then d.shadowWord p off
  else d.reg p off

/-- The registers whose write acts through bits that keep their value, which a write of another bit must leave without effect (R441):
CLOSE of FTN.CTRL, RUN of PGL.CTRL, EN of DMA.CTRL, the other nibbles of TRL.ROUTE. None for every other register or bit. -/
def Dev.aliasApart (p off b : Nat) (w : Word) (d : Dev) : Option Dev :=
  let d := d.landing p off
  if d.dead p off then none
  else if 0x86 ≤ p && p < 0x8E && off == FTN_CTRL && b != 1 then some (d.ftnCtrlWrite (p - 0x86) w false)
  else if 0x58 ≤ p && p < 0x78 && off == PGL_CTRL && b != 0 then some (d.pglModeWrite (p - 0x58) w)
  else if 0x97 ≤ p && p < 0xAF && off == DMA_CTRL && b != 0 then (regDef p off).map (fun r => d.mergeWrite r p off w)
  else if 0x0C ≤ p && p < 0x10 && TRL_ROUTE ≤ off && off < TRL_ROUTE + 256 then
    (regDef p off).map (fun r => (d.mergeWrite r p off w).nibbleWritten (p - 0x0C) off (d.reg p off) (b / 4))
  else none

/-- A write of v to bit b through the window: one atomic write of the register in which the other bits have no effect. -/
def Dev.aliasWrite (m : Mem) (ini : Initiator) (p off b : Nat) (v : Bool) (d : Dev) : Dev :=
  let keep := d.heldWord ini p off &&& holdMask p off
  let w := setBits keep b b v.toNat
  match d.aliasApart p off b w with
  | some d => d
  | none => d.pageWrite m ini p off w

/-- A read of bit b through the window: no side effect of the read. -/
def Dev.aliasRead (ini : Initiator) (p off b : Nat) (d : Dev) : Word × Dev :=
  let (w, d') := d.pageRead ini p off
  (BitVec.ofNat 32 (bitsOf w b b), { d with freeCtr := d'.freeCtr })

/-! ### The address map (R437, Table 20-1) -/

/-- Where an aligned address leads: SRAM, the Orangery window (channel, byte), zoom counters and positions, a core's data word, a terrace's
code memory, a register, one of its bits. -/
inductive Place where
  | sram (a : Nat)
  | bins (ch off : Nat)
  | zoom (off : Nat)
  | zpos (off : Nat)
  | data (k w : Nat)
  | code (t off : Nat)
  | reg (p off : Nat)
  | bit (p off b : Nat)
  | none
deriving DecidableEq, Repr

/-- What an initiator finds at a byte address (Table 20-1, R92, R95, R326, R436, R495). -/
def placeOf (ini : Initiator) (a : Nat) : Place :=
  let fabric := ini == .control || ini == .dma
  if a % 4 != 0 then .none
  else if a < 0x800000 then if ini != .management then .sram a else .none
  else if 0x10000000 ≤ a && a < 0x14000000 then
    if ini == .control then .bins ((a - 0x10000000) / 0x8000) (a % 0x8000) else .none
  else if 0x18000000 ≤ a && a < 0x18100000 then if ini == .control then .zoom (a - 0x18000000) else .none
  else if 0x18200000 ≤ a && a < 0x18208000 then if ini == .control then .zpos (a - 0x18200000) else .none
  else if 0x20000000 ≤ a && a < 0x20800000 then
    if fabric then .data ((a - 0x20000000) / 0x40000) (a % 0x40000 / 4) else .none
  else if 0x20800000 ≤ a && a < 0x20A00000 then
    if fabric then .code ((a - 0x20800000) / 0x80000) (a % 0x80000) else .none
  else if 0x40000000 ≤ a && a < 0x400B5000 then .reg ((a - 0x40000000) / 0x1000) (a % 0x1000)
  else if 0x60000000 ≤ a && a < 0x616A0000 then
    if ini == .jtag then .none
    else
      let r := (a - 0x60000000) / 128 * 4
      .bit (r / 0x1000) (r % 0x1000) ((a - 0x60000000) / 4 % 32)
  else .none

/-- Whether the place lies in a domain that is gated. -/
def Dev.placeDead (d : Dev) : Place → Bool
  | .bins ch _ => d.down (ch / 512)
  | .zoom off => d.down (off / 512 / 512)
  | .zpos off => d.down (off / 16 / 512)
  | .data k _ => d.down (4 + k / 8)
  | .code t _ => d.down (4 + t)
  | .reg p off => !d.powered p && !isUngatedOffset p off
  | .bit p off _ => !d.powered p && !isUngatedOffset p off
  | _ => false

/-- An access that DMA sees answered by an error (R335, R437, R443). -/
def Dev.placeError (ini : Initiator) (x : Place) (d : Dev) : Bool :=
  ini == .dma && (x == .none || d.placeDead x)

/-- The two halves of code word i at byte 8i and 8i + 4 of a terrace's code memory (R302). -/
def Dev.codeRead (d : Dev) (t off : Nat) : Word :=
  let c := d.codeWord (8 * t) (off / 8)
  if off % 8 == 0 then c.extractLsb' 0 32 else (c.extractLsb' 32 16).zeroExtend 32

/-- A 32-bit read at a place (R92, R93, R95, R302, R437). A data word of a core is read at once, after the accesses that wait for it;
`State.portRead` makes a port's read of a running core wait (log entry 54). -/
def State.placeRead (ini : Initiator) (x : Place) (s : State) : Word × State :=
  let d := s.dev
  let dev (r : Word × Dev) : Word × State := (r.1, { s with dev := r.2 })
  match x with
  | .sram a => (memWord s.mem a, s)
  | .bins ch off =>
    if d.placeDead x then (0, s)
    else if (d.windowBin ch off).isNone then (0, { s with dev := d.windowBusy (ch / 512) })
    else
      let (lo, d) := d.windowRead16 ch off
      let (hi, d) := d.windowRead16 ch (off + 2)
      dev (BitVec.ofNat 32 (hi * 65536 + lo), d)
  | .zoom off =>
    if d.placeDead x then (0, s)
    else if (d.zoomHalf (off / 512 / 512)).isNone then (0, { s with dev := d.windowBusy (off / 512 / 512) })
    else
      let (lo, d) := d.zoomRead16 off
      let (hi, d) := d.zoomRead16 (off + 2)
      dev (BitVec.ofNat 32 (hi * 65536 + lo), d)
  | .zpos off => dev (if d.placeDead x then (0, d) else d.zoomPosition off)
  | .data k w =>
    if d.placeDead x || pglDataWords ≤ w then (0, s)
    else
      let (v, d) := (d.accessNow k).readCoreWord k w
      dev (v.zeroExtend 32, d)
  | .code t off => (if d.placeDead x then 0 else d.codeRead t off, s)
  | .reg p off => dev (d.pageRead ini p off)
  | .bit p off b => dev (d.aliasRead ini p off b)
  | .none => (0, if ini == .dma then s else { s with dev := d.badAddr })

/-- A 32-bit write at a place. -/
def State.placeWrite (ini : Initiator) (x : Place) (w : Word) (s : State) : State :=
  let d := s.dev
  match x with
  | .sram a => { s with mem := memPutWord s.mem a w }
  | .bins ch off =>
    if d.placeDead x then s
    else if (d.windowBin ch off).isNone then { s with dev := d.windowBusy (ch / 512) }
    else { s with dev := (d.windowWrite16 ch off (bitsOf w 15 0)).windowWrite16 ch (off + 2) (bitsOf w 31 16) }
  | .zoom off =>
    if d.placeDead x then s
    else if (d.zoomHalf (off / 512 / 512)).isNone then { s with dev := d.windowBusy (off / 512 / 512) }
    else { s with dev := (d.zoomWrite16 off (bitsOf w 15 0)).zoomWrite16 (off + 2) (bitsOf w 31 16) }
  | .zpos _ => s
  | .data k i => if d.placeDead x then s else { s with dev := d.pglAccess ini k i (some (w.extractLsb' 0 24)) }
  | .code t _ => if d.placeDead x then s else { s with dev := Dev.bumpFirst (pglTerrace (8 * t)) PGL_CODE_WR_IGN 11 d }
  | .reg p off => { s with dev := d.pageWrite s.mem ini p off w }
  | .bit p off b => { s with dev := d.aliasWrite s.mem ini p off b (bitAt w.toNat 0) }
  | .none => if ini == .dma then s else { s with dev := d.badAddr }

/-- A 16-bit read of the control port at an aligned address of the read window or the zoom store (R92, R93, R95); any other address
is as a bad one. -/
def State.halfRead (a : Nat) (s : State) : Word × State :=
  let d := s.dev
  let x := if a % 2 == 0 then placeOf .control (a - a % 4) else .none
  let half (r : Nat × Dev) : Word × State := (BitVec.ofNat 32 r.1, { s with dev := r.2 })
  if d.placeDead x then (0, s)
  else match x with
    | .bins ch off => half (d.windowRead16 ch (off + a % 4))
    | .zoom off => half (d.zoomRead16 (off + a % 4))
    | .zpos off =>
      let (w, d) := d.zoomPosition off
      half (w.toNat / 2 ^ (8 * (a % 4)) % 65536, d)
    | _ => (0, { s with dev := d.badAddr })

/-- A 16-bit write of the control port there. -/
def State.halfWrite (a v : Nat) (s : State) : State :=
  let d := s.dev
  let x := if a % 2 == 0 then placeOf .control (a - a % 4) else .none
  if d.placeDead x then s
  else match x with
    | .bins ch off => { s with dev := d.windowWrite16 ch (off + a % 4) v }
    | .zoom off => { s with dev := d.zoomWrite16 (off + a % 4) v }
    | .zpos _ => s
    | _ => { s with dev := d.badAddr }

/-- A 32-bit read and write of an initiator at a byte address. -/
def State.busRead (ini : Initiator) (a : Nat) (s : State) : Word × State := s.placeRead ini (placeOf ini a)
def State.busWrite (ini : Initiator) (a : Nat) (w : Word) (s : State) : State := s.placeWrite ini (placeOf ini a) w

/-- Byte address of a register. -/
def regAddr (p off : Nat) : Nat := 0x40000000 + 0x1000 * p + off

/-- A write of the register at `off` of page `p`. -/
def State.regWrite (ini : Initiator) (p off : Nat) (w : Word) (s : State) : State := s.placeWrite ini (.reg p off) w

/-- The ports serve: in every state but RESET (R436, Table 21-3). -/
def Dev.served (d : Dev) : Bool := d.devState != stReset

/-- Whole words read from rising addresses. -/
def State.readWords (ini : Initiator) : Nat → Nat → State → List Word × State
  | 0, _, s => ([], s)
  | n + 1, a, s =>
    let (w, s) := s.busRead ini (a % 2 ^ 32)
    let (ws, s) := State.readWords ini n (a + 4) s
    (w :: ws, s)

/-- Whole words written to rising addresses. -/
def State.writeWords (ini : Initiator) : List Word → Nat → State → State
  | [], _, s => s
  | w :: ws, a, s =>
    let s := s.busWrite ini (a % 2 ^ 32) w
    if s.dev.served then State.writeWords ini ws (a + 4) s else s

end Sys2Proof.Machine
end

