-- ==== Sys2Proof/Machine/DmaBeats.lean ====
section
/-! DEFINITION. DMA descriptors and beats: the checks of a fetched descriptor, the reshuffle modes, beats through the register
fabric, error responses (DMA engine and circular buffers, R325 to R335). -/
namespace Sys2Proof.Machine

/-! ### Descriptors (R325 to R327) -/

/-- The region of Table 15-2 an address lies in: first address, last address + 1, writable. Addresses from 0x0080_0000 upward are
4-byte regions. -/
def dmaRegions : List (Nat × Nat × Bool) :=
  [(0, 0x800000, true), (0x40000000, 0x400B5000, true), (0x60000000, 0x616A0000, true),
   (0x20000000, 0x20800000, true), (0x20800000, 0x20A00000, false)]

/-- An address in a region whose beats are 4 bytes. -/
def fourByte (a : Nat) : Bool := 0x800000 ≤ a

/-- A range of n bytes lies wholly within one region that permits the access. -/
def dmaRange (write : Bool) (a n : Nat) : Bool :=
  dmaRegions.any (fun r => r.1 ≤ a && a + n ≤ r.2.1 && (!write || r.2.2))

/-- Element size in bytes. -/
def DmaDesc.esBytes (x : DmaDesc) : Nat := 2 ^ x.es

/-- Bytes from DST to the end of what a reshuffle writes. -/
def DmaDesc.extent (x : DmaDesc) : Nat :=
  if x.shuf == 1 then (x.nl - 1) * x.stride + x.count / x.nl else 31 * x.stride + x.count / 32

/-- The descriptor in eight words that was fetched from `addr`. -/
def parseDesc (addr : Nat) (w : Nat → Word) : DmaDesc where
  addr := addr
  src := (w 0).toNat
  dst := (w 1).toNat
  count := bitsOf (w 2) 23 0
  fin := bitAt (w 3).toNat 0
  next := (w 3).toNat
  barrier := bitAt (w 4).toNat 0
  doneEv := bitAt (w 4).toNat 1
  waitTrig := bitAt (w 4).toNat 2
  srcMode := bitsOf (w 4) 5 4
  dstMode := bitsOf (w 4) 7 6
  shuf := bitsOf (w 4) 9 8
  retry := bitsOf (w 4) 12 10
  es := bitsOf (w 5) 1 0
  nl := bitsOf (w 5) 14 8
  stride := bitsOf (w 6) 22 0

/-- A reserved bit of the descriptor is 1 (Table 15-1). -/
def descReserved (w : Nat → Word) : Bool :=
  bitsOf (w 2) 31 24 != 0 || bitsOf (w 4) 3 3 != 0 || bitsOf (w 4) 31 13 != 0 || bitsOf (w 5) 7 2 != 0
    || bitsOf (w 5) 31 15 != 0 || bitsOf (w 6) 31 23 != 0 || w 7 != 0

/-- A source or destination address is permitted and aligned (R326): mode 0 for the whole count, mode 1 for one beat. -/
def DmaDesc.sideOk (x : DmaDesc) (write : Bool) (mode a : Nat) : Bool :=
  mode == 2 || (dmaRange write a (if mode == 1 then (if fourByte a then 4 else 1) else x.count)
    && (!fourByte a || (a % 4 == 0 && x.count % 4 == 0)))

/-- The reshuffle's conditions (R326). -/
def DmaDesc.shufOk (x : DmaDesc) : Bool :=
  x.shuf == 0 || (x.srcMode == 0 && x.dstMode == 0
    && (if x.shuf == 1 then x.nl != 0 && x.count % (x.nl * x.esBytes) == 0 else x.count % 128 == 0 && x.stride % 4 == 0)
    && x.dst + x.extent ≤ 0x800000)

/-- A descriptor that keeps every rule of R326. -/
def DmaDesc.ok (x : DmaDesc) : Bool :=
  x.srcMode != 3 && x.dstMode != 3 && x.shuf != 3
    && (x.count != 0 || (x.srcMode == 2 && x.dstMode == 2))
    && x.sideOk false x.srcMode x.src && (x.shuf != 0 || x.sideOk true x.dstMode x.dst)
    && ((x.srcMode != 2 && x.dstMode != 2) || x.count % 16 == 0)
    && x.shufOk
    && (x.fin || (x.next < 0x800000 && x.next % 32 == 0))

/-- DMA_DESCRIPTOR_FETCH (R325, R326, R328, R330): under a barrier not before every response has returned. A bad descriptor halts the
channel; a good one runs, or waits for its trigger. -/
def Dev.dmaFetchDesc (m : Mem) (c : Nat) (d : Dev) : Dev :=
  let x := d.getDma c
  let held := (match x.desc with | some o => o.barrier | none => false) && !x.beats.isEmpty
  if 24 ≤ c || d.dmaState c != dmaFetch || x.resetDue || x.pwr || held then d
  else
    let p := dmaPage c
    let w (i : Nat) : Word := memWord m (x.fetchAt + 4 * i)
    let ds := parseDesc x.fetchAt w
    if descReserved w || !ds.ok then
      (d.setDma c { x with desc := none, fetchTries := 0 }).dmaHaltKeep c 4 ds.addr ds.addr ds.count
    else
      let o : DmaOpen := ⟨x.ord + 1, ds.addr, ds.doneEv, ds.retry, false, ds.count⟩
      let d := d.setDma c { x with desc := some ds, moved := 0, ord := x.ord + 1, opens := x.opens ++ [o], fetchTries := 0, last := false }
      let d := (d.setRegN p DMA_CUR_DESC ds.addr).setFld p DMA_COUNT_REM_COUNT ds.count
      if !ds.waitTrig then d.setDmaState c dmaRun
      else if d.on p DMA_STATUS_TRIG_PENDING then (d.setFld p DMA_STATUS_TRIG_PENDING 0).setDmaState c dmaRun
      else d.setDmaState c dmaWait

/-! ### Beats (R326 to R329) -/

/-- Bytes left in the aligned 32-byte block. -/
def blockLeft (a : Nat) : Nat := 32 - a % 32

/-- Bytes that one beat moves at most on a side of the descriptor (Table 15-2): a stream record or ring entry, a 4-byte access, what is
left of the aligned block. -/
def beatLimit (mode a : Nat) : Nat := if mode == 2 then 16 else if fourByte a then 4 else blockLeft a

/-- Bytes of the next beat of a descriptor of which `moved` bytes have left, from source a to destination b: within the 16 bytes of a
record or ring entry, within what both sides take in one beat (R326, R331, R332). -/
def DmaDesc.beatSize (x : DmaDesc) (moved a b : Nat) : Nat :=
  if x.shuf == 2 then 128
  else if x.shuf == 1 then if fourByte a then 4 else x.esBytes
  else min (if x.srcMode == 2 || x.dstMode == 2 then 16 - moved % 16 else x.count - moved)
    (min (beatLimit x.srcMode a) (beatLimit x.dstMode b))

/-- Where byte i of the source goes under interleave (R327). -/
def DmaDesc.laneAddr (x : DmaDesc) (i : Nat) : Nat :=
  let e := i / x.esBytes
  x.dst + e % x.nl * x.stride + e / x.nl * x.esBytes + i % x.esBytes

/-- Output word b of a bit-plane block of 32 words (R327). -/
def planeWord (bytes : List Nat) (b : Nat) : Word :=
  BitVec.ofNat 32 ((List.range 32).foldl (fun n w => if bitAt (ofLe ((bytes.drop (4 * w)).take 4)) b then n + 2 ^ w else n) 0)

/-- The words of n bytes from a that lead to an error for the DMA engine. -/
def Dev.dmaFails (d : Dev) (a n : Nat) : Bool :=
  fourByte a && (List.range ((n + 3) / 4)).any (fun i => d.placeError .dma (placeOf .dma (a + 4 * i)))

/-- Bytes that the engine reads; none where the read fails, before any effect. -/
def State.dmaRead (a n : Nat) (s : State) : Option (List Nat) × State :=
  if s.dev.dmaFails a n then (none, s)
  else if !fourByte a then (some (memBytes s.mem a n), s)
  else
    let (ws, s) := s.readWords .dma (n / 4) a
    (some (ws.flatMap (fun w => leBytes 4 w.toNat)), s)

/-- The words that bytes spell. -/
def wordsOf (bytes : List Nat) : List Word :=
  (List.range (bytes.length / 4)).map (fun i => BitVec.ofNat 32 (ofLe ((bytes.drop (4 * i)).take 4)))

/-- A beat's write, with its reshuffle. Answers whether it failed, before any effect. -/
def State.dmaPut (b : DmaBeat) (bytes : List Nat) (s : State) : State × Bool :=
  if b.desc.shuf == 1 then
    ({ s with mem := (List.range bytes.length).foldl (fun m i =>
        memPutByte m (b.desc.laneAddr (b.pos + i)) (BitVec.ofNat 8 (bytes.getD i 0))) s.mem }, false)
  else if b.desc.shuf == 2 then
    ({ s with mem := (List.range 32).foldl (fun m k =>
        memPutWord m (b.desc.dst + k * b.desc.stride + b.pos / 32) (planeWord bytes k)) s.mem }, false)
  else if s.dev.dmaFails b.dst b.n then (s, true)
  else if !fourByte b.dst then ({ s with mem := memPutBytes s.mem b.dst bytes }, false)
  else (s.writeWords .dma (wordsOf bytes) b.dst, false)

/-- A beat meets the fabric: its data is read if it has none yet, then written. -/
def State.dmaTry (b : DmaBeat) (s : State) : DmaBeat × State :=
  match b.data with
  | some bytes =>
    let (s, e) := s.dmaPut b bytes
    ({ b with err := e }, s)
  | none =>
    match s.dmaRead b.src b.n with
    | (none, s) => ({ b with err := true }, s)
    | (some bytes, s) =>
      let (s, e) := s.dmaPut b bytes
      ({ b with data := some bytes, err := e }, s)

/-- The oldest record that waits for channel c in a stream queue (R331). -/
def Dev.nextRecord (d : Dev) (c : Nat) : Option StreamRec :=
  (d.pmp.streams.flatMap (fun q => q.2.filter (fun r => r.ch == c))).foldl (fun (o : Option StreamRec) r =>
    match o with
    | none => some r
    | some x => some (if r.seq < x.seq then r else x)) none

/-- Take a record out of its queue. -/
def Dev.takeRecord (seq : Nat) (d : Dev) : Dev :=
  let qs := d.pmp.streams.foldl (fun (m : SMap (List StreamRec)) q =>
    SMap.put [] m q.1 (q.2.filter (fun r => r.seq != seq))) d.pmp.streams
  { d with pmp := { d.pmp with streams := qs } }

/-- The next n bytes of the channel's streams: of the record in hand, or of the next one (R331). -/
def Dev.dmaRecord (c n : Nat) (d : Dev) : Option (List Nat) × Dev :=
  let x := d.getDma c
  let (bytes, d) := match x.part, d.nextRecord c with
    | [], some r => (r.bytes, d.takeRecord r.seq)
    | part, _ => (part, d)
  (some (bytes.take n), d.setDma c { x with part := bytes.drop n })

/-- Used bytes of the ring, the data in flight with them (R332). -/
def Dev.ringUsed (d : Dev) (c : Nat) : Nat :=
  let len := d.ringLen c
  ((d.getDma c).ringNext % len + len - d.fld (dmaPage c) DMA_RD_PTR_PTR % len) % len

/-- The ring admits 16 bytes now (R332). -/
def Dev.ringAdmits (d : Dev) (c : Nat) : Bool := d.ringUsed c + 16 < d.ringLen c

/-- The ring does not lie wholly in shared SRAM (R334). -/
def Dev.ringBad (d : Dev) (c : Nat) : Bool := 0x800000 < d.ringBase c + d.ringLen c

/-- Channel c can issue a beat: it runs, no retry is under way, fewer than 16 writes are outstanding, and its source and ring are
ready (R328, R331 to R333, R335). -/
def Dev.canIssue (d : Dev) (c : Nat) : Bool :=
  let x := d.getDma c
  match x.desc with
  | none => false
  | some ds =>
    d.dmaState c == dmaRun && !x.last && !x.resetDue && !x.pwr && x.beats.length < 16 && x.beats.all (fun b => b.tries == 0)
      && (ds.srcMode != 2 || !x.part.isEmpty || (d.nextRecord c).isSome)
      && (ds.dstMode != 2 || x.moved % 16 != 0 || d.ringBad c || d.ringAdmits c || d.on (dmaPage c) DMA_RING_CFG_OVW)

/-- Overwriting: RD_PTR moves by the smallest multiple of 16 that admits the write (R333). -/
def Dev.ringOverwrite (c : Nat) (d : Dev) : Dev :=
  if d.ringAdmits c then d
  else
    let p := dmaPage c
    let len := d.ringLen c
    let k := 16 * ((d.ringUsed c + 16 - len) / 16 + 1)
    let d := d.setRegN p DMA_RD_PTR ((d.fld p DMA_RD_PTR_PTR + k) % len)
    let d := d.bumpBy p DMA_RING_OVW k
    if d.wasSeen p DMA_RING_OVW then d else (d.markSeen p DMA_RING_OVW).raise p 2

/-- What follows the issue of n bytes of a descriptor: COUNT_REM, and after the last beat the next fetch or the end of the list
(R328). -/
def Dev.dmaIssued (c n : Nat) (ds : DmaDesc) (d : Dev) : Dev :=
  let x := d.getDma c
  let moved := x.moved + n
  let rem := ds.count - moved
  let wholly := ds.count != 0 && rem == 0
  let opens := x.opens.map (fun o => if o.ord == x.ord then { o with issued := wholly, rem := rem } else o)
  let d := d.setDma c { x with moved := moved, opens := opens, last := wholly && ds.fin,
                               fetchAt := if wholly && !ds.fin then ds.next else x.fetchAt }
  let d := d.setFld (dmaPage c) DMA_COUNT_REM_COUNT rem
  if wholly && !ds.fin then d.setDmaState c dmaFetch else d

/-- Channel c issues its next beat. -/
def State.dmaIssue (c : Nat) (ds : DmaDesc) (s : State) : State :=
  let d := s.dev
  let x := d.getDma c
  if ds.dstMode == 2 && d.ringBad c then
    { s with dev := (d.setDma c { x with desc := none }).dmaHaltKeep c 4 (d.ringBase c + x.ringNext) ds.addr ds.count }
  else
    let src := if ds.srcMode == 0 then ds.src + x.moved else ds.src
    let dst := if ds.dstMode == 0 then ds.dst + x.moved
      else if ds.dstMode == 1 then ds.dst else d.ringBase c + x.ringNext % d.ringLen c
    let n := ds.beatSize x.moved src dst
    let ring := if ds.dstMode == 2 && (x.moved + n) % 16 == 0 then 16 else 0
    let d := if ds.dstMode == 2 && x.moved % 16 == 0 then d.ringOverwrite c else d
    let (bytes, d) := if ds.srcMode == 2 then d.dmaRecord c n else (none, d)
    let b : DmaBeat := ⟨x.ord, ds, x.moved, src, dst, n, bytes, ring, 0, false⟩
    let (b, s) := State.dmaTry b { s with dev := d }
    let d := s.dev
    let x := d.getDma c
    if d.dmaState c != dmaRun then s
    else
    let d := d.setDma c { x with beats := x.beats ++ [b], ringNext := (x.ringNext + if ds.dstMode == 2 then n else 0) % d.ringLen c }
    { s with dev := d.dmaIssued c n ds }

/-- The next channel in round-robin order that can issue a beat (R328). -/
def Dev.dmaTurn (d : Dev) : Option Nat :=
  ((List.range 24).map (fun i => (d.dmaLast + 1 + i) % 24)).find? (fun c => d.canIssue c)

/-- DMA_BEAT_ISSUE (R328): the channel whose turn it is issues one beat. -/
def State.dmaBeat (s : State) : State :=
  match s.dev.dmaTurn with
  | none => s
  | some c =>
    match (s.dev.getDma c).desc with
    | none => s
    | some ds => State.dmaIssue c ds { s with dev := { s.dev with dmaLast := c } }

/-! ### Error responses (R335, R337, R338) -/

/-- The fetch of a descriptor fails: three retries, then HALT_FETCH. -/
def Dev.dmaFetchFails (c : Nat) (d : Dev) : Dev :=
  let x := d.getDma c
  if d.dmaState c != dmaFetch then d
  else if x.fetchTries < 3 then (d.setDma c { x with fetchTries := x.fetchTries + 1 }).bump (dmaPage c) DMA_RETRY_CNT
  else (d.setDma c { x with desc := none, fetchTries := 0 }).dmaHaltKeep c 3 x.fetchAt x.fetchAt (d.fld (dmaPage c) DMA_COUNT_REM_COUNT)

/-- Address at which a beat failed: its source when no data was read. -/
def DmaBeat.failAddr (b : DmaBeat) : Nat := if b.data.isNone then b.src else b.dst

/-- The oldest beat's response is an error. -/
def State.dmaBeatFails (c : Nat) (s : State) : State :=
  let d := s.dev
  let x := d.getDma c
  let p := dmaPage c
  match x.beats with
  | [] => s
  | b :: bs =>
    if d.dmaState c == dmaDrain then
      { s with dev := ((d.bump p DMA_RETRY_CNT).setDma c { x with beats := [], opens := [] }).dmaSettle c }
    else if x.pwr then
      { s with dev := ((d.setRegN p DMA_FAIL_ADDR b.failAddr).setDma c { x with beats := [], opens := [] }).dmaSettle c }
    else if b.tries < b.desc.retry then
      let (b, s) := State.dmaTry { b with tries := b.tries + 1 } { s with dev := d.bump p DMA_RETRY_CNT }
      { s with dev := s.dev.setDma c { s.dev.getDma c with beats := b :: bs } }
    else
      let o := x.opens.find? (fun o => o.ord == b.ord)
      let rem := match o with | some o => o.rem | none => 0
      let all := match o with | some o => o.issued | none => true
      { s with dev := d.dmaHalt c (if all then 2 else 1) b.failAddr b.desc.addr rem }

/-- DMA_ERROR_RESPONSE (R335): to a descriptor fetch or to the oldest outstanding beat of channel c. -/
def State.dmaError (c : Nat) (fetch : Bool) (s : State) : State :=
  if 24 ≤ c then s
  else if fetch then { s with dev := s.dev.dmaFetchFails c }
  else s.dmaBeatFails c

end Sys2Proof.Machine
end

