-- ==== Sys2Proof/Machine/Begin.lean ====
section
/-! DEFINITION. What every command does first, and the shapes of command: on the device, with shared SRAM, on the whole state, as a
register write or read of an initiator (R12, R33, R435 to R437, R461). -/
namespace Sys2Proof.Machine

/-- What falls due by itself before a command acts: the boot load within 2 ms of the last reset cause's end (Table 21-5), the pattern
fetch, the end of an acquisition and the release of the last slot, the end of a packet, EVENT frames that waited, the binding of a Cascade entry. -/
def Dev.dues (m : Mem) (d : Dev) : Dev :=
  if d.devState == stReset then d
  else
    let d := if !d.otp.loaded && d.devState == stBoot && d.otp.bootAt + 156000000 ≤ d.now then d.bootLoad else d
    ((d.fetch.slotOver).lastRelease m).sendSettle.eventsDue.sdBinds

/-- What every command does first: time moves on, through the swap and the releases after a trigger and the rise of the next bank select;
the sources that have pulsed in this step are none, no Belvedere trigger has been decided in it, and what is due happens (R444). -/
def Dev.begin (t : Nat) (m : Mem) (d : Dev) : Dev :=
  let d := (if d.devState == stReset then d else (d.slotDues t m).selDue t).advance t
  Dev.dues m { d with evm := { d.evm with pulsed := [] }, dtb := { d.dtb with sent := [] }, blv := { d.blv with stepRank := none } }

/-- The device is out of RESET. -/
def Dev.awake (d : Dev) : Bool := d.devState != stReset

/-- A command that acts in every device state. -/
def State.always (t : Nat) (f : Dev → Dev) (s : State) : Host.Outcome State Fault Refusal :=
  .next { s with dev := f (s.dev.begin t s.mem) }

/-- A command of operands that stand for something (`ok`), out of RESET. -/
def State.cmd (t : Nat) (ok : Bool) (f : Dev → Dev) (s : State) : Host.Outcome State Fault Refusal :=
  s.always t (fun d => if ok && d.awake then f d else d)

/-- A command that reads shared SRAM. -/
def State.cmdM (t : Nat) (ok : Bool) (f : Mem → Dev → Dev) (s : State) : Host.Outcome State Fault Refusal := s.cmd t ok (f s.mem)

/-- A command on the device and shared SRAM. -/
def State.cmdS (t : Nat) (ok : Bool) (f : State → State) (s : State) : Host.Outcome State Fault Refusal :=
  let s := { s with dev := s.dev.begin t s.mem }
  .next (if ok && s.dev.awake then f s else s)

/-- What happens in terrace t while it functions (R467, R468). -/
def Dev.inTerrace (t : Nat) (f : Dev → Dev) (d : Dev) : Dev := if d.down t then d else f d

/-- What happens on a lane while the lane cluster is powered (R469). -/
def Dev.onLanes (f : Dev → Dev) (d : Dev) : Dev := if d.lanesGated then d else f d

/-- The initiator is connected: JTAG while debug access is unlocked (R437, R495). -/
def Dev.reaches (ini : Initiator) (d : Dev) : Bool :=
  match ini with
  | .jtag => d.bit 0xB4 DBG_STATUS 0
  | _ => true

/-- A write of one register by an initiator. -/
def State.portWrite (ini : Initiator) (p off : Nat) (w : Word) (s : State) : State :=
  if s.dev.reaches ini then s.regWrite ini p off w else s

/-- A command that writes one register. -/
def State.rowWrite (t : Nat) (ok : Bool) (ini : Initiator) (p off : Nat) (w : Word) (s : State) : Host.Outcome State Fault Refusal :=
  s.cmdS t ok (State.portWrite ini p off w)

/-- A word with one field forced. -/
def forced (f : Fld) (v : Nat) (w : Word) : Word := setBits w f.hi f.lo v

/-- What an initiator receives: the words last read on its port. -/
def Dev.deliver2 (ini : Initiator) (ws : List Word) (d : Dev) : Dev :=
  match ini with
  | .control => { d with ports := { d.ports with ctrlOut := ws } }
  | .management => { d with ports := { d.ports with mgmtOut := ws } }
  | .jtag => { d with jtag := { d.jtag with access := ws.headD 0 } }
  | .dma => d

/-- The core and its first data word where n words from address a on lie in the data memory of one running core (R302). -/
def Dev.runningWords (ini : Initiator) (n a : Nat) (d : Dev) : Option (Nat × Nat) :=
  match placeOf ini a with
  | .data k w =>
    if 0 < n && w + n ≤ pglDataWords && !d.gated (4 + k / 8) && d.coreState k == pglRunning then some (k, w) else none
  | _ => none

/-- A read of n words from an address on: those of a running core come when it leaves accesses free (R302, log entry 54). -/
def State.portRead (ini : Initiator) (n a : Nat) (s : State) : State :=
  if s.dev.reaches ini then
    match s.dev.runningWords ini n a with
    | some (k, w) =>
      { s with dev := (List.range n).foldl (fun d i => d.pglAccess ini k (w + i) none) (s.dev.deliver2 ini []) }
    | none =>
      let (ws, s) := s.readWords ini n a
      { s with dev := s.dev.deliver2 ini ws }
  else s

/-- A write of words from an address on. -/
def State.portWrites (ini : Initiator) (ws : List Word) (a : Nat) (s : State) : State :=
  if s.dev.reaches ini then s.writeWords ini ws a else s

/-- A token row (R422, R423): SEC.TOKEN_CTRL.GO while the token in shared SRAM names one of the row's operations. -/
def State.tokenRow (ops : Nat → Bool) (ini : Initiator) (s : State) : State :=
  if ops (s.dev.tokenOp s.mem) then s.portWrite ini 0x04 SEC_TOKEN_CTRL 1 else s

/-- An access of the control port, 32 or 16 bits wide, to the Orangery read window or the zoom store (R92, R93, R95). -/
def State.windowAccess (a : Nat) (wide : Bool) (w : Option Word) (s : State) : State :=
  match w, wide with
  | some w, true => s.portWrites .control [w] a
  | none, true => s.portRead .control 1 a
  | some w, false => s.halfWrite a (w.toNat % 65536)
  | none, false =>
    let (v, s) := s.halfRead a
    { s with dev := s.dev.deliver2 .control [v] }

/-- The management port takes a dynamic address; one that it holds stays (R436). -/
def Dev.takeAddress (a : Nat) (d : Dev) : Dev :=
  if d.on 0x00 DEV_PORT_STATUS_I3C then d
  else (d.setFld 0x00 DEV_PORT_STATUS_I3C 1).setFld 0x00 DEV_PORT_STATUS_DYN_ADDR a

/-- The 48-bit provisional ID, out of the factory area: its upper 16 bits, then its lower 32 (R436; its words are DESIGN CHOICE, log entry 87). -/
def provisionalId : List Word := [BitVec.ofNat 32 (Config.factory 6145 % 65536), BitVec.ofNat 32 (Config.factory 6144)]

/-- ENTDAA: the provisional ID goes out on the bus, and the address comes; a port that holds an address takes no part (R436). -/
def Dev.enterAddress (a : Nat) (d : Dev) : Dev :=
  if d.on 0x00 DEV_PORT_STATUS_I3C then d else (d.deliver2 .management provisionalId).takeAddress a

/-- A change of Belvedere with the events it raises (R294). -/
def Dev.withBlv (f : Dev → Dev × List Nat) (d : Dev) : Dev :=
  let (d, bs) := f d
  d.raiseAll 0x93 bs

/-! ### The capture image leaves (R291) -/

/-- The copy of the image in shared SRAM, or the error that it would not lie there. -/
def State.blvCopy (im : List Nat) (s : State) : State :=
  let base := 4096 * s.dev.blv.base
  if base + im.length ≤ Config.sramBytes then
    { s with mem := memPutBytes s.mem base im, dev := s.dev.setFld 0x93 BLV_STATUS_DUMP_ERR 0 }
  else { s with dev := (s.dev.setFld 0x93 BLV_STATUS_DUMP_ERR 1).raise 0x93 4 }

/-- BLV_DUMP_DONE (R289, R291): to Promenade when there is space for it, to shared SRAM, and then DONE or STOPPED. -/
def State.blvDumpDone (s : State) : State :=
  let d := s.dev
  if d.blvState != blvDump then s
  else
    let im := d.blvImage
    let dest := d.blv.dest
    let (d, sent) := if bitAt dest 0 then d.offerPayload 4 im else (d, true)
    if !sent then { s with dev := d }
    else
      let s := { s with dev := d }
      let s := if bitAt dest 1 then s.blvCopy im else s
      let (d, bs) := s.dev.blvFinish
      { s with dev := d.raiseAll 0x93 bs }

end Sys2Proof.Machine
end

