-- ==== Sys2Proof/Machine/Debug.lean ====
section
/-! DEFINITION. The test access port and its instructions (Debug and test access, R490 to R495). -/
namespace Sys2Proof.Machine

/-- Instruction codes (Table 23-1). -/
abbrev tapIdcode : Nat := 0x01
abbrev tapSample : Nat := 0x02
abbrev tapExtest : Nat := 0x03
abbrev tapPulse : Nat := 0x04
abbrev tapTrain : Nat := 0x05
abbrev tapClamp : Nat := 0x06
abbrev tapHighz : Nat := 0x07
abbrev tapAccess : Nat := 0x10
abbrev tapBypass : Nat := 0xFF

/-- IDCODE (R491). -/
abbrev idcode : Nat := 0x120489CB

/-- Contents of the boundary register: 896 cells (R493). -/
def boundaryBits (n : Nat) : Nat := n % 2 ^ 896

/-- TAP_RESET (R490): Test-Logic-Reset with IDCODE selected. -/
def Dev.tapReset (d : Dev) : Dev := Dev.setFld { d with jtag := { d.jtag with ir := tapIdcode } } 0xB4 DBG_STATUS_TAP_RESET 1

/-- An instruction becomes current. A boundary instruction takes an ARMED or SCANNING device to SAFE_HOLD (R494). -/
def Dev.tapLoad (code : Nat) (d : Dev) : Dev :=
  let d := Dev.setFld { d with jtag := { d.jtag with ir := code } } 0xB4 DBG_STATUS_TAP_RESET 0
  if d.boundary && (d.devState == stArmed || d.devState == stScanning) then d.enterState stSafeHold else d

/-- What a data register captures. -/
def Dev.tapCapture (v : Nat) (d : Dev) : Dev := { d with jtag := { d.jtag with capture := v } }

/-- BYPASS (R492): the code itself, an undefined one, or DBG_ACCESS while it is locked, which is counted; the one-bit register captures
0. -/
def Dev.tapBypassed (code : Nat) (d : Dev) : Dev :=
  let d := (d.tapLoad tapBypass).tapCapture 0
  if code == tapAccess then d.bump 0xB4 DBG_LOCKED_CNT else d

/-- Whether a code acts as BYPASS now. -/
def Dev.actsBypass (code : Nat) (d : Dev) : Bool :=
  code < 256 && !(1 ≤ code && code ≤ 7) && (code != tapAccess || !d.bit 0xB4 DBG_STATUS 0)

/-- The boundary register with the pins sampled and new update latches (R493). -/
def Dev.tapBoundary (sampled latches : Nat) (d : Dev) : Dev :=
  { d with jtag := { d.jtag with capture := boundaryBits sampled, latches := boundaryBits latches } }

/-- JTAG_DBG_ACCESS (R492, R495): while it is unlocked one access of the fourth initiator, at Update-DR; locked it acts as BYPASS. -/
def State.dbgAccess (a : Nat) (w : Option Word) (s : State) : State :=
  if !s.dev.bit 0xB4 DBG_STATUS 0 then { s with dev := s.dev.tapBypassed tapAccess }
  else
    let s := { s with dev := s.dev.tapLoad tapAccess }
    if !s.dev.awake then s
    else match w with
      | some w => s.busWrite .jtag (a % 2 ^ 32) w
      | none =>
        let (r, s) := s.busRead .jtag (a % 2 ^ 32)
        { s with dev := (s.dev.deliver2 .jtag [r]).tapCapture (r.toNat * 2 ^ 32) }

end Sys2Proof.Machine
end

