-- ==== Sys2Proof/WellFormed.lean ====
section
/-! DEFINITION. Which commands stand for something: the ranges of their operands. A command outside them changes nothing but the time
(log entry 4). -/
namespace Sys2Proof

/-- Terraces, beds, banks, channels and cells of the line (R7, Table 00-3). -/
def okTerrace (n : Nat) : Bool := n < 4
def okBed (n : Nat) : Bool := n < 64
def okBank (n : Nat) : Bool := n < 8
def okChannel (n : Nat) : Bool := n < 2048
def okCell (n : Nat) : Bool := n < 131072

/-- TRL.ROUTE registers of a terrace (R47). -/
def okRoute (n : Nat) : Bool := n < 64

/-- Segments (R176), loops (R222), SAR channels (R255), modulators (R251), Cascade channels (R270), inputs (R244), bridges (R248), trigger
units (R286). -/
def okSegment (n : Nat) : Bool := n < 64
def okLoop (n : Nat) : Bool := n < 8
def okSar (n : Nat) : Bool := n < 4
def okModulator (n : Nat) : Bool := n < 2
def okCascade (n : Nat) : Bool := n < 16
def okInput (n : Nat) : Bool := n < 28
def okBridge (n : Nat) : Bool := n < 4
def okUnit (n : Nat) : Bool := n < 4

/-- Lanes, and the pages of the lanes with the link's (R174). -/
def okLane (n : Nat) : Bool := n < 10
def okLanePage (n : Nat) : Bool := n ≤ 10

/-- DMA channels (R325), Pergola cores (R297). -/
def okDma (n : Nat) : Bool := n < 24
def okCore (n : Nat) : Bool := n < 32

/-- OSSD and test pulse outputs, safety inputs and their pairs, cells of a field set (R343, R354, R358, R359). -/
def okOutput (n : Nat) : Bool := n < 4
def okSin (n : Nat) : Bool := n < 16
def okSinPair (n : Nat) : Bool := n < 8
def okFieldCell (n : Nat) : Bool := n < 32768

/-- Temperature sensors and what is measured of each kind (R394), supply rails (Table 21-1), event counters (R447), pages (R438), 7-bit addresses (R436). -/
def okSensor (n : Nat) : Bool := n < 14
def okMeasured (n : Nat) : Measured → Bool
  | .die _ => 8 ≤ n && n < 14
  | _ => n < 8
def okRail (n : Nat) : Bool := n < 8
def okCounter (n : Nat) : Bool := n < 16
def okPage (n : Nat) : Bool := n < 0xB5
def okDynAddr (n : Nat) : Bool := n < 128

/-- Codes of PWR.STATE_REQ that name no request of their own (R463). -/
def okOtherRequest (n : Nat) : Bool := n < 8 && !(3 ≤ n && n ≤ 6)

/-- Offsets of Gatehouse's one-way fields: the ten budgets, OMEGA_MIN and VLIM (R211). -/
def okOneWay (off : Nat) : Bool := (0x040 ≤ off && off < 0x07C + 20 && off % 4 == 0) || off == 0x028 || off == 0x030

/-- Addresses of the bit-alias window, the read window, the zoom store and the code memories (Table 20-1). -/
def okAlias (a : Nat) : Bool := 0x60000000 ≤ a && a < 0x616A0000
def okReadWindow (a : Nat) : Bool := 0x10000000 ≤ a && a < 0x14000000
def okZoomWindow (a : Nat) : Bool := 0x18000000 ≤ a && a < 0x18208000
def okCodeWindow (a : Nat) : Bool := 0x20800000 ≤ a && a < 0x20A00000

/-- Initiators of accesses to Pergola's memories (Table 20-1): the control port and DMA. -/
def okFabric (i : Initiator) : Bool := i == .control || i == .dma

/-- A command's operands are in range. -/
def Instr.wf : Instr → Bool
  | .xspiRead _ _ _ => true
  | .xspiPageProgram _ _ _ => true
  | .xspiReadStatus _ => true
  | .xspiWriteEnable _ => true
  | .xspiSoftwareReset _ => true
  | .xspiBadCommand _ => true
  | .mgmtWrite _ _ _ => true
  | .mgmtRead _ _ _ => true
  | .setdasa _ a7 => okDynAddr a7
  | .entdaa _ a7 => okDynAddr a7
  | .rstdaa _ => true
  | .registerWrite _ _ _ _ => true
  | .rcRegisterRead _ _ _ => true
  | .eventPendingClear _ _ p _ => okPage p
  | .pageLockSet _ _ p => okPage p
  | .mbxSelectWrite _ _ p _ => okPage p
  | .mbxSnapshot _ _ p => okPage p
  | .bitAliasWrite _ _ addr _ => okAlias addr
  | .powerOn _ _ _ => true
  | .resetLAssert _ => true
  | .resetLRelease _ => true
  | .pwrgoodFall _ => true
  | .pwrgoodRise _ => true
  | .brownout _ r => okRail r
  | .supplyOutOfWindow _ r => okRail r
  | .supplyRestored _ => true
  | .softReset _ _ => true
  | .bootEntry _ => true
  | .requestStandby _ _ => true
  | .requestArmed _ _ => true
  | .requestScanning _ _ => true
  | .requestSafeHold _ _ => true
  | .stateRequestOther _ _ req => okOtherRequest req
  | .timingPllLock _ => true
  | .timingPllUnlock _ => true
  | .lanePllLock _ => true
  | .auxPllLock _ => true
  | .gateCtrlWrite _ _ _ => true
  | .domainGated _ => true
  | .domainRestored _ => true
  | .domainSwitchTimeout _ => true
  | .syncTimeFrameSend _ => true
  | .syncInEdge _ => true
  | .syncTimeFrameReceive _ _ _ => true
  | .syncEventFrameReceive _ _ _ => true
  | .syncFrameMissed _ => true
  | .dtbLoad _ _ _ => true
  | .dtbResync _ _ _ => true
  | .deviceTimeSaturate _ => true
  | .cellArm _ bank => okBank bank
  | .cellAvalanche _ cell _ _ => okCell cell
  | .timestampRelease _ ch => okChannel ch
  | .histogramIncrement _ ch => okChannel ch
  | .blankLFall _ => true
  | .blankLong _ tr => okTerrace tr
  | .latchClr _ _ tr => okTerrace tr
  | .routeWrite _ _ tr n _ => okTerrace tr && okRoute n
  | .hopExecute _ ch => okChannel ch
  | .startPulse _ tr _ => okTerrace tr
  | .startWindowClose _ bank => okBank bank
  | .scaleLoopReference _ tr _ => okTerrace tr
  | .calTableCommit _ _ bed _ => okBed bed
  | .refCalCommit _ _ tr _ => okTerrace tr
  | .slotTrigger _ _ _ => true
  | .timedTriggerExpiry _ _ _ => true
  | .ditherSequenceDone _ => true
  | .ztabFetchDone _ tr => okTerrace tr
  | .longBufferRelease _ tr => okTerrace tr
  | .shotStart _ => true
  | .bankFire _ _ _ => true
  | .rangeGateOpen _ bank => okBank bank
  | .rangeGateClose _ bank => okBank bank
  | .gthVerdictPass _ => true
  | .gthStale _ => true
  | .gthScanReturn _ => true
  | .gthChargeCheck _ => true
  | .emitEnFall _ _ => true
  | .emitEnStable _ => true
  | .gthBudgetWrite _ _ off _ => okOneWay off
  | .patternLoad _ _ _ => true
  | .patternLoadDone _ => true
  | .patternReadyWrite _ _ _ => true
  | .syncSwap _ => true
  | .bndDisable _ _ _ => true
  | .bndTriggerSourceWrite _ _ _ => true
  | .probeFire _ _ _ => true
  | .probeLate _ seg => okSegment seg
  | .segFaultClear _ _ _ _ => true
  | .loopSampleTime _ l => okLoop l
  | .loopUpdate _ => true
  | .pwmPeriodStart _ l => okLoop l
  | .ftnEnableWrite _ _ l _ => okLoop l
  | .ftnCloseWrite _ _ l _ => okLoop l
  | .ftnSpWrite _ _ l _ => okLoop l
  | .sarConversionDone _ sar _ => okSar sar
  | .sarRoutineDue _ sar => okSar sar
  | .sincOutput _ m _ => okModulator m
  | .notchWindowEnd _ m => okModulator m
  | .clampConduction _ inp _ => okInput inp
  | .wireCheckStart _ inp => okInput inp
  | .wireCheckDone _ _ => true
  | .excWrite _ _ n _ => okBridge n
  | .pmpDisable _ _ _ => true
  | .sdEnableWrite _ _ m _ => okModulator m
  | .cscServicePoint _ c => okCascade c
  | .cscOutputRelease _ c => okCascade c
  | .cscEnableWrite _ _ _ => true
  | .cscChannelConfigWrite _ _ c _ => okCascade c
  | .timeoutTrigger _ x => okUnit x
  | .blvArm _ _ _ => true
  | .blvAbort _ _ _ => true
  | .blvForce _ _ _ => true
  | .blvTimeoutEnd _ => true
  | .blvMaskTestDone _ => true
  | .blvDumpDone _ => true
  | .blvReadData _ _ => true
  | .scanWord _ ch => okChannel ch
  | .channelExtraction _ ch => okChannel ch
  | .slotMarkerDelivery _ tr => okTerrace tr
  | .echoRecordDelivery _ ch => okChannel ch
  | .gzbDisable _ _ tr _ => okTerrace tr
  | .gzbListenWrite _ _ _ => true
  | .ditherWrite _ _ _ _ => true
  | .orgClear _ _ tr => okTerrace tr
  | .orgDisable _ _ tr _ => okTerrace tr
  | .orgModeWrite _ _ tr _ => okTerrace tr
  | .orgWindowAccess _ addr _ => okReadWindow addr
  | .zoomWindowAccess _ addr _ => okZoomWindow addr
  | .slotHeaderCommit _ => true
  | .packetSend _ => true
  | .markerSend _ => true
  | .amColumnSend _ => true
  | .cdrLock _ lane => okLane lane
  | .blockLockAcquire _ lane => okLane lane
  | .invalidHeaderReceive _ lane => okLane lane
  | .amBlockReceive _ lane _ _ => okLane lane
  | .amLockLoss _ lane => okLane lane
  | .losAssert _ lane => okLane lane
  | .losClear _ lane => okLane lane
  | .lossOfLock _ lane => okLane lane
  | .xoffReceive _ => true
  | .xonReceive _ _ => true
  | .xoffLong _ => true
  | .pstateWrite _ _ n _ => okLanePage n
  | .loopbackWrite _ _ _ => true
  | .prbsWrite _ _ lane _ => okLane lane
  | .prbsBitError _ lane => okLane lane
  | .sgmiiControlWord _ lane _ _ _ => okLane lane
  | .dmaEnable _ _ n _ => okDma n
  | .dmaDisable _ _ n _ => okDma n
  | .dmaCommonDisable _ _ => true
  | .dmaDescriptorFetch _ n => okDma n
  | .dmaBeatIssue _ => true
  | .dmaWriteResponse _ n => okDma n
  | .dmaErrorResponse _ n _ => okDma n
  | .dmaRingReset _ _ n _ _ => okDma n
  | .dmaRdPtrWrite _ _ n _ => okDma n
  | .channelAVerdict _ => true
  | .verdictLatencyExpiry _ => true
  | .channelBTimeout _ => true
  | .outputMessageTimeout _ => true
  | .fsCrcRecheck _ => true
  | .coverageExpiry _ fcell => okFieldCell fcell
  | .ossdTestWindowStart _ o => okOutput o
  | .ossdTestWindowEnd _ o => okOutput o
  | .ossdReadbackChange _ o _ => okOutput o
  | .tpoPulseStart _ o => okOutput o
  | .tpoPulseEnd _ o _ _ _ => okOutput o
  | .sinFilterChange _ n _ => okSin n
  | .lodgeMsTick _ => true
  | .sinDiscFault _ n => okSinPair n
  | .lodgeKind3Entry _ => true
  | .restartDelayExpiry _ => true
  | .fsPrepDone _ => true
  | .fsOverlapEnd _ => true
  | .statusPduSend _ => true
  | .commandPduReceive _ _ _ => true
  | .commandPairTimeout _ => true
  | .netWatchdogExpiry _ => true
  | .ldgFaultClear _ _ _ => true
  | .calStart _ _ _ => true
  | .calAutoStart _ => true
  | .calRunEnd _ => true
  | .calAbort _ _ _ => true
  | .thermalConversionDone _ s_ x => okMeasured s_ x
  | .readingStale _ s_ => okSensor s_
  | .otpProgramGo _ _ _ => true
  | .otpProgramDone _ _ => true
  | .otpReadData _ _ => true
  | .secBootGo _ _ => true
  | .tokenDebugUnlock _ _ => true
  | .tokenInstallCustomer _ _ => true
  | .tokenRevoke _ _ => true
  | .tokenRaiseSvn _ _ => true
  | .tokenUnknownOp _ _ => true
  | .attestationGo _ _ => true
  | .reservationOpen _ => true
  | .attestationDone _ => true
  | .secReportRead _ _ => true
  | .logPopWrite _ _ _ => true
  | .logClear _ _ => true
  | .softEvent _ _ => true
  | .eventCounterLoad _ _ n _ => okCounter n
  | .pglRunStart _ _ k _ => okCore k
  | .pglRunStop _ _ k _ => okCore k
  | .pglModeWrite _ _ k _ => okCore k
  | .pglLoad _ _ tr => okTerrace tr
  | .pglLoadDone _ tr => okTerrace tr
  | .pglMemoryAccess _ ini k _ _ => okCore k && okFabric ini
  | .codeWindowWrite _ addr _ => okCodeWindow addr
  | .pglNop _ k => okCore k
  | .pglHalt _ k => okCore k
  | .pglTrap _ k => okCore k
  | .pglMov _ k => okCore k
  | .pglLdi _ k => okCore k
  | .pglLd _ k => okCore k
  | .pglSt _ k => okCore k
  | .pglLdst _ k => okCore k
  | .pglGett _ k => okCore k
  | .pglAdd _ k => okCore k
  | .pglSub _ k => okCore k
  | .pglAnd _ k => okCore k
  | .pglOr _ k => okCore k
  | .pglXor _ k => okCore k
  | .pglShl _ k => okCore k
  | .pglShr _ k => okCore k
  | .pglCmp _ k => okCore k
  | .pglMax _ k => okCore k
  | .pglMin _ k => okCore k
  | .pglAbs _ k => okCore k
  | .pglMpy _ k => okCore k
  | .pglMac _ k => okCore k
  | .pglMsu _ k => okCore k
  | .pglAadd _ k => okCore k
  | .pglLda _ k => okCore k
  | .pglSta _ k => okCore k
  | .pglDstep _ k => okCore k
  | .pglClrf _ k => okCore k
  | .pglBr _ k => okCore k
  | .pglCall _ k => okCore k
  | .pglRet _ k => okCore k
  | .pglLbr _ k => okCore k
  | .pglAdv _ k => okCore k
  | .pglPop _ k => okCore k
  | .pglPopResume _ k => okCore k
  | .pglPusho _ k => okCore k
  | .pglSend _ k => okCore k
  | .pglSendResume _ k => okCore k
  | .pglLsend _ k => okCore k
  | .pglZld _ k => okCore k
  | .pglZldWriteback _ k => okCore k
  | .pglBrpt _ k => okCore k
  | .pglIllegalOpcode _ k => okCore k
  | .tapReset _ => true
  | .jtagBypass _ _ => true
  | .jtagIdcode _ => true
  | .jtagSamplePreload _ _ _ => true
  | .jtagExtest _ _ _ => true
  | .jtagExtestPulse _ _ _ => true
  | .jtagExtestTrain _ _ _ => true
  | .jtagClamp _ => true
  | .jtagHighz _ => true
  | .jtagDbgAccess _ _ _ => true
  | .dbgMemRead _ _ => true
  | .blankLRise _ => true
  | .emitEnRise _ => true
  | .bndEnable _ _ _ => true
  | .brownoutEnd _ r => okRail r
  | .imagesVerified _ => true
  | .idReady _ => true
  | .bedTestStart _ => true
  | .unknownControlBlock _ lane => okLane lane

end Sys2Proof
end

