-- ==== Sys2Proof/Machine/AnalogCommands.lean ====
section
/-! DEFINITION. The meanings of the commands on conversions, filters and captures (Pumphouse, Cascade, Belvedere). -/
namespace Sys2Proof.Machine

/-- SAR_CONVERSION_DONE (R255). -/
def execSarConversionDone (t sar : Nat) (samples : List (Int × Nat)) (s : State) : Host.Outcome State Fault Refusal :=
  s.cmd t (okSar sar) (fun d => d.sarDone sar samples)

/-- SAR_ROUTINE_DUE (R256). -/
def execSarRoutineDue (t sar : Nat) (s : State) : Host.Outcome State Fault Refusal :=
  s.cmd t (okSar sar) (fun d => d.routineDue sar)

/-- SINC_OUTPUT (R251). -/
def execSincOutput (t m : Nat) (v : Int) (s : State) : Host.Outcome State Fault Refusal :=
  s.cmd t (okModulator m) (fun d => d.sincOutput m v)

/-- NOTCH_WINDOW_END (R253). -/
def execNotchWindowEnd (t m : Nat) (s : State) : Host.Outcome State Fault Refusal :=
  s.cmd t (okModulator m) (fun d => d.notchEnd m)

/-- CLAMP_CONDUCTION (R245). -/
def execClampConduction (t inp : Nat) (begins : Bool) (s : State) : Host.Outcome State Fault Refusal :=
  s.cmd t (okInput inp) (fun d => d.clampConduct inp begins)

/-- WIRE_CHECK_START (R249). -/
def execWireCheckStart (t inp : Nat) (s : State) : Host.Outcome State Fault Refusal :=
  s.cmd t (okInput inp) (fun d => d.wireStart inp)

/-- WIRE_CHECK_DONE (R249). -/
def execWireCheckDone (t z : Nat) (s : State) : Host.Outcome State Fault Refusal :=
  s.cmd t true (fun d => d.wireDone z)

/-- EXC_WRITE (R248). -/
def execExcWrite (t : Nat) (ini : Initiator) (n : Nat) (w : Word) (s : State) : Host.Outcome State Fault Refusal :=
  s.rowWrite t (okBridge n) ini 0x90 (PMP_EXC + 4 * n) w

/-- PMP_DISABLE (R261). -/
def execPmpDisable (t : Nat) (ini : Initiator) (w : Word) (s : State) : Host.Outcome State Fault Refusal :=
  s.rowWrite t true ini 0x8E PMP_CTRL (forced PMP_CTRL_EN 0 w)

/-- SD_ENABLE_WRITE (R261). -/
def execSdEnableWrite (t : Nat) (ini : Initiator) (m : Nat) (w : Word) (s : State) : Host.Outcome State Fault Refusal :=
  s.rowWrite t (okModulator m) ini 0x8F (PMP_SD_CTRL + 4 * m) w

/-- CSC_SERVICE_POINT (R270). -/
def execCscServicePoint (t c : Nat) (s : State) : Host.Outcome State Fault Refusal :=
  s.cmd t (okCascade c) (fun d => d.cscService c)

/-- CSC_OUTPUT_RELEASE (R270). -/
def execCscOutputRelease (t c : Nat) (s : State) : Host.Outcome State Fault Refusal :=
  s.cmd t (okCascade c) (fun d => d.cscOutput c)

/-- CSC_ENABLE_WRITE (R280). -/
def execCscEnableWrite (t : Nat) (ini : Initiator) (w : Word) (s : State) : Host.Outcome State Fault Refusal :=
  s.rowWrite t true ini 0x92 CSC_CTRL w

/-- CSC_CHANNEL_CONFIG_WRITE (R280). -/
def execCscChannelConfigWrite (t : Nat) (ini : Initiator) (c : Nat) (w : Word) (s : State) : Host.Outcome State Fault Refusal :=
  s.rowWrite t (okCascade c) ini 0x92 (CSC_CH_CFG + 32 * c) w

/-- TIMEOUT_TRIGGER (R286). -/
def execTimeoutTrigger (t x : Nat) (s : State) : Host.Outcome State Fault Refusal :=
  s.cmd t (okUnit x) (fun d => d.withBlv (Dev.blvTimeout x))

/-- BLV_ARM (R289). -/
def execBlvArm (t : Nat) (ini : Initiator) (w : Word) (s : State) : Host.Outcome State Fault Refusal :=
  s.rowWrite t true ini 0x93 BLV_CTRL (forced BLV_CTRL_ARM 1 w)

/-- BLV_ABORT (R289). -/
def execBlvAbort (t : Nat) (ini : Initiator) (w : Word) (s : State) : Host.Outcome State Fault Refusal :=
  s.rowWrite t true ini 0x93 BLV_CTRL (forced BLV_CTRL_ABORT 1 w)

/-- BLV_FORCE (R287). -/
def execBlvForce (t : Nat) (ini : Initiator) (w : Word) (s : State) : Host.Outcome State Fault Refusal :=
  s.rowWrite t true ini 0x93 BLV_CTRL (forced BLV_CTRL_FORCE 1 w)

/-- BLV_TIMEOUT_END (R289). -/
def execBlvTimeoutEnd (t : Nat) (s : State) : Host.Outcome State Fault Refusal :=
  s.cmd t true (fun d => d.withBlv Dev.blvTimeoutEnd)

/-- BLV_MASK_TEST_DONE (R292). -/
def execBlvMaskTestDone (t : Nat) (s : State) : Host.Outcome State Fault Refusal :=
  s.cmd t true (fun d => d.withBlv Dev.blvMaskDone)

/-- BLV_DUMP_DONE (R291). -/
def execBlvDumpDone (t : Nat) (s : State) : Host.Outcome State Fault Refusal :=
  s.cmdS t true (fun s => s.blvDumpDone)

/-- BLV_READ_DATA (R291). -/
def execBlvReadData (t : Nat) (ini : Initiator) (s : State) : Host.Outcome State Fault Refusal :=
  s.cmdS t true (fun s => s.portRead ini 1 (regAddr 0x93 BLV_RD_DATA))

end Sys2Proof.Machine
end

