-- ==== Sys2Proof/Machine/CoresCommands.lean ====
section
/-! DEFINITION. The meanings of the commands on the control of the Pergola cores, their loads and memories. -/
namespace Sys2Proof.Machine

/-- PGL_RUN_START (R318). -/
def execPglRunStart (t : Nat) (ini : Initiator) (k : Nat) (w : Word) (s : State) : Host.Outcome State Fault Refusal :=
  s.rowWrite t (okCore k) ini (pglPage k) PGL_CTRL (forced PGL_CTRL_RUN 1 w)

/-- PGL_RUN_STOP (R318). -/
def execPglRunStop (t : Nat) (ini : Initiator) (k : Nat) (w : Word) (s : State) : Host.Outcome State Fault Refusal :=
  s.rowWrite t (okCore k) ini (pglPage k) PGL_CTRL (forced PGL_CTRL_RUN 0 w)

/-- PGL_MODE_WRITE (R309). -/
def execPglModeWrite (t : Nat) (ini : Initiator) (k : Nat) (w : Word) (s : State) : Host.Outcome State Fault Refusal :=
  s.rowWrite t (okCore k) ini (pglPage k) PGL_CTRL w

/-- PGL_LOAD (R320). -/
def execPglLoad (t : Nat) (ini : Initiator) (tr : Nat) (s : State) : Host.Outcome State Fault Refusal :=
  s.rowWrite t (okTerrace tr) ini (pglTerrace (8 * tr)) PGL_LOAD_CTRL 1

/-- PGL_LOAD_DONE (R320). -/
def execPglLoadDone (t tr : Nat) (s : State) : Host.Outcome State Fault Refusal :=
  s.cmd t (okTerrace tr) (fun d => d.loadEnd tr)

/-- PGL_MEMORY_ACCESS (R302). -/
def execPglMemoryAccess (t : Nat) (ini : Initiator) (k word : Nat) (d24 : Option (BitVec 24)) (s : State) : Host.Outcome State Fault Refusal :=
  s.cmd t (okCore k && okFabric ini) (fun d => d.pglAccess ini k word d24)

/-- CODE_WINDOW_WRITE (R302). -/
def execCodeWindowWrite (t addr : Nat) (w : Word) (s : State) : Host.Outcome State Fault Refusal :=
  s.cmdS t (okCodeWindow addr) (fun s => s.portWrites .control [w] addr)

end Sys2Proof.Machine
end

