-- ==== Sys2Proof/Machine/DebugCommands.lean ====
section
/-! DEFINITION. The meanings of the commands on the test access port and the debug registers. -/
namespace Sys2Proof.Machine

/-- TAP_RESET (R490). -/
def execTapReset (t : Nat) (s : State) : Host.Outcome State Fault Refusal :=
  s.always t (fun d => d.tapReset)

/-- JTAG_BYPASS (R492). -/
def execJtagBypass (t code : Nat) (s : State) : Host.Outcome State Fault Refusal :=
  s.always t (fun d => if d.actsBypass code then d.tapBypassed code else d)

/-- JTAG_IDCODE (R491). -/
def execJtagIdcode (t : Nat) (s : State) : Host.Outcome State Fault Refusal :=
  s.always t (fun d => (d.tapLoad tapIdcode).tapCapture idcode)

/-- JTAG_SAMPLE_PRELOAD (R493). -/
def execJtagSamplePreload (t sampled latches : Nat) (s : State) : Host.Outcome State Fault Refusal :=
  s.always t (fun d => (d.tapLoad tapSample).tapBoundary sampled latches)

/-- JTAG_EXTEST (R494). -/
def execJtagExtest (t sampled latches : Nat) (s : State) : Host.Outcome State Fault Refusal :=
  s.always t (fun d => (d.tapLoad tapExtest).tapBoundary sampled latches)

/-- JTAG_EXTEST_PULSE (R494). -/
def execJtagExtestPulse (t sampled latches : Nat) (s : State) : Host.Outcome State Fault Refusal :=
  s.always t (fun d => (d.tapLoad tapPulse).tapBoundary sampled latches)

/-- JTAG_EXTEST_TRAIN (R494). -/
def execJtagExtestTrain (t sampled latches : Nat) (s : State) : Host.Outcome State Fault Refusal :=
  s.always t (fun d => (d.tapLoad tapTrain).tapBoundary sampled latches)

/-- JTAG_CLAMP (R494). -/
def execJtagClamp (t : Nat) (s : State) : Host.Outcome State Fault Refusal :=
  s.always t (fun d => (d.tapLoad tapClamp).tapCapture 0)

/-- JTAG_HIGHZ (R494). -/
def execJtagHighz (t : Nat) (s : State) : Host.Outcome State Fault Refusal :=
  s.always t (fun d => (d.tapLoad tapHighz).tapCapture 0)

/-- JTAG_DBG_ACCESS (R495). -/
def execJtagDbgAccess (t addr : Nat) (ow : Option Word) (s : State) : Host.Outcome State Fault Refusal :=
  .next (State.dbgAccess addr ow { s with dev := s.dev.begin t s.mem })

/-- DBG_MEM_READ (R498). -/
def execDbgMemRead (t : Nat) (ini : Initiator) (s : State) : Host.Outcome State Fault Refusal :=
  s.cmdS t true (fun s => s.portRead ini 1 (regAddr 0xB4 DBG_MEM_DATA))

end Sys2Proof.Machine
end

