-- ==== Sys2Proof/Machine/DetectorCommands.lean ====
section
/-! DEFINITION. The meanings of the commands on cells, routing and timing (Meadow and Trellis, Sundial). -/
namespace Sys2Proof.Machine

/-- CELL_ARM (R43). -/
def execCellArm (t bank : Nat) (s : State) : Host.Outcome State Fault Refusal :=
  s.cmd t (okBank bank) (fun d => d.inTerrace (bank / 2) (Dev.cellArm bank))

/-- CELL_AVALANCHE (R37). -/
def execCellAvalanche (t cell raw : Nat) (endLow : Bool) (s : State) : Host.Outcome State Fault Refusal :=
  s.cmd t (okCell cell) (fun d => d.inTerrace (terraceOfPixel (cell / 16)) (Dev.cellAvalanche cell raw endLow))

/-- TIMESTAMP_RELEASE (R70). -/
def execTimestampRelease (t ch : Nat) (s : State) : Host.Outcome State Fault Refusal :=
  s.cmd t (okChannel ch) (fun d => d.inTerrace (ch / 512) (Dev.stampRelease ch))

/-- HISTOGRAM_INCREMENT (R85). -/
def execHistogramIncrement (t ch : Nat) (s : State) : Host.Outcome State Fault Refusal :=
  s.cmd t (okChannel ch) (fun d => d.inTerrace (ch / 512) (Dev.histogramIncrement ch))

/-- BLANK_L_FALL (R44). -/
def execBlankLFall (t : Nat) (s : State) : Host.Outcome State Fault Refusal :=
  s.always t (fun d => d.blankFall)

/-- BLANK_LONG (R46). -/
def execBlankLong (t tr : Nat) (s : State) : Host.Outcome State Fault Refusal :=
  s.cmd t (okTerrace tr) (fun d => d.inTerrace tr (Dev.blankLong tr))

/-- LATCH_CLR (R39). -/
def execLatchClr (t : Nat) (ini : Initiator) (tr : Nat) (s : State) : Host.Outcome State Fault Refusal :=
  s.rowWrite t (okTerrace tr) ini (0x08 + tr) MDW_LATCH_CLR 1

/-- ROUTE_WRITE (R55). -/
def execRouteWrite (t : Nat) (ini : Initiator) (tr n : Nat) (w : Word) (s : State) : Host.Outcome State Fault Refusal :=
  s.rowWrite t (okTerrace tr && okRoute n) ini (0x0C + tr) (TRL_ROUTE + 4 * n) w

/-- HOP_EXECUTE (R53). -/
def execHopExecute (t ch : Nat) (s : State) : Host.Outcome State Fault Refusal :=
  s.cmd t (okChannel ch) (fun d => d.inTerrace (ch / 512) (Dev.hopExecute ch))

/-- START_PULSE (R67). -/
def execStartPulse (t tr raw : Nat) (s : State) : Host.Outcome State Fault Refusal :=
  s.cmd t (okTerrace tr) (fun d => d.inTerrace tr (Dev.startPulse tr raw))

/-- START_WINDOW_CLOSE (R68). -/
def execStartWindowClose (t bank : Nat) (s : State) : Host.Outcome State Fault Refusal :=
  s.cmd t (okBank bank) (fun d => d.inTerrace (bank / 2) (Dev.startClose bank))

/-- SCALE_LOOP_REFERENCE (R63). -/
def execScaleLoopReference (t tr raw : Nat) (s : State) : Host.Outcome State Fault Refusal :=
  s.cmd t (okTerrace tr) (fun d => d.inTerrace tr (Dev.scaleReference tr raw))

/-- CAL_TABLE_COMMIT (R66). -/
def execCalTableCommit (t : Nat) (ini : Initiator) (bed : Nat) (w : Word) (s : State) : Host.Outcome State Fault Refusal :=
  s.rowWrite t (okBed bed) ini (0x10 + bed) SDL_CAL_COMMIT w

/-- REF_CAL_COMMIT (R66). -/
def execRefCalCommit (t : Nat) (ini : Initiator) (tr : Nat) (w : Word) (s : State) : Host.Outcome State Fault Refusal :=
  s.rowWrite t (okTerrace tr) ini (refPage tr) SDL_START_CTRL (setBits w 31 31 1)

/-- BLANK_L_RISE (R44). -/
def execBlankLRise (t : Nat) (s : State) : Host.Outcome State Fault Refusal :=
  s.always t (fun d => d.blankRise)

end Sys2Proof.Machine
end

