-- ==== Sys2Proof/Machine/DmaCommands.lean ====
section
/-! DEFINITION. The meanings of the commands on the DMA engine. -/
namespace Sys2Proof.Machine

/-- DMA_ENABLE (R328). -/
def execDmaEnable (t : Nat) (ini : Initiator) (n : Nat) (w : Word) (s : State) : Host.Outcome State Fault Refusal :=
  s.rowWrite t (okDma n) ini (dmaPage n) DMA_CTRL (forced DMA_CTRL_EN 1 w)

/-- DMA_DISABLE (R337). -/
def execDmaDisable (t : Nat) (ini : Initiator) (n : Nat) (w : Word) (s : State) : Host.Outcome State Fault Refusal :=
  s.rowWrite t (okDma n) ini (dmaPage n) DMA_CTRL (forced DMA_CTRL_EN 0 w)

/-- DMA_COMMON_DISABLE (R342). -/
def execDmaCommonDisable (t : Nat) (ini : Initiator) (s : State) : Host.Outcome State Fault Refusal :=
  s.rowWrite t true ini 0xAF DMA_COMMON_CTRL 0

/-- DMA_DESCRIPTOR_FETCH (R325). -/
def execDmaDescriptorFetch (t n : Nat) (s : State) : Host.Outcome State Fault Refusal :=
  s.cmdM t (okDma n) (fun m d => d.dmaFetchDesc m n)

/-- DMA_BEAT_ISSUE (R328). -/
def execDmaBeatIssue (t : Nat) (s : State) : Host.Outcome State Fault Refusal :=
  s.cmdS t true (fun s => s.dmaBeat)

/-- DMA_WRITE_RESPONSE (R329). -/
def execDmaWriteResponse (t n : Nat) (s : State) : Host.Outcome State Fault Refusal :=
  s.cmd t (okDma n) (fun d => d.dmaResponse n)

/-- DMA_ERROR_RESPONSE (R335). -/
def execDmaErrorResponse (t n : Nat) (fetch : Bool) (s : State) : Host.Outcome State Fault Refusal :=
  s.cmdS t (okDma n) (fun s => s.dmaError n fetch)

/-- DMA_RING_RESET (R334). -/
def execDmaRingReset (t : Nat) (ini : Initiator) (n : Nat) (base : Bool) (w : Word) (s : State) : Host.Outcome State Fault Refusal :=
  s.rowWrite t (okDma n) ini (dmaPage n) (if base then DMA_RING_BASE else DMA_RING_CFG) w

/-- DMA_RD_PTR_WRITE (R332). -/
def execDmaRdPtrWrite (t : Nat) (ini : Initiator) (n : Nat) (w : Word) (s : State) : Host.Outcome State Fault Refusal :=
  s.rowWrite t (okDma n) ini (dmaPage n) DMA_RD_PTR w

end Sys2Proof.Machine
end

