-- ==== Sys2Proof/Machine/EchoCommands.lean ====
section
/-! DEFINITION. The meanings of the commands on histograms and echoes (Orangery, Gazebo). -/
namespace Sys2Proof.Machine

/-- SCAN_WORD (R125). -/
def execScanWord (t ch : Nat) (s : State) : Host.Outcome State Fault Refusal :=
  s.cmd t (okChannel ch) (fun d => d.inTerrace (ch / 512) (Dev.scanNext ch))

/-- CHANNEL_EXTRACTION (R110). -/
def execChannelExtraction (t ch : Nat) (s : State) : Host.Outcome State Fault Refusal :=
  s.cmd t (okChannel ch) (fun d => d.inTerrace (ch / 512) (Dev.channelDone ch))

/-- SLOT_MARKER_DELIVERY (R311). -/
def execSlotMarkerDelivery (t tr : Nat) (s : State) : Host.Outcome State Fault Refusal :=
  s.cmd t (okTerrace tr) (fun d => d.inTerrace tr (Dev.markerDelivery tr))

/-- ECHO_RECORD_DELIVERY (R119). -/
def execEchoRecordDelivery (t ch : Nat) (s : State) : Host.Outcome State Fault Refusal :=
  s.cmdM t (okChannel ch) (fun m d => d.recordDelivery m ch)

/-- GZB_DISABLE (R126). -/
def execGzbDisable (t : Nat) (ini : Initiator) (tr : Nat) (w : Word) (s : State) : Host.Outcome State Fault Refusal :=
  s.rowWrite t (okTerrace tr) ini (gzbPage tr) GZB_CTRL (forced GZB_CTRL_EN 0 w)

/-- GZB_LISTEN_WRITE (R123). -/
def execGzbListenWrite (t : Nat) (ini : Initiator) (w : Word) (s : State) : Host.Outcome State Fault Refusal :=
  s.rowWrite t true ini 0x54 GZB_LISTEN w

/-- DITHER_WRITE (R121). -/
def execDitherWrite (t : Nat) (ini : Initiator) (salt : Bool) (w : Word) (s : State) : Host.Outcome State Fault Refusal :=
  s.rowWrite t true ini 0x54 (if salt then GZB_DITHER_SALT else GZB_DITHER) w

/-- ORG_CLEAR (R98). -/
def execOrgClear (t : Nat) (ini : Initiator) (tr : Nat) (s : State) : Host.Outcome State Fault Refusal :=
  s.rowWrite t (okTerrace tr) ini (orgPage tr) ORG_CLEAR 1

/-- ORG_DISABLE (R99). -/
def execOrgDisable (t : Nat) (ini : Initiator) (tr : Nat) (w : Word) (s : State) : Host.Outcome State Fault Refusal :=
  s.rowWrite t (okTerrace tr) ini (orgPage tr) ORG_CTRL (forced ORG_CTRL_EN 0 w)

/-- ORG_MODE_WRITE (R98). -/
def execOrgModeWrite (t : Nat) (ini : Initiator) (tr : Nat) (w : Word) (s : State) : Host.Outcome State Fault Refusal :=
  s.rowWrite t (okTerrace tr) ini (orgPage tr) ORG_CTRL w

/-- ORG_WINDOW_ACCESS (R93). -/
def execOrgWindowAccess (t addr : Nat) (op : WindowOp) (s : State) : Host.Outcome State Fault Refusal :=
  s.cmdS t (okReadWindow addr) (fun s => s.windowAccess addr op.wide op.word)

/-- ZOOM_WINDOW_ACCESS (R95). -/
def execZoomWindowAccess (t addr : Nat) (op : WindowOp) (s : State) : Host.Outcome State Fault Refusal :=
  s.cmdS t (okZoomWindow addr) (fun s => s.windowAccess addr op.wide op.word)

end Sys2Proof.Machine
end

