-- ==== Sys2Proof/Machine/LinkCommands.lean ====
section
/-! DEFINITION. The meanings of the commands on the lanes (Promenade). -/
namespace Sys2Proof.Machine

/-- SLOT_HEADER_COMMIT (R167). -/
def execSlotHeaderCommit (t : Nat) (s : State) : Host.Outcome State Fault Refusal :=
  s.cmd t true (fun d => d.commitSlot)

/-- PACKET_SEND (R164). -/
def execPacketSend (t : Nat) (s : State) : Host.Outcome State Fault Refusal :=
  s.cmd t true (fun d => d.packetSend)

/-- MARKER_SEND (R448). -/
def execMarkerSend (t : Nat) (s : State) : Host.Outcome State Fault Refusal :=
  s.cmd t true (fun d => d.markerSend)

/-- AM_COLUMN_SEND (R155). -/
def execAmColumnSend (t : Nat) (s : State) : Host.Outcome State Fault Refusal :=
  s.cmd t true (fun d => d.amSend)

/-- CDR_LOCK (R157). -/
def execCdrLock (t lane : Nat) (s : State) : Host.Outcome State Fault Refusal :=
  s.cmd t (okLane lane) (fun d => d.cdrLock lane)

/-- BLOCK_LOCK_ACQUIRE (R157). -/
def execBlockLockAcquire (t lane : Nat) (s : State) : Host.Outcome State Fault Refusal :=
  s.cmd t (okLane lane) (fun d => d.blockLock lane)

/-- INVALID_HEADER_RECEIVE (R157). -/
def execInvalidHeaderReceive (t lane : Nat) (s : State) : Host.Outcome State Fault Refusal :=
  s.cmd t (okLane lane) (fun d => d.invalidHeader lane)

/-- AM_BLOCK_RECEIVE (R157). -/
def execAmBlockReceive (t lane id status : Nat) (s : State) : Host.Outcome State Fault Refusal :=
  s.cmd t (okLane lane) (fun d => d.amReceive lane id status)

/-- AM_LOCK_LOSS (R157). -/
def execAmLockLoss (t lane : Nat) (s : State) : Host.Outcome State Fault Refusal :=
  s.cmd t (okLane lane) (fun d => d.onLanes (Dev.amLoss lane))

/-- LOS_ASSERT (R159). -/
def execLosAssert (t lane : Nat) (s : State) : Host.Outcome State Fault Refusal :=
  s.cmd t (okLane lane) (fun d => d.losAssert lane)

/-- LOS_CLEAR (R159). -/
def execLosClear (t lane : Nat) (s : State) : Host.Outcome State Fault Refusal :=
  s.cmd t (okLane lane) (fun d => d.onLanes (Dev.losClear lane))

/-- LOSS_OF_LOCK (R159). -/
def execLossOfLock (t lane : Nat) (s : State) : Host.Outcome State Fault Refusal :=
  s.cmd t (okLane lane) (fun d => d.lossOfLock lane)

/-- XOFF_RECEIVE (R169). -/
def execXoffReceive (t : Nat) (s : State) : Host.Outcome State Fault Refusal :=
  s.cmd t true (fun d => d.onLanes Dev.xoff)

/-- XON_RECEIVE (R169). -/
def execXonReceive (t : Nat) (xoffToo : Bool) (s : State) : Host.Outcome State Fault Refusal :=
  s.cmd t true (fun d => d.onLanes (Dev.xon xoffToo))

/-- XOFF_LONG (R169). -/
def execXoffLong (t : Nat) (s : State) : Host.Outcome State Fault Refusal :=
  s.cmd t true (fun d => d.onLanes Dev.xoffLong)

/-- PSTATE_WRITE (R161). -/
def execPstateWrite (t : Nat) (ini : Initiator) (n : Nat) (w : Word) (s : State) : Host.Outcome State Fault Refusal :=
  s.rowWrite t (okLanePage n) ini (0x78 + n) (if n == 10 then PRM_LINK_CTRL else PRM_LANE_CTRL) w

/-- LOOPBACK_WRITE (R162). -/
def execLoopbackWrite (t : Nat) (ini : Initiator) (w : Word) (s : State) : Host.Outcome State Fault Refusal :=
  s.rowWrite t true ini 0x82 PRM_LINK_CTRL w

/-- PRBS_WRITE (R163). -/
def execPrbsWrite (t : Nat) (ini : Initiator) (lane : Nat) (w : Word) (s : State) : Host.Outcome State Fault Refusal :=
  s.rowWrite t (okLane lane) ini (lanePage lane) PRM_LANE_CTRL w

/-- PRBS_BIT_ERROR (R163). -/
def execPrbsBitError (t lane : Nat) (s : State) : Host.Outcome State Fault Refusal :=
  s.cmd t (okLane lane) (fun d => d.prbsError lane)

/-- SGMII_CONTROL_WORD (R171). -/
def execSgmiiControlWord (t lane : Nat) (up gig full : Bool) (s : State) : Host.Outcome State Fault Refusal :=
  s.cmd t (okLane lane) (fun d => d.sgmiiWord lane up gig full)

/-- UNKNOWN_CONTROL_BLOCK (R154). -/
def execUnknownControlBlock (t lane : Nat) (s : State) : Host.Outcome State Fault Refusal :=
  s.cmd t (okLane lane) (fun d => d.unknownBlock lane)

end Sys2Proof.Machine
end

