-- ==== Sys2Proof/Machine/LoopsCommands.lean ====
section
/-! DEFINITION. The meanings of the commands on the control loops (Fountain). -/
namespace Sys2Proof.Machine

/-- LOOP_SAMPLE_TIME (R227). -/
def execLoopSampleTime (t l : Nat) (s : State) : Host.Outcome State Fault Refusal :=
  s.cmd t (okLoop l) (fun d => d.loopSample l)

/-- LOOP_UPDATE (R229). -/
def execLoopUpdate (t : Nat) (s : State) : Host.Outcome State Fault Refusal :=
  s.cmd t true (fun d => d.loopUpdate)

/-- PWM_PERIOD_START (R239). -/
def execPwmPeriodStart (t l : Nat) (s : State) : Host.Outcome State Fault Refusal :=
  s.cmd t (okLoop l) (fun d => d.pwmStart l)

/-- FTN_ENABLE_WRITE (R231). -/
def execFtnEnableWrite (t : Nat) (ini : Initiator) (l : Nat) (w : Word) (s : State) : Host.Outcome State Fault Refusal :=
  s.rowWrite t (okLoop l) ini (ftnPage l) FTN_CTRL w

/-- FTN_CLOSE_WRITE (R231). -/
def execFtnCloseWrite (t : Nat) (ini : Initiator) (l : Nat) (w : Word) (s : State) : Host.Outcome State Fault Refusal :=
  s.rowWrite t (okLoop l) ini (ftnPage l) FTN_CTRL w

/-- FTN_SP_WRITE (R236). -/
def execFtnSpWrite (t : Nat) (ini : Initiator) (l : Nat) (w : Word) (s : State) : Host.Outcome State Fault Refusal :=
  s.rowWrite t (okLoop l) ini (ftnPage l) FTN_SP w

end Sys2Proof.Machine
end

