-- ==== Sys2Proof/Machine/PergolaCommands.lean ====
section
/-! DEFINITION. The meanings of the commands on the instructions of the Pergola cores. -/
namespace Sys2Proof.Machine

/-- NOP (R307). -/
def execPglNop (t k : Nat) (s : State) : Host.Outcome State Fault Refusal :=
  s.cmd t (okCore k) (fun d => d.pglNop k)

/-- HALT (R307). -/
def execPglHalt (t k : Nat) (s : State) : Host.Outcome State Fault Refusal :=
  s.cmd t (okCore k) (fun d => d.pglHalt k)

/-- TRAP (R307). -/
def execPglTrap (t k : Nat) (s : State) : Host.Outcome State Fault Refusal :=
  s.cmd t (okCore k) (fun d => d.pglTrap k)

/-- MOV (R307). -/
def execPglMov (t k : Nat) (s : State) : Host.Outcome State Fault Refusal :=
  s.cmd t (okCore k) (fun d => d.pglMov k)

/-- LDI (R307). -/
def execPglLdi (t k : Nat) (s : State) : Host.Outcome State Fault Refusal :=
  s.cmd t (okCore k) (fun d => d.pglLdi k)

/-- LD (R307). -/
def execPglLd (t k : Nat) (s : State) : Host.Outcome State Fault Refusal :=
  s.cmd t (okCore k) (fun d => d.pglLd k)

/-- ST (R307). -/
def execPglSt (t k : Nat) (s : State) : Host.Outcome State Fault Refusal :=
  s.cmd t (okCore k) (fun d => d.pglSt k)

/-- LDST (R307). -/
def execPglLdst (t k : Nat) (s : State) : Host.Outcome State Fault Refusal :=
  s.cmd t (okCore k) (fun d => d.pglLdst k)

/-- GETT (R307). -/
def execPglGett (t k : Nat) (s : State) : Host.Outcome State Fault Refusal :=
  s.cmd t (okCore k) (fun d => d.pglGett k)

/-- ADD (R303). -/
def execPglAdd (t k : Nat) (s : State) : Host.Outcome State Fault Refusal :=
  s.cmd t (okCore k) (fun d => d.pglAdd k)

/-- SUB (R303). -/
def execPglSub (t k : Nat) (s : State) : Host.Outcome State Fault Refusal :=
  s.cmd t (okCore k) (fun d => d.pglSub k)

/-- AND (R303). -/
def execPglAnd (t k : Nat) (s : State) : Host.Outcome State Fault Refusal :=
  s.cmd t (okCore k) (fun d => d.pglAnd k)

/-- OR (R303). -/
def execPglOr (t k : Nat) (s : State) : Host.Outcome State Fault Refusal :=
  s.cmd t (okCore k) (fun d => d.pglOr k)

/-- XOR (R303). -/
def execPglXor (t k : Nat) (s : State) : Host.Outcome State Fault Refusal :=
  s.cmd t (okCore k) (fun d => d.pglXor k)

/-- SHL (R303). -/
def execPglShl (t k : Nat) (s : State) : Host.Outcome State Fault Refusal :=
  s.cmd t (okCore k) (fun d => d.pglShlI k)

/-- SHR (R303). -/
def execPglShr (t k : Nat) (s : State) : Host.Outcome State Fault Refusal :=
  s.cmd t (okCore k) (fun d => d.pglShrI k)

/-- CMP (R303). -/
def execPglCmp (t k : Nat) (s : State) : Host.Outcome State Fault Refusal :=
  s.cmd t (okCore k) (fun d => d.pglCmp k)

/-- MAX (R307). -/
def execPglMax (t k : Nat) (s : State) : Host.Outcome State Fault Refusal :=
  s.cmd t (okCore k) (fun d => d.pglMaxI k)

/-- MIN (R307). -/
def execPglMin (t k : Nat) (s : State) : Host.Outcome State Fault Refusal :=
  s.cmd t (okCore k) (fun d => d.pglMinI k)

/-- ABS (R303). -/
def execPglAbs (t k : Nat) (s : State) : Host.Outcome State Fault Refusal :=
  s.cmd t (okCore k) (fun d => d.pglAbsI k)

/-- MPY (R304). -/
def execPglMpy (t k : Nat) (s : State) : Host.Outcome State Fault Refusal :=
  s.cmd t (okCore k) (fun d => d.pglMpy k)

/-- MAC (R304). -/
def execPglMac (t k : Nat) (s : State) : Host.Outcome State Fault Refusal :=
  s.cmd t (okCore k) (fun d => d.pglMac k)

/-- MSU (R304). -/
def execPglMsu (t k : Nat) (s : State) : Host.Outcome State Fault Refusal :=
  s.cmd t (okCore k) (fun d => d.pglMsu k)

/-- AADD (R304). -/
def execPglAadd (t k : Nat) (s : State) : Host.Outcome State Fault Refusal :=
  s.cmd t (okCore k) (fun d => d.pglAadd k)

/-- LDA (R305). -/
def execPglLda (t k : Nat) (s : State) : Host.Outcome State Fault Refusal :=
  s.cmd t (okCore k) (fun d => d.pglLda k)

/-- STA (R305). -/
def execPglSta (t k : Nat) (s : State) : Host.Outcome State Fault Refusal :=
  s.cmd t (okCore k) (fun d => d.pglSta k)

/-- DSTEP (R306). -/
def execPglDstep (t k : Nat) (s : State) : Host.Outcome State Fault Refusal :=
  s.cmd t (okCore k) (fun d => d.pglDstep k)

/-- CLRF (R307). -/
def execPglClrf (t k : Nat) (s : State) : Host.Outcome State Fault Refusal :=
  s.cmd t (okCore k) (fun d => d.pglClrf k)

/-- BR (R307). -/
def execPglBr (t k : Nat) (s : State) : Host.Outcome State Fault Refusal :=
  s.cmd t (okCore k) (fun d => d.pglBr k)

/-- CALL (R307). -/
def execPglCall (t k : Nat) (s : State) : Host.Outcome State Fault Refusal :=
  s.cmd t (okCore k) (fun d => d.pglCall k)

/-- RET (R307). -/
def execPglRet (t k : Nat) (s : State) : Host.Outcome State Fault Refusal :=
  s.cmd t (okCore k) (fun d => d.pglRet k)

/-- LBR (R300). -/
def execPglLbr (t k : Nat) (s : State) : Host.Outcome State Fault Refusal :=
  s.cmd t (okCore k) (fun d => d.pglLbr k)

/-- ADV (R300). -/
def execPglAdv (t k : Nat) (s : State) : Host.Outcome State Fault Refusal :=
  s.cmd t (okCore k) (fun d => d.pglAdv k)

/-- POP (R312). -/
def execPglPop (t k : Nat) (s : State) : Host.Outcome State Fault Refusal :=
  s.cmd t (okCore k) (fun d => d.pglPop k)

/-- POP_RESUME (R308). -/
def execPglPopResume (t k : Nat) (s : State) : Host.Outcome State Fault Refusal :=
  s.cmd t (okCore k) (fun d => d.pglPopResume k)

/-- PUSHO (R315). -/
def execPglPusho (t k : Nat) (s : State) : Host.Outcome State Fault Refusal :=
  s.cmd t (okCore k) (fun d => d.pglPusho k)

/-- SEND (R315). -/
def execPglSend (t k : Nat) (s : State) : Host.Outcome State Fault Refusal :=
  s.cmd t (okCore k) (fun d => d.pglSend k)

/-- SEND_RESUME (R308). -/
def execPglSendResume (t k : Nat) (s : State) : Host.Outcome State Fault Refusal :=
  s.cmd t (okCore k) (fun d => d.pglSendResume k)

/-- LSEND (R316). -/
def execPglLsend (t k : Nat) (s : State) : Host.Outcome State Fault Refusal :=
  s.cmdM t (okCore k) (fun m d => d.pglLsend m k)

/-- ZLD (R314). -/
def execPglZld (t k : Nat) (s : State) : Host.Outcome State Fault Refusal :=
  s.cmd t (okCore k) (fun d => d.pglZld k)

/-- ZLD_WRITEBACK (R308). -/
def execPglZldWriteback (t k : Nat) (s : State) : Host.Outcome State Fault Refusal :=
  s.cmd t (okCore k) (fun d => d.pglWriteback k)

/-- BRPT (R310). -/
def execPglBrpt (t k : Nat) (s : State) : Host.Outcome State Fault Refusal :=
  s.cmd t (okCore k) (fun d => d.pglBrpt k)

/-- ILLEGAL_OPCODE (R307). -/
def execPglIllegalOpcode (t k : Nat) (s : State) : Host.Outcome State Fault Refusal :=
  s.cmd t (okCore k) (fun d => d.pglIllegal k)

end Sys2Proof.Machine
end

