-- ==== Sys2Proof/Machine/PortsCommands.lean ====
section
/-! DEFINITION. The meanings of the commands on the ports, registers, mailboxes and the event matrix (Register interface and event sources). -/
namespace Sys2Proof.Machine

/-- XSPI_READ (R435); one of no word reads none (DESIGN CHOICE, log entry 4). -/
def execXspiRead (t addr n : Nat) (s : State) : Host.Outcome State Fault Refusal :=
  s.cmdS t true (State.portRead .control n addr)

/-- XSPI_PAGE_PROGRAM (R435); one of no word writes none (DESIGN CHOICE, log entry 4). -/
def execXspiPageProgram (t addr : Nat) (ws : List Word) (s : State) : Host.Outcome State Fault Refusal :=
  s.cmdS t true (State.portWrites .control ws addr)

/-- XSPI_READ_STATUS_REGISTER (R435). -/
def execXspiReadStatus (t : Nat) (s : State) : Host.Outcome State Fault Refusal :=
  s.cmd t true (fun d => d.deliver2 .control [0])

/-- XSPI_WRITE_ENABLE (R435). -/
def execXspiWriteEnable (t : Nat) (s : State) : Host.Outcome State Fault Refusal :=
  s.cmd t true (fun d => d)

/-- XSPI_SOFTWARE_RESET (R435). -/
def execXspiSoftwareReset (t : Nat) (s : State) : Host.Outcome State Fault Refusal :=
  s.cmd t true (fun d => d.deliver2 .control [])

/-- XSPI_BAD_COMMAND (R435). -/
def execXspiBadCommand (t : Nat) (s : State) : Host.Outcome State Fault Refusal :=
  s.cmd t true (fun d => d.badCmd)

/-- MGMT_I2C_WRITE (R436); one of no word writes none (DESIGN CHOICE, log entry 4). -/
def execMgmtWrite (t addr : Nat) (ws : List Word) (s : State) : Host.Outcome State Fault Refusal :=
  s.cmdS t true (State.portWrites .management ws addr)

/-- MGMT_I2C_READ (R436); one of no word reads none (DESIGN CHOICE, log entry 4). -/
def execMgmtRead (t addr n : Nat) (s : State) : Host.Outcome State Fault Refusal :=
  s.cmdS t true (State.portRead .management n addr)

/-- SETDASA (R436). -/
def execSetdasa (t a7 : Nat) (s : State) : Host.Outcome State Fault Refusal :=
  s.cmd t (okDynAddr a7) (fun d => d.takeAddress a7)

/-- ENTDAA (R436): a port that holds no dynamic address sends its provisional ID and takes the address. -/
def execEntdaa (t a7 : Nat) (s : State) : Host.Outcome State Fault Refusal :=
  s.cmd t (okDynAddr a7) (fun d => d.enterAddress a7)

/-- RSTDAA (R436). -/
def execRstdaa (t : Nat) (s : State) : Host.Outcome State Fault Refusal :=
  s.cmd t true (fun d => (d.setFld 0x00 DEV_PORT_STATUS_I3C 0).setFld 0x00 DEV_PORT_STATUS_DYN_ADDR 0)

/-- REGISTER_WRITE (R33). -/
def execRegisterWrite (t : Nat) (ini : Initiator) (addr : Nat) (w : Word) (s : State) : Host.Outcome State Fault Refusal :=
  s.cmdS t true (fun s => s.portWrites ini [w] addr)

/-- RC_REGISTER_READ (R73). -/
def execRcRegisterRead (t : Nat) (ini : Initiator) (addr : Nat) (s : State) : Host.Outcome State Fault Refusal :=
  s.cmdS t true (fun s => s.portRead ini 1 addr)

/-- EVENT_PENDING_CLEAR (R439). -/
def execEventPendingClear (t : Nat) (ini : Initiator) (p : Nat) (w : Word) (s : State) : Host.Outcome State Fault Refusal :=
  s.rowWrite t (okPage p) ini p EVENT_PENDING w

/-- PAGE_LOCK_SET (R442). -/
def execPageLockSet (t : Nat) (ini : Initiator) (p : Nat) (s : State) : Host.Outcome State Fault Refusal :=
  s.rowWrite t (okPage p) ini p PAGE_LOCK 1

/-- MBX_SELECT_WRITE (R440). -/
def execMbxSelectWrite (t : Nat) (ini : Initiator) (p : Nat) (w : Word) (s : State) : Host.Outcome State Fault Refusal :=
  s.rowWrite t (okPage p) ini p MBX_SELECT w

/-- MBX_SNAPSHOT (R440). -/
def execMbxSnapshot (t : Nat) (ini : Initiator) (p : Nat) (s : State) : Host.Outcome State Fault Refusal :=
  s.cmd t (okPage p) (fun d => d.mbxTake ini p)

/-- BIT_ALIAS_WRITE (R441). -/
def execBitAliasWrite (t : Nat) (ini : Initiator) (addr : Nat) (w : Word) (s : State) : Host.Outcome State Fault Refusal :=
  s.cmdS t (okAlias addr) (fun s => s.portWrites ini [w] addr)

/-- LOG_POP_WRITE (R449). -/
def execLogPopWrite (t : Nat) (ini : Initiator) (seq : Word) (s : State) : Host.Outcome State Fault Refusal :=
  s.rowWrite t true ini 0x02 EVM_LOG_POP seq

/-- LOG_CLEAR (R452). -/
def execLogClear (t : Nat) (ini : Initiator) (s : State) : Host.Outcome State Fault Refusal :=
  s.rowWrite t true ini 0x02 EVM_LOG_CTRL 1

/-- SOFT_EVENT (R452). -/
def execSoftEvent (t : Nat) (ini : Initiator) (s : State) : Host.Outcome State Fault Refusal :=
  s.rowWrite t true ini 0x02 EVM_SOFT 1

/-- EVENT_COUNTER_LOAD (R447). -/
def execEventCounterLoad (t : Nat) (ini : Initiator) (n : Nat) (w : Word) (s : State) : Host.Outcome State Fault Refusal :=
  s.rowWrite t (okCounter n) ini 0x02 (EVM_CNT + 4 * n) w

end Sys2Proof.Machine
end

