-- ==== Sys2Proof/Machine/PowerCommands.lean ====
section
/-! DEFINITION. The meanings of the commands on supplies, resets, device states, clocks and power domains (Supplies, reset, start-up and power domains). -/
namespace Sys2Proof.Machine

/-- POWER_ON (R457). -/
def execPowerOn (t : Nat) (pwrgood resetL : Bool) (s : State) : Host.Outcome State Fault Refusal :=
  s.always t (fun d => d.powerOn pwrgood resetL)

/-- RESET_L_ASSERT (R457). -/
def execResetLAssert (t : Nat) (s : State) : Host.Outcome State Fault Refusal :=
  s.always t (fun d => d.resetLFall)

/-- RESET_L_RELEASE (R457). -/
def execResetLRelease (t : Nat) (s : State) : Host.Outcome State Fault Refusal :=
  s.always t (fun d => d.resetLRise)

/-- PWRGOOD_FALL (R457). -/
def execPwrgoodFall (t : Nat) (s : State) : Host.Outcome State Fault Refusal :=
  s.always t (fun d => d.pwrgoodFall)

/-- PWRGOOD_RISE (R457). -/
def execPwrgoodRise (t : Nat) (s : State) : Host.Outcome State Fault Refusal :=
  s.always t (fun d => d.pwrgoodRise)

/-- BROWNOUT (R456). -/
def execBrownout (t r : Nat) (s : State) : Host.Outcome State Fault Refusal :=
  s.always t (fun d => if okRail r then d.brownout r else d)

/-- SUPPLY_OUT_OF_WINDOW (R456). -/
def execSupplyOutOfWindow (t r : Nat) (s : State) : Host.Outcome State Fault Refusal :=
  s.always t (fun d => if okRail r then d.supplyOut r else d)

/-- SUPPLY_RESTORED (R456). -/
def execSupplyRestored (t : Nat) (s : State) : Host.Outcome State Fault Refusal :=
  s.always t (fun d => d.supplyRestored)

/-- SOFT_RESET (R457). -/
def execSoftReset (t : Nat) (ini : Initiator) (s : State) : Host.Outcome State Fault Refusal :=
  s.rowWrite t true ini 0x01 PWR_RESET_CTRL 0x52E50001

/-- BOOT_ENTRY (R463). -/
def execBootEntry (t : Nat) (s : State) : Host.Outcome State Fault Refusal :=
  s.always t (fun d => d.bootEntry)

/-- REQUEST_STANDBY (R463). -/
def execRequestStandby (t : Nat) (ini : Initiator) (s : State) : Host.Outcome State Fault Refusal :=
  s.rowWrite t true ini 0x01 PWR_STATE_REQ 3

/-- REQUEST_ARMED (R463). -/
def execRequestArmed (t : Nat) (ini : Initiator) (s : State) : Host.Outcome State Fault Refusal :=
  s.rowWrite t true ini 0x01 PWR_STATE_REQ 4

/-- REQUEST_SCANNING (R463). -/
def execRequestScanning (t : Nat) (ini : Initiator) (s : State) : Host.Outcome State Fault Refusal :=
  s.rowWrite t true ini 0x01 PWR_STATE_REQ 5

/-- REQUEST_SAFE_HOLD (R463). -/
def execRequestSafeHold (t : Nat) (ini : Initiator) (s : State) : Host.Outcome State Fault Refusal :=
  s.rowWrite t true ini 0x01 PWR_STATE_REQ 6

/-- STATE_REQUEST_OTHER (R463). -/
def execStateRequestOther (t : Nat) (ini : Initiator) (req : Nat) (s : State) : Host.Outcome State Fault Refusal :=
  s.rowWrite t (okOtherRequest req) ini 0x01 PWR_STATE_REQ (BitVec.ofNat 32 req)

/-- TIMING_PLL_LOCK (R459). -/
def execTimingPllLock (t : Nat) (s : State) : Host.Outcome State Fault Refusal :=
  s.always t (fun d => d.pllLock)

/-- TIMING_PLL_UNLOCK (R460). -/
def execTimingPllUnlock (t : Nat) (s : State) : Host.Outcome State Fault Refusal :=
  s.always t (fun d => d.pllUnlock)

/-- LANE_PLL_LOCK (R459). -/
def execLanePllLock (t : Nat) (s : State) : Host.Outcome State Fault Refusal :=
  s.always t (fun d => d.lanePllLock)

/-- AUX_PLL_LOCK (R459). -/
def execAuxPllLock (t : Nat) (s : State) : Host.Outcome State Fault Refusal :=
  s.always t (fun d => d.auxPllLock)

/-- GATE_CTRL_WRITE (R466). -/
def execGateCtrlWrite (t : Nat) (ini : Initiator) (w : Word) (s : State) : Host.Outcome State Fault Refusal :=
  s.rowWrite t true ini 0x01 PWR_GATE_CTRL w

/-- DOMAIN_GATED (R467). -/
def execDomainGated (t : Nat) (s : State) : Host.Outcome State Fault Refusal :=
  s.cmdM t true (fun m d => d.domainGated m)

/-- DOMAIN_RESTORED (R470). -/
def execDomainRestored (t : Nat) (s : State) : Host.Outcome State Fault Refusal :=
  s.cmdM t true (fun m d => d.domainRestored m)

/-- DOMAIN_SWITCH_TIMEOUT (R466). -/
def execDomainSwitchTimeout (t : Nat) (s : State) : Host.Outcome State Fault Refusal :=
  s.cmd t true (fun d => d.domainTimeout)

/-- BROWNOUT_END (R457). -/
def execBrownoutEnd (t r : Nat) (s : State) : Host.Outcome State Fault Refusal :=
  s.always t (fun d => if okRail r then d.brownoutEnd r else d)

end Sys2Proof.Machine
end

