-- ==== Sys2Proof/Machine/SafetyCommands.lean ====
section
/-! DEFINITION. The meanings of the commands on the protective-field function (Lodge). -/
namespace Sys2Proof.Machine

/-- CHANNEL_A_VERDICT (R348). -/
def execChannelAVerdict (t : Nat) (s : State) : Host.Outcome State Fault Refusal :=
  s.cmdM t true (fun m d => d.channelA m)

/-- VERDICT_LATENCY_EXPIRY (R351). -/
def execVerdictLatencyExpiry (t : Nat) (s : State) : Host.Outcome State Fault Refusal :=
  s.cmd t true (fun d => d.latencyExpiry)

/-- CHANNEL_B_TIMEOUT (R351). -/
def execChannelBTimeout (t : Nat) (s : State) : Host.Outcome State Fault Refusal :=
  s.cmd t true (fun d => d.channelBTimeout)

/-- OUTPUT_MESSAGE_TIMEOUT (R351). -/
def execOutputMessageTimeout (t : Nat) (s : State) : Host.Outcome State Fault Refusal :=
  s.cmd t true (fun d => d.outputTimeout)

/-- FS_CRC_RECHECK (R344). -/
def execFsCrcRecheck (t : Nat) (s : State) : Host.Outcome State Fault Refusal :=
  s.cmdM t true (fun m d => d.fsRecheck m)

/-- COVERAGE_EXPIRY (R352). -/
def execCoverageExpiry (t fcell : Nat) (s : State) : Host.Outcome State Fault Refusal :=
  s.cmdM t (okFieldCell fcell) (fun m d => d.coverageExpiry m fcell)

/-- OSSD_TEST_WINDOW_START (R355). -/
def execOssdTestWindowStart (t o : Nat) (s : State) : Host.Outcome State Fault Refusal :=
  s.cmd t (okOutput o) (fun d => d.windowStart o)

/-- OSSD_TEST_WINDOW_END (R355). -/
def execOssdTestWindowEnd (t o : Nat) (s : State) : Host.Outcome State Fault Refusal :=
  s.cmdM t (okOutput o) (fun m d => d.windowEnd m o)

/-- OSSD_READBACK_CHANGE (R355). -/
def execOssdReadbackChange (t o : Nat) (level : Bool) (s : State) : Host.Outcome State Fault Refusal :=
  s.cmdM t (okOutput o) (fun m d => d.readbackChange m o level)

/-- TPO_PULSE_START (R358). -/
def execTpoPulseStart (t o : Nat) (s : State) : Host.Outcome State Fault Refusal :=
  s.cmd t (okOutput o) (fun d => d.tpoStart o)

/-- TPO_PULSE_END (R358). -/
def execTpoPulseEnd (t o before during after : Nat) (s : State) : Host.Outcome State Fault Refusal :=
  s.cmdM t (okOutput o) (fun m d => d.tpoEnd m o before during after)

/-- SIN_FILTER_CHANGE (R359). -/
def execSinFilterChange (t n : Nat) (level : Bool) (s : State) : Host.Outcome State Fault Refusal :=
  s.cmdM t (okSin n) (fun m d => d.filterChange m n level)

/-- LODGE_MS_TICK (R360). -/
def execLodgeMsTick (t : Nat) (s : State) : Host.Outcome State Fault Refusal :=
  s.cmdM t true (fun m d => d.msTick m)

/-- SIN_DISC_FAULT (R360). -/
def execSinDiscFault (t n : Nat) (s : State) : Host.Outcome State Fault Refusal :=
  s.cmdM t (okSinPair n) (fun m d => d.discFault m n)

/-- LODGE_KIND3_ENTRY (R350). -/
def execLodgeKind3Entry (t : Nat) (s : State) : Host.Outcome State Fault Refusal :=
  s.cmd t true (fun d => d.kind3)

/-- RESTART_DELAY_EXPIRY (R357). -/
def execRestartDelayExpiry (t : Nat) (s : State) : Host.Outcome State Fault Refusal :=
  s.cmdM t true (fun m d => d.restartExpiry m)

/-- FS_PREP_DONE (R363). -/
def execFsPrepDone (t : Nat) (s : State) : Host.Outcome State Fault Refusal :=
  s.cmdM t true (fun m d => d.fsPrepared m)

/-- FS_OVERLAP_END (R363). -/
def execFsOverlapEnd (t : Nat) (s : State) : Host.Outcome State Fault Refusal :=
  s.cmd t true (fun d => d.overlapEnd)

/-- STATUS_PDU_SEND (R365). -/
def execStatusPduSend (t : Nat) (s : State) : Host.Outcome State Fault Refusal :=
  s.cmd t true (fun d => d.statusSend)

/-- COMMAND_PDU_RECEIVE (R368). -/
def execCommandPduReceive (t : Nat) (b : Bool) (frame : List Nat) (s : State) : Host.Outcome State Fault Refusal :=
  s.cmdM t true (fun m d => d.commandReceive m b frame)

/-- COMMAND_PAIR_TIMEOUT (R368). -/
def execCommandPairTimeout (t : Nat) (s : State) : Host.Outcome State Fault Refusal :=
  s.cmd t true (fun d => d.pairTimeout)

/-- NET_WATCHDOG_EXPIRY (R369). -/
def execNetWatchdogExpiry (t : Nat) (s : State) : Host.Outcome State Fault Refusal :=
  s.cmdM t true (fun m d => d.watchdog m)

/-- LDG_FAULT_CLEAR (R353). -/
def execLdgFaultClear (t : Nat) (ini : Initiator) (w : Word) (s : State) : Host.Outcome State Fault Refusal :=
  s.rowWrite t true ini 0xB0 LDG_FAULT w

end Sys2Proof.Machine
end

