-- ==== Sys2Proof/Machine/SecureCommands.lean ====
section
/-! DEFINITION. The meanings of the commands on calibration, temperatures, OTP and security. -/
namespace Sys2Proof.Machine

/-- CAL_START (R390). -/
def execCalStart (t : Nat) (ini : Initiator) (w : Word) (s : State) : Host.Outcome State Fault Refusal :=
  s.rowWrite t true ini 0x07 CAL_CTRL (forced CAL_CTRL_START 1 w)

/-- CAL_AUTO_START (R390). -/
def execCalAutoStart (t : Nat) (s : State) : Host.Outcome State Fault Refusal :=
  s.cmd t true (fun d => d.calAuto)

/-- CAL_RUN_END (R385). -/
def execCalRunEnd (t : Nat) (s : State) : Host.Outcome State Fault Refusal :=
  s.cmd t true (fun d => d.calRunEnd)

/-- CAL_ABORT (R389). -/
def execCalAbort (t : Nat) (ini : Initiator) (w : Word) (s : State) : Host.Outcome State Fault Refusal :=
  s.rowWrite t true ini 0x07 CAL_CTRL (forced CAL_CTRL_ABORT 1 w)

/-- THERMAL_CONVERSION_DONE (R395). -/
def execThermalConversionDone (t s_ : Nat) (x : Measured) (s : State) : Host.Outcome State Fault Refusal :=
  s.cmd t (okMeasured s_ x) (fun d => d.thermalDone s_ x)

/-- READING_STALE (R395). -/
def execReadingStale (t s_ : Nat) (s : State) : Host.Outcome State Fault Refusal :=
  s.cmd t (okSensor s_) (fun d => d.readingStale s_)

/-- OTP_PROGRAM_GO (R407). -/
def execOtpProgramGo (t : Nat) (ini : Initiator) (w : Word) (s : State) : Host.Outcome State Fault Refusal :=
  s.rowWrite t true ini 0x05 OTP_PROG_CTRL (forced OTP_PROG_CTRL_GO 1 w)

/-- OTP_PROGRAM_DONE (R407). -/
def execOtpProgramDone (t : Nat) (ok : Bool) (s : State) : Host.Outcome State Fault Refusal :=
  s.cmd t true (fun d => d.otpDone ok)

/-- OTP_READ_DATA (R412). -/
def execOtpReadData (t : Nat) (ini : Initiator) (s : State) : Host.Outcome State Fault Refusal :=
  s.cmdS t true (fun s => s.portRead ini 1 (regAddr 0x05 OTP_RD_DATA))

/-- SEC_BOOT_GO (R420). -/
def execSecBootGo (t : Nat) (ini : Initiator) (s : State) : Host.Outcome State Fault Refusal :=
  s.rowWrite t true ini 0x04 SEC_BOOT_CTRL 1

/-- TOKEN_DEBUG_UNLOCK (R424). -/
def execTokenDebugUnlock (t : Nat) (ini : Initiator) (s : State) : Host.Outcome State Fault Refusal :=
  s.cmdS t true (fun s => s.tokenRow (fun op => op == 1) ini)

/-- TOKEN_INSTALL_CUSTOMER (R423). -/
def execTokenInstallCustomer (t : Nat) (ini : Initiator) (s : State) : Host.Outcome State Fault Refusal :=
  s.cmdS t true (fun s => s.tokenRow (fun op => op == 2) ini)

/-- TOKEN_REVOKE (R423). -/
def execTokenRevoke (t : Nat) (ini : Initiator) (s : State) : Host.Outcome State Fault Refusal :=
  s.cmdS t true (fun s => s.tokenRow (fun op => op == 3) ini)

/-- TOKEN_RAISE_SVN (R423). -/
def execTokenRaiseSvn (t : Nat) (ini : Initiator) (s : State) : Host.Outcome State Fault Refusal :=
  s.cmdS t true (fun s => s.tokenRow (fun op => op == 4) ini)

/-- TOKEN_UNKNOWN_OP (R422). -/
def execTokenUnknownOp (t : Nat) (ini : Initiator) (s : State) : Host.Outcome State Fault Refusal :=
  s.cmdS t true (fun s => s.tokenRow (fun op => op == 0 || 4 < op) ini)

/-- ATTESTATION_GO (R431). -/
def execAttestationGo (t : Nat) (ini : Initiator) (s : State) : Host.Outcome State Fault Refusal :=
  s.rowWrite t true ini 0x04 SEC_ATT_CTRL 1

/-- RESERVATION_OPEN (R428). -/
def execReservationOpen (t : Nat) (s : State) : Host.Outcome State Fault Refusal :=
  s.cmd t true (fun d => d.reserve)

/-- ATTESTATION_DONE (R430). -/
def execAttestationDone (t : Nat) (s : State) : Host.Outcome State Fault Refusal :=
  s.cmd t true (fun d => d.attDone)

/-- SEC_REPORT_READ (R431). -/
def execSecReportRead (t : Nat) (ini : Initiator) (s : State) : Host.Outcome State Fault Refusal :=
  s.cmdS t true (fun s => s.portRead ini 1 (regAddr 0x04 SEC_RPT_DATA))

/-- IMAGES_VERIFIED (R420). -/
def execImagesVerified (t : Nat) (s : State) : Host.Outcome State Fault Refusal :=
  s.cmdM t true (fun m d => d.imagesVerified m)

/-- ID_READY (R420). -/
def execIdReady (t : Nat) (s : State) : Host.Outcome State Fault Refusal :=
  s.cmd t true (fun d => d.idReady)

/-- BED_TEST_START (R390). -/
def execBedTestStart (t : Nat) (s : State) : Host.Outcome State Fault Refusal :=
  s.cmd t true (fun d => d.calLate)

end Sys2Proof.Machine
end

