-- ==== Sys2Proof/Machine/SlotCommands.lean ====
section
/-! DEFINITION. The meanings of the commands on slots, fires and the eye-safety gate (Bandstand, Gatehouse). -/
namespace Sys2Proof.Machine

/-- SLOT_TRIGGER (R27). -/
def execSlotTrigger (t : Nat) (rbMissing : Bool) (rb : List (Nat × Nat × Nat)) (s : State) : Host.Outcome State Fault Refusal :=
  s.cmdM t true (fun m d => d.slotTrigger m rbMissing rb)

/-- TIMED_TRIGGER_EXPIRY (R189). -/
def execTimedTriggerExpiry (t : Nat) (rbMissing : Bool) (rb : List (Nat × Nat × Nat)) (s : State) : Host.Outcome State Fault Refusal :=
  s.cmdM t true (fun m d => d.timedTrigger m rbMissing rb)

/-- DITHER_SEQUENCE_DONE (R121). -/
def execDitherSequenceDone (t : Nat) (s : State) : Host.Outcome State Fault Refusal :=
  s.cmd t true (fun d => d.seqDone)

/-- ZTAB_FETCH_DONE (R90). -/
def execZtabFetchDone (t tr : Nat) (s : State) : Host.Outcome State Fault Refusal :=
  s.cmdM t (okTerrace tr) (fun m d => d.inTerrace tr (Dev.ztabFetched tr m))

/-- LONG_BUFFER_RELEASE (R83). -/
def execLongBufferRelease (t tr : Nat) (s : State) : Host.Outcome State Fault Refusal :=
  s.cmdM t (okTerrace tr) (fun m d => d.inTerrace tr (Dev.longRelease m tr))

/-- SHOT_START (R29). -/
def execShotStart (t : Nat) (s : State) : Host.Outcome State Fault Refusal :=
  s.cmd t true (fun d => d.shotStart)

/-- BANK_FIRE (R183). -/
def execBankFire (t : Nat) (isense : List Nat) (vf : Nat) (s : State) : Host.Outcome State Fault Refusal :=
  s.cmd t true (fun d => d.bankFire isense vf)

/-- RANGE_GATE_OPEN (R42). -/
def execRangeGateOpen (t bank : Nat) (s : State) : Host.Outcome State Fault Refusal :=
  s.cmd t (okBank bank) (fun d => d.gateOpenNow bank)

/-- RANGE_GATE_CLOSE (R42). -/
def execRangeGateClose (t bank : Nat) (s : State) : Host.Outcome State Fault Refusal :=
  s.cmd t (okBank bank) (fun d => d.gateCloseNow bank)

/-- GTH_VERDICT_PASS (R208). -/
def execGthVerdictPass (t : Nat) (s : State) : Host.Outcome State Fault Refusal :=
  s.cmd t true (fun d => d.verdictPass)

/-- GTH_STALE (R212). -/
def execGthStale (t : Nat) (s : State) : Host.Outcome State Fault Refusal :=
  s.cmd t true (fun d => d.gthStale)

/-- GTH_SCAN_RETURN (R213). -/
def execGthScanReturn (t : Nat) (s : State) : Host.Outcome State Fault Refusal :=
  s.cmd t true (fun d => d.scanReturn)

/-- GTH_CHARGE_CHECK (R215). -/
def execGthChargeCheck (t : Nat) (s : State) : Host.Outcome State Fault Refusal :=
  s.cmd t true (fun d => d.chargeCheck)

/-- EMIT_EN_FALL (R217). -/
def execEmitEnFall (t low : Nat) (s : State) : Host.Outcome State Fault Refusal :=
  s.always t (fun d => d.emitFall low)

/-- EMIT_EN_STABLE (R217). -/
def execEmitEnStable (t : Nat) (s : State) : Host.Outcome State Fault Refusal :=
  s.cmd t true (fun d => d)

/-- GTH_BUDGET_WRITE (R211). -/
def execGthBudgetWrite (t : Nat) (ini : Initiator) (off : Nat) (w : Word) (s : State) : Host.Outcome State Fault Refusal :=
  s.rowWrite t (okOneWay off) ini 0x85 off w

/-- PATTERN_LOAD (R180). -/
def execPatternLoad (t : Nat) (ini : Initiator) (w : Word) (s : State) : Host.Outcome State Fault Refusal :=
  s.rowWrite t true ini 0x83 BND_BUF (forced BND_BUF_LOAD 1 w)

/-- PATTERN_LOAD_DONE (R180). -/
def execPatternLoadDone (t : Nat) (s : State) : Host.Outcome State Fault Refusal :=
  s.cmdM t true (fun m d => d.patternLoaded m)

/-- PATTERN_READY_WRITE (R180). -/
def execPatternReadyWrite (t : Nat) (ini : Initiator) (w : Word) (s : State) : Host.Outcome State Fault Refusal :=
  s.rowWrite t true ini 0x83 BND_BUF (forced BND_BUF_READY 1 w)

/-- SYNC_SWAP (R190). -/
def execSyncSwap (t : Nat) (s : State) : Host.Outcome State Fault Refusal :=
  s.cmd t true (fun d => d.syncSwap)

/-- BND_DISABLE (R195). -/
def execBndDisable (t : Nat) (ini : Initiator) (w : Word) (s : State) : Host.Outcome State Fault Refusal :=
  s.rowWrite t true ini 0x83 BND_CTRL (forced BND_CTRL_EN 0 w)

/-- BND_TRIGGER_SOURCE_WRITE (R196). -/
def execBndTriggerSourceWrite (t : Nat) (ini : Initiator) (w : Word) (s : State) : Host.Outcome State Fault Refusal :=
  s.rowWrite t true ini 0x83 BND_CTRL w

/-- PROBE_FIRE (R193). -/
def execProbeFire (t vs vf : Nat) (s : State) : Host.Outcome State Fault Refusal :=
  s.cmd t true (fun d => d.probeFire vs vf)

/-- PROBE_LATE (R193). -/
def execProbeLate (t seg : Nat) (s : State) : Host.Outcome State Fault Refusal :=
  s.cmd t (okSegment seg) (fun d => d.probeLate seg)

/-- SEG_FAULT_CLEAR (R192). -/
def execSegFaultClear (t : Nat) (ini : Initiator) (hi : Bool) (w : Word) (s : State) : Host.Outcome State Fault Refusal :=
  s.rowWrite t true ini 0x84 (if hi then BND_SEG_FAULT_HI else BND_SEG_FAULT_LO) w

/-- EMIT_EN_RISE (R217). -/
def execEmitEnRise (t : Nat) (s : State) : Host.Outcome State Fault Refusal :=
  s.always t (fun d => d.emitRise)

/-- BND_ENABLE (R190). -/
def execBndEnable (t : Nat) (ini : Initiator) (w : Word) (s : State) : Host.Outcome State Fault Refusal :=
  s.rowWrite t true ini 0x83 BND_CTRL (forced BND_CTRL_EN 1 w)

end Sys2Proof.Machine
end

