-- ==== Sys2Proof/Machine/TimeCommands.lean ====
section
/-! DEFINITION. The meanings of the commands on the time base (Point records and time). -/
namespace Sys2Proof.Machine

/-- SYNC_TIME_FRAME_SEND (R143). -/
def execSyncTimeFrameSend (t : Nat) (s : State) : Host.Outcome State Fault Refusal :=
  s.cmd t true (fun d => d.timeFrameSend)

/-- SYNC_IN_EDGE (R143). -/
def execSyncInEdge (t : Nat) (s : State) : Host.Outcome State Fault Refusal :=
  s.cmd t true (fun d => d.syncInEdge)

/-- SYNC_TIME_FRAME_RECEIVE (R144). -/
def execSyncTimeFrameReceive (t tm : Nat) (crcOk : Bool) (s : State) : Host.Outcome State Fault Refusal :=
  s.cmd t true (fun d => d.timeFrameReceive tm crcOk)

/-- SYNC_EVENT_FRAME_RECEIVE (R143). -/
def execSyncEventFrameReceive (t f : Nat) (crcOk : Bool) (s : State) : Host.Outcome State Fault Refusal :=
  s.cmd t true (fun d => d.eventFrameReceive f crcOk)

/-- SYNC_FRAME_MISSED (R144). -/
def execSyncFrameMissed (t : Nat) (s : State) : Host.Outcome State Fault Refusal :=
  s.cmd t true (fun d => d.frameMissed)

/-- DTB_LOAD (R145). -/
def execDtbLoad (t : Nat) (ini : Initiator) (w : Word) (s : State) : Host.Outcome State Fault Refusal :=
  s.rowWrite t true ini 0x03 DTB_CTRL (forced DTB_CTRL_LOAD 1 w)

/-- DTB_RESYNC (R144). -/
def execDtbResync (t : Nat) (ini : Initiator) (w : Word) (s : State) : Host.Outcome State Fault Refusal :=
  s.rowWrite t true ini 0x03 DTB_CTRL (forced DTB_CTRL_RESYNC 1 w)

/-- DEVICE_TIME_SATURATE (R141). -/
def execDeviceTimeSaturate (t : Nat) (s : State) : Host.Outcome State Fault Refusal :=
  s.cmd t true (fun d => d.timeSaturate)

end Sys2Proof.Machine
end

