-- ==== Sys2Proof/Machine/Dispatch.lean ====
section
/-! DEFINITION. One arm per command. -/
namespace Sys2Proof.Machine

/-- What a command does to everything but the queue. -/
def exec (i : Instr) (s : State) : Host.Outcome State Fault Refusal :=
  match i with
  | .xspiRead t addr n => Sys2Proof.Machine.execXspiRead t addr n s
  | .xspiPageProgram t addr ws => Sys2Proof.Machine.execXspiPageProgram t addr ws s
  | .xspiReadStatus t => Sys2Proof.Machine.execXspiReadStatus t s
  | .xspiWriteEnable t => Sys2Proof.Machine.execXspiWriteEnable t s
  | .xspiSoftwareReset t => Sys2Proof.Machine.execXspiSoftwareReset t s
  | .xspiBadCommand t => Sys2Proof.Machine.execXspiBadCommand t s
  | .mgmtWrite t addr ws => Sys2Proof.Machine.execMgmtWrite t addr ws s
  | .mgmtRead t addr n => Sys2Proof.Machine.execMgmtRead t addr n s
  | .setdasa t a7 => Sys2Proof.Machine.execSetdasa t a7 s
  | .entdaa t a7 => Sys2Proof.Machine.execEntdaa t a7 s
  | .rstdaa t => Sys2Proof.Machine.execRstdaa t s
  | .registerWrite t ini addr w => Sys2Proof.Machine.execRegisterWrite t ini addr w s
  | .rcRegisterRead t ini addr => Sys2Proof.Machine.execRcRegisterRead t ini addr s
  | .eventPendingClear t ini p w => Sys2Proof.Machine.execEventPendingClear t ini p w s
  | .pageLockSet t ini p => Sys2Proof.Machine.execPageLockSet t ini p s
  | .mbxSelectWrite t ini p w => Sys2Proof.Machine.execMbxSelectWrite t ini p w s
  | .mbxSnapshot t ini p => Sys2Proof.Machine.execMbxSnapshot t ini p s
  | .bitAliasWrite t ini addr w => Sys2Proof.Machine.execBitAliasWrite t ini addr w s
  | .powerOn t pwrgood resetL => Sys2Proof.Machine.execPowerOn t pwrgood resetL s
  | .resetLAssert t => Sys2Proof.Machine.execResetLAssert t s
  | .resetLRelease t => Sys2Proof.Machine.execResetLRelease t s
  | .pwrgoodFall t => Sys2Proof.Machine.execPwrgoodFall t s
  | .pwrgoodRise t => Sys2Proof.Machine.execPwrgoodRise t s
  | .brownout t r => Sys2Proof.Machine.execBrownout t r s
  | .supplyOutOfWindow t r => Sys2Proof.Machine.execSupplyOutOfWindow t r s
  | .supplyRestored t => Sys2Proof.Machine.execSupplyRestored t s
  | .softReset t ini => Sys2Proof.Machine.execSoftReset t ini s
  | .bootEntry t => Sys2Proof.Machine.execBootEntry t s
  | .requestStandby t ini => Sys2Proof.Machine.execRequestStandby t ini s
  | .requestArmed t ini => Sys2Proof.Machine.execRequestArmed t ini s
  | .requestScanning t ini => Sys2Proof.Machine.execRequestScanning t ini s
  | .requestSafeHold t ini => Sys2Proof.Machine.execRequestSafeHold t ini s
  | .stateRequestOther t ini req => Sys2Proof.Machine.execStateRequestOther t ini req s
  | .timingPllLock t => Sys2Proof.Machine.execTimingPllLock t s
  | .timingPllUnlock t => Sys2Proof.Machine.execTimingPllUnlock t s
  | .lanePllLock t => Sys2Proof.Machine.execLanePllLock t s
  | .auxPllLock t => Sys2Proof.Machine.execAuxPllLock t s
  | .gateCtrlWrite t ini w => Sys2Proof.Machine.execGateCtrlWrite t ini w s
  | .domainGated t => Sys2Proof.Machine.execDomainGated t s
  | .domainRestored t => Sys2Proof.Machine.execDomainRestored t s
  | .domainSwitchTimeout t => Sys2Proof.Machine.execDomainSwitchTimeout t s
  | .syncTimeFrameSend t => Sys2Proof.Machine.execSyncTimeFrameSend t s
  | .syncInEdge t => Sys2Proof.Machine.execSyncInEdge t s
  | .syncTimeFrameReceive t tm crcOk => Sys2Proof.Machine.execSyncTimeFrameReceive t tm crcOk s
  | .syncEventFrameReceive t f crcOk => Sys2Proof.Machine.execSyncEventFrameReceive t f crcOk s
  | .syncFrameMissed t => Sys2Proof.Machine.execSyncFrameMissed t s
  | .dtbLoad t ini w => Sys2Proof.Machine.execDtbLoad t ini w s
  | .dtbResync t ini w => Sys2Proof.Machine.execDtbResync t ini w s
  | .deviceTimeSaturate t => Sys2Proof.Machine.execDeviceTimeSaturate t s
  | .cellArm t bank => Sys2Proof.Machine.execCellArm t bank s
  | .cellAvalanche t cell raw endLow => Sys2Proof.Machine.execCellAvalanche t cell raw endLow s
  | .timestampRelease t ch => Sys2Proof.Machine.execTimestampRelease t ch s
  | .histogramIncrement t ch => Sys2Proof.Machine.execHistogramIncrement t ch s
  | .blankLFall t => Sys2Proof.Machine.execBlankLFall t s
  | .blankLong t tr => Sys2Proof.Machine.execBlankLong t tr s
  | .latchClr t ini tr => Sys2Proof.Machine.execLatchClr t ini tr s
  | .routeWrite t ini tr n w => Sys2Proof.Machine.execRouteWrite t ini tr n w s
  | .hopExecute t ch => Sys2Proof.Machine.execHopExecute t ch s
  | .startPulse t tr raw => Sys2Proof.Machine.execStartPulse t tr raw s
  | .startWindowClose t bank => Sys2Proof.Machine.execStartWindowClose t bank s
  | .scaleLoopReference t tr raw => Sys2Proof.Machine.execScaleLoopReference t tr raw s
  | .calTableCommit t ini bed w => Sys2Proof.Machine.execCalTableCommit t ini bed w s
  | .refCalCommit t ini tr w => Sys2Proof.Machine.execRefCalCommit t ini tr w s
  | .slotTrigger t rbMissing rb => Sys2Proof.Machine.execSlotTrigger t rbMissing rb s
  | .timedTriggerExpiry t rbMissing rb => Sys2Proof.Machine.execTimedTriggerExpiry t rbMissing rb s
  | .ditherSequenceDone t => Sys2Proof.Machine.execDitherSequenceDone t s
  | .ztabFetchDone t tr => Sys2Proof.Machine.execZtabFetchDone t tr s
  | .longBufferRelease t tr => Sys2Proof.Machine.execLongBufferRelease t tr s
  | .shotStart t => Sys2Proof.Machine.execShotStart t s
  | .bankFire t isense vf => Sys2Proof.Machine.execBankFire t isense vf s
  | .rangeGateOpen t bank => Sys2Proof.Machine.execRangeGateOpen t bank s
  | .rangeGateClose t bank => Sys2Proof.Machine.execRangeGateClose t bank s
  | .gthVerdictPass t => Sys2Proof.Machine.execGthVerdictPass t s
  | .gthStale t => Sys2Proof.Machine.execGthStale t s
  | .gthScanReturn t => Sys2Proof.Machine.execGthScanReturn t s
  | .gthChargeCheck t => Sys2Proof.Machine.execGthChargeCheck t s
  | .emitEnFall t low => Sys2Proof.Machine.execEmitEnFall t low s
  | .emitEnStable t => Sys2Proof.Machine.execEmitEnStable t s
  | .gthBudgetWrite t ini off w => Sys2Proof.Machine.execGthBudgetWrite t ini off w s
  | .patternLoad t ini w => Sys2Proof.Machine.execPatternLoad t ini w s
  | .patternLoadDone t => Sys2Proof.Machine.execPatternLoadDone t s
  | .patternReadyWrite t ini w => Sys2Proof.Machine.execPatternReadyWrite t ini w s
  | .syncSwap t => Sys2Proof.Machine.execSyncSwap t s
  | .bndDisable t ini w => Sys2Proof.Machine.execBndDisable t ini w s
  | .bndTriggerSourceWrite t ini w => Sys2Proof.Machine.execBndTriggerSourceWrite t ini w s
  | .probeFire t vs vf => Sys2Proof.Machine.execProbeFire t vs vf s
  | .probeLate t seg => Sys2Proof.Machine.execProbeLate t seg s
  | .segFaultClear t ini hi w => Sys2Proof.Machine.execSegFaultClear t ini hi w s
  | .loopSampleTime t l => Sys2Proof.Machine.execLoopSampleTime t l s
  | .loopUpdate t => Sys2Proof.Machine.execLoopUpdate t s
  | .pwmPeriodStart t l => Sys2Proof.Machine.execPwmPeriodStart t l s
  | .ftnEnableWrite t ini l w => Sys2Proof.Machine.execFtnEnableWrite t ini l w s
  | .ftnCloseWrite t ini l w => Sys2Proof.Machine.execFtnCloseWrite t ini l w s
  | .ftnSpWrite t ini l w => Sys2Proof.Machine.execFtnSpWrite t ini l w s
  | .sarConversionDone t sar samples => Sys2Proof.Machine.execSarConversionDone t sar samples s
  | .sarRoutineDue t sar => Sys2Proof.Machine.execSarRoutineDue t sar s
  | .sincOutput t m v => Sys2Proof.Machine.execSincOutput t m v s
  | .notchWindowEnd t m => Sys2Proof.Machine.execNotchWindowEnd t m s
  | .clampConduction t inp begins => Sys2Proof.Machine.execClampConduction t inp begins s
  | .wireCheckStart t inp => Sys2Proof.Machine.execWireCheckStart t inp s
  | .wireCheckDone t z => Sys2Proof.Machine.execWireCheckDone t z s
  | .excWrite t ini n w => Sys2Proof.Machine.execExcWrite t ini n w s
  | .pmpDisable t ini w => Sys2Proof.Machine.execPmpDisable t ini w s
  | .sdEnableWrite t ini m w => Sys2Proof.Machine.execSdEnableWrite t ini m w s
  | .cscServicePoint t c => Sys2Proof.Machine.execCscServicePoint t c s
  | .cscOutputRelease t c => Sys2Proof.Machine.execCscOutputRelease t c s
  | .cscEnableWrite t ini w => Sys2Proof.Machine.execCscEnableWrite t ini w s
  | .cscChannelConfigWrite t ini c w => Sys2Proof.Machine.execCscChannelConfigWrite t ini c w s
  | .timeoutTrigger t x => Sys2Proof.Machine.execTimeoutTrigger t x s
  | .blvArm t ini w => Sys2Proof.Machine.execBlvArm t ini w s
  | .blvAbort t ini w => Sys2Proof.Machine.execBlvAbort t ini w s
  | .blvForce t ini w => Sys2Proof.Machine.execBlvForce t ini w s
  | .blvTimeoutEnd t => Sys2Proof.Machine.execBlvTimeoutEnd t s
  | .blvMaskTestDone t => Sys2Proof.Machine.execBlvMaskTestDone t s
  | .blvDumpDone t => Sys2Proof.Machine.execBlvDumpDone t s
  | .blvReadData t ini => Sys2Proof.Machine.execBlvReadData t ini s
  | .scanWord t ch => Sys2Proof.Machine.execScanWord t ch s
  | .channelExtraction t ch => Sys2Proof.Machine.execChannelExtraction t ch s
  | .slotMarkerDelivery t tr => Sys2Proof.Machine.execSlotMarkerDelivery t tr s
  | .echoRecordDelivery t ch => Sys2Proof.Machine.execEchoRecordDelivery t ch s
  | .gzbDisable t ini tr w => Sys2Proof.Machine.execGzbDisable t ini tr w s
  | .gzbListenWrite t ini w => Sys2Proof.Machine.execGzbListenWrite t ini w s
  | .ditherWrite t ini salt w => Sys2Proof.Machine.execDitherWrite t ini salt w s
  | .orgClear t ini tr => Sys2Proof.Machine.execOrgClear t ini tr s
  | .orgDisable t ini tr w => Sys2Proof.Machine.execOrgDisable t ini tr w s
  | .orgModeWrite t ini tr w => Sys2Proof.Machine.execOrgModeWrite t ini tr w s
  | .orgWindowAccess t addr op => Sys2Proof.Machine.execOrgWindowAccess t addr op s
  | .zoomWindowAccess t addr op => Sys2Proof.Machine.execZoomWindowAccess t addr op s
  | .slotHeaderCommit t => Sys2Proof.Machine.execSlotHeaderCommit t s
  | .packetSend t => Sys2Proof.Machine.execPacketSend t s
  | .markerSend t => Sys2Proof.Machine.execMarkerSend t s
  | .amColumnSend t => Sys2Proof.Machine.execAmColumnSend t s
  | .cdrLock t lane => Sys2Proof.Machine.execCdrLock t lane s
  | .blockLockAcquire t lane => Sys2Proof.Machine.execBlockLockAcquire t lane s
  | .invalidHeaderReceive t lane => Sys2Proof.Machine.execInvalidHeaderReceive t lane s
  | .amBlockReceive t lane id status => Sys2Proof.Machine.execAmBlockReceive t lane id status s
  | .amLockLoss t lane => Sys2Proof.Machine.execAmLockLoss t lane s
  | .losAssert t lane => Sys2Proof.Machine.execLosAssert t lane s
  | .losClear t lane => Sys2Proof.Machine.execLosClear t lane s
  | .lossOfLock t lane => Sys2Proof.Machine.execLossOfLock t lane s
  | .xoffReceive t => Sys2Proof.Machine.execXoffReceive t s
  | .xonReceive t xoffToo => Sys2Proof.Machine.execXonReceive t xoffToo s
  | .xoffLong t => Sys2Proof.Machine.execXoffLong t s
  | .pstateWrite t ini n w => Sys2Proof.Machine.execPstateWrite t ini n w s
  | .loopbackWrite t ini w => Sys2Proof.Machine.execLoopbackWrite t ini w s
  | .prbsWrite t ini lane w => Sys2Proof.Machine.execPrbsWrite t ini lane w s
  | .prbsBitError t lane => Sys2Proof.Machine.execPrbsBitError t lane s
  | .sgmiiControlWord t lane up gig full => Sys2Proof.Machine.execSgmiiControlWord t lane up gig full s
  | .dmaEnable t ini n w => Sys2Proof.Machine.execDmaEnable t ini n w s
  | .dmaDisable t ini n w => Sys2Proof.Machine.execDmaDisable t ini n w s
  | .dmaCommonDisable t ini => Sys2Proof.Machine.execDmaCommonDisable t ini s
  | .dmaDescriptorFetch t n => Sys2Proof.Machine.execDmaDescriptorFetch t n s
  | .dmaBeatIssue t => Sys2Proof.Machine.execDmaBeatIssue t s
  | .dmaWriteResponse t n => Sys2Proof.Machine.execDmaWriteResponse t n s
  | .dmaErrorResponse t n fetch => Sys2Proof.Machine.execDmaErrorResponse t n fetch s
  | .dmaRingReset t ini n base w => Sys2Proof.Machine.execDmaRingReset t ini n base w s
  | .dmaRdPtrWrite t ini n w => Sys2Proof.Machine.execDmaRdPtrWrite t ini n w s
  | .channelAVerdict t => Sys2Proof.Machine.execChannelAVerdict t s
  | .verdictLatencyExpiry t => Sys2Proof.Machine.execVerdictLatencyExpiry t s
  | .channelBTimeout t => Sys2Proof.Machine.execChannelBTimeout t s
  | .outputMessageTimeout t => Sys2Proof.Machine.execOutputMessageTimeout t s
  | .fsCrcRecheck t => Sys2Proof.Machine.execFsCrcRecheck t s
  | .coverageExpiry t fcell => Sys2Proof.Machine.execCoverageExpiry t fcell s
  | .ossdTestWindowStart t o => Sys2Proof.Machine.execOssdTestWindowStart t o s
  | .ossdTestWindowEnd t o => Sys2Proof.Machine.execOssdTestWindowEnd t o s
  | .ossdReadbackChange t o level => Sys2Proof.Machine.execOssdReadbackChange t o level s
  | .tpoPulseStart t o => Sys2Proof.Machine.execTpoPulseStart t o s
  | .tpoPulseEnd t o before during after => Sys2Proof.Machine.execTpoPulseEnd t o before during after s
  | .sinFilterChange t n level => Sys2Proof.Machine.execSinFilterChange t n level s
  | .lodgeMsTick t => Sys2Proof.Machine.execLodgeMsTick t s
  | .sinDiscFault t n => Sys2Proof.Machine.execSinDiscFault t n s
  | .lodgeKind3Entry t => Sys2Proof.Machine.execLodgeKind3Entry t s
  | .restartDelayExpiry t => Sys2Proof.Machine.execRestartDelayExpiry t s
  | .fsPrepDone t => Sys2Proof.Machine.execFsPrepDone t s
  | .fsOverlapEnd t => Sys2Proof.Machine.execFsOverlapEnd t s
  | .statusPduSend t => Sys2Proof.Machine.execStatusPduSend t s
  | .commandPduReceive t b frame => Sys2Proof.Machine.execCommandPduReceive t b frame s
  | .commandPairTimeout t => Sys2Proof.Machine.execCommandPairTimeout t s
  | .netWatchdogExpiry t => Sys2Proof.Machine.execNetWatchdogExpiry t s
  | .ldgFaultClear t ini w => Sys2Proof.Machine.execLdgFaultClear t ini w s
  | .calStart t ini w => Sys2Proof.Machine.execCalStart t ini w s
  | .calAutoStart t => Sys2Proof.Machine.execCalAutoStart t s
  | .calRunEnd t => Sys2Proof.Machine.execCalRunEnd t s
  | .calAbort t ini w => Sys2Proof.Machine.execCalAbort t ini w s
  | .thermalConversionDone t s_ x => Sys2Proof.Machine.execThermalConversionDone t s_ x s
  | .readingStale t s_ => Sys2Proof.Machine.execReadingStale t s_ s
  | .otpProgramGo t ini w => Sys2Proof.Machine.execOtpProgramGo t ini w s
  | .otpProgramDone t ok => Sys2Proof.Machine.execOtpProgramDone t ok s
  | .otpReadData t ini => Sys2Proof.Machine.execOtpReadData t ini s
  | .secBootGo t ini => Sys2Proof.Machine.execSecBootGo t ini s
  | .tokenDebugUnlock t ini => Sys2Proof.Machine.execTokenDebugUnlock t ini s
  | .tokenInstallCustomer t ini => Sys2Proof.Machine.execTokenInstallCustomer t ini s
  | .tokenRevoke t ini => Sys2Proof.Machine.execTokenRevoke t ini s
  | .tokenRaiseSvn t ini => Sys2Proof.Machine.execTokenRaiseSvn t ini s
  | .tokenUnknownOp t ini => Sys2Proof.Machine.execTokenUnknownOp t ini s
  | .attestationGo t ini => Sys2Proof.Machine.execAttestationGo t ini s
  | .reservationOpen t => Sys2Proof.Machine.execReservationOpen t s
  | .attestationDone t => Sys2Proof.Machine.execAttestationDone t s
  | .secReportRead t ini => Sys2Proof.Machine.execSecReportRead t ini s
  | .logPopWrite t ini seq => Sys2Proof.Machine.execLogPopWrite t ini seq s
  | .logClear t ini => Sys2Proof.Machine.execLogClear t ini s
  | .softEvent t ini => Sys2Proof.Machine.execSoftEvent t ini s
  | .eventCounterLoad t ini n w => Sys2Proof.Machine.execEventCounterLoad t ini n w s
  | .pglRunStart t ini k w => Sys2Proof.Machine.execPglRunStart t ini k w s
  | .pglRunStop t ini k w => Sys2Proof.Machine.execPglRunStop t ini k w s
  | .pglModeWrite t ini k w => Sys2Proof.Machine.execPglModeWrite t ini k w s
  | .pglLoad t ini tr => Sys2Proof.Machine.execPglLoad t ini tr s
  | .pglLoadDone t tr => Sys2Proof.Machine.execPglLoadDone t tr s
  | .pglMemoryAccess t ini k word d24 => Sys2Proof.Machine.execPglMemoryAccess t ini k word d24 s
  | .codeWindowWrite t addr w => Sys2Proof.Machine.execCodeWindowWrite t addr w s
  | .pglNop t k => Sys2Proof.Machine.execPglNop t k s
  | .pglHalt t k => Sys2Proof.Machine.execPglHalt t k s
  | .pglTrap t k => Sys2Proof.Machine.execPglTrap t k s
  | .pglMov t k => Sys2Proof.Machine.execPglMov t k s
  | .pglLdi t k => Sys2Proof.Machine.execPglLdi t k s
  | .pglLd t k => Sys2Proof.Machine.execPglLd t k s
  | .pglSt t k => Sys2Proof.Machine.execPglSt t k s
  | .pglLdst t k => Sys2Proof.Machine.execPglLdst t k s
  | .pglGett t k => Sys2Proof.Machine.execPglGett t k s
  | .pglAdd t k => Sys2Proof.Machine.execPglAdd t k s
  | .pglSub t k => Sys2Proof.Machine.execPglSub t k s
  | .pglAnd t k => Sys2Proof.Machine.execPglAnd t k s
  | .pglOr t k => Sys2Proof.Machine.execPglOr t k s
  | .pglXor t k => Sys2Proof.Machine.execPglXor t k s
  | .pglShl t k => Sys2Proof.Machine.execPglShl t k s
  | .pglShr t k => Sys2Proof.Machine.execPglShr t k s
  | .pglCmp t k => Sys2Proof.Machine.execPglCmp t k s
  | .pglMax t k => Sys2Proof.Machine.execPglMax t k s
  | .pglMin t k => Sys2Proof.Machine.execPglMin t k s
  | .pglAbs t k => Sys2Proof.Machine.execPglAbs t k s
  | .pglMpy t k => Sys2Proof.Machine.execPglMpy t k s
  | .pglMac t k => Sys2Proof.Machine.execPglMac t k s
  | .pglMsu t k => Sys2Proof.Machine.execPglMsu t k s
  | .pglAadd t k => Sys2Proof.Machine.execPglAadd t k s
  | .pglLda t k => Sys2Proof.Machine.execPglLda t k s
  | .pglSta t k => Sys2Proof.Machine.execPglSta t k s
  | .pglDstep t k => Sys2Proof.Machine.execPglDstep t k s
  | .pglClrf t k => Sys2Proof.Machine.execPglClrf t k s
  | .pglBr t k => Sys2Proof.Machine.execPglBr t k s
  | .pglCall t k => Sys2Proof.Machine.execPglCall t k s
  | .pglRet t k => Sys2Proof.Machine.execPglRet t k s
  | .pglLbr t k => Sys2Proof.Machine.execPglLbr t k s
  | .pglAdv t k => Sys2Proof.Machine.execPglAdv t k s
  | .pglPop t k => Sys2Proof.Machine.execPglPop t k s
  | .pglPopResume t k => Sys2Proof.Machine.execPglPopResume t k s
  | .pglPusho t k => Sys2Proof.Machine.execPglPusho t k s
  | .pglSend t k => Sys2Proof.Machine.execPglSend t k s
  | .pglSendResume t k => Sys2Proof.Machine.execPglSendResume t k s
  | .pglLsend t k => Sys2Proof.Machine.execPglLsend t k s
  | .pglZld t k => Sys2Proof.Machine.execPglZld t k s
  | .pglZldWriteback t k => Sys2Proof.Machine.execPglZldWriteback t k s
  | .pglBrpt t k => Sys2Proof.Machine.execPglBrpt t k s
  | .pglIllegalOpcode t k => Sys2Proof.Machine.execPglIllegalOpcode t k s
  | .tapReset t => Sys2Proof.Machine.execTapReset t s
  | .jtagBypass t code => Sys2Proof.Machine.execJtagBypass t code s
  | .jtagIdcode t => Sys2Proof.Machine.execJtagIdcode t s
  | .jtagSamplePreload t sampled latches => Sys2Proof.Machine.execJtagSamplePreload t sampled latches s
  | .jtagExtest t sampled latches => Sys2Proof.Machine.execJtagExtest t sampled latches s
  | .jtagExtestPulse t sampled latches => Sys2Proof.Machine.execJtagExtestPulse t sampled latches s
  | .jtagExtestTrain t sampled latches => Sys2Proof.Machine.execJtagExtestTrain t sampled latches s
  | .jtagClamp t => Sys2Proof.Machine.execJtagClamp t s
  | .jtagHighz t => Sys2Proof.Machine.execJtagHighz t s
  | .jtagDbgAccess t addr ow => Sys2Proof.Machine.execJtagDbgAccess t addr ow s
  | .dbgMemRead t ini => Sys2Proof.Machine.execDbgMemRead t ini s
  | .blankLRise t => Sys2Proof.Machine.execBlankLRise t s
  | .emitEnRise t => Sys2Proof.Machine.execEmitEnRise t s
  | .bndEnable t ini w => Sys2Proof.Machine.execBndEnable t ini w s
  | .brownoutEnd t r => Sys2Proof.Machine.execBrownoutEnd t r s
  | .imagesVerified t => Sys2Proof.Machine.execImagesVerified t s
  | .idReady t => Sys2Proof.Machine.execIdReady t s
  | .bedTestStart t => Sys2Proof.Machine.execBedTestStart t s
  | .unknownControlBlock t lane => Sys2Proof.Machine.execUnknownControlBlock t lane s

end Sys2Proof.Machine
end

