-- ==== Sys2Proof/Safety.lean ====
section
/-! DEFINITION. What the statements about the machine are said with: the moment at which a command acts, when it acts, the state
it leaves, and what a run that never stops is. -/
namespace Sys2Proof

/-- The model time at which a command happens (log entry 6). -/
def Instr.time : Instr → Nat
  | .xspiRead t _ _ => t
  | .xspiPageProgram t _ _ => t
  | .xspiReadStatus t => t
  | .xspiWriteEnable t => t
  | .xspiSoftwareReset t => t
  | .xspiBadCommand t => t
  | .mgmtWrite t _ _ => t
  | .mgmtRead t _ _ => t
  | .setdasa t _ => t
  | .entdaa t _ => t
  | .rstdaa t => t
  | .registerWrite t _ _ _ => t
  | .rcRegisterRead t _ _ => t
  | .eventPendingClear t _ _ _ => t
  | .pageLockSet t _ _ => t
  | .mbxSelectWrite t _ _ _ => t
  | .mbxSnapshot t _ _ => t
  | .bitAliasWrite t _ _ _ => t
  | .powerOn t _ _ => t
  | .resetLAssert t => t
  | .resetLRelease t => t
  | .pwrgoodFall t => t
  | .pwrgoodRise t => t
  | .brownout t _ => t
  | .supplyOutOfWindow t _ => t
  | .supplyRestored t => t
  | .softReset t _ => t
  | .bootEntry t => t
  | .requestStandby t _ => t
  | .requestArmed t _ => t
  | .requestScanning t _ => t
  | .requestSafeHold t _ => t
  | .stateRequestOther t _ _ => t
  | .timingPllLock t => t
  | .timingPllUnlock t => t
  | .lanePllLock t => t
  | .auxPllLock t => t
  | .gateCtrlWrite t _ _ => t
  | .domainGated t => t
  | .domainRestored t => t
  | .domainSwitchTimeout t => t
  | .syncTimeFrameSend t => t
  | .syncInEdge t => t
  | .syncTimeFrameReceive t _ _ => t
  | .syncEventFrameReceive t _ _ => t
  | .syncFrameMissed t => t
  | .dtbLoad t _ _ => t
  | .dtbResync t _ _ => t
  | .deviceTimeSaturate t => t
  | .cellArm t _ => t
  | .cellAvalanche t _ _ _ => t
  | .timestampRelease t _ => t
  | .histogramIncrement t _ => t
  | .blankLFall t => t
  | .blankLong t _ => t
  | .latchClr t _ _ => t
  | .routeWrite t _ _ _ _ => t
  | .hopExecute t _ => t
  | .startPulse t _ _ => t
  | .startWindowClose t _ => t
  | .scaleLoopReference t _ _ => t
  | .calTableCommit t _ _ _ => t
  | .refCalCommit t _ _ _ => t
  | .slotTrigger t _ _ => t
  | .timedTriggerExpiry t _ _ => t
  | .ditherSequenceDone t => t
  | .ztabFetchDone t _ => t
  | .longBufferRelease t _ => t
  | .shotStart t => t
  | .bankFire t _ _ => t
  | .rangeGateOpen t _ => t
  | .rangeGateClose t _ => t
  | .gthVerdictPass t => t
  | .gthStale t => t
  | .gthScanReturn t => t
  | .gthChargeCheck t => t
  | .emitEnFall t _ => t
  | .emitEnStable t => t
  | .gthBudgetWrite t _ _ _ => t
  | .patternLoad t _ _ => t
  | .patternLoadDone t => t
  | .patternReadyWrite t _ _ => t
  | .syncSwap t => t
  | .bndDisable t _ _ => t
  | .bndTriggerSourceWrite t _ _ => t
  | .probeFire t _ _ => t
  | .probeLate t _ => t
  | .segFaultClear t _ _ _ => t
  | .loopSampleTime t _ => t
  | .loopUpdate t => t
  | .pwmPeriodStart t _ => t
  | .ftnEnableWrite t _ _ _ => t
  | .ftnCloseWrite t _ _ _ => t
  | .ftnSpWrite t _ _ _ => t
  | .sarConversionDone t _ _ => t
  | .sarRoutineDue t _ => t
  | .sincOutput t _ _ => t
  | .notchWindowEnd t _ => t
  | .clampConduction t _ _ => t
  | .wireCheckStart t _ => t
  | .wireCheckDone t _ => t
  | .excWrite t _ _ _ => t
  | .pmpDisable t _ _ => t
  | .sdEnableWrite t _ _ _ => t
  | .cscServicePoint t _ => t
  | .cscOutputRelease t _ => t
  | .cscEnableWrite t _ _ => t
  | .cscChannelConfigWrite t _ _ _ => t
  | .timeoutTrigger t _ => t
  | .blvArm t _ _ => t
  | .blvAbort t _ _ => t
  | .blvForce t _ _ => t
  | .blvTimeoutEnd t => t
  | .blvMaskTestDone t => t
  | .blvDumpDone t => t
  | .blvReadData t _ => t
  | .scanWord t _ => t
  | .channelExtraction t _ => t
  | .slotMarkerDelivery t _ => t
  | .echoRecordDelivery t _ => t
  | .gzbDisable t _ _ _ => t
  | .gzbListenWrite t _ _ => t
  | .ditherWrite t _ _ _ => t
  | .orgClear t _ _ => t
  | .orgDisable t _ _ _ => t
  | .orgModeWrite t _ _ _ => t
  | .orgWindowAccess t _ _ => t
  | .zoomWindowAccess t _ _ => t
  | .slotHeaderCommit t => t
  | .packetSend t => t
  | .markerSend t => t
  | .amColumnSend t => t
  | .cdrLock t _ => t
  | .blockLockAcquire t _ => t
  | .invalidHeaderReceive t _ => t
  | .amBlockReceive t _ _ _ => t
  | .amLockLoss t _ => t
  | .losAssert t _ => t
  | .losClear t _ => t
  | .lossOfLock t _ => t
  | .xoffReceive t => t
  | .xonReceive t _ => t
  | .xoffLong t => t
  | .pstateWrite t _ _ _ => t
  | .loopbackWrite t _ _ => t
  | .prbsWrite t _ _ _ => t
  | .prbsBitError t _ => t
  | .sgmiiControlWord t _ _ _ _ => t
  | .dmaEnable t _ _ _ => t
  | .dmaDisable t _ _ _ => t
  | .dmaCommonDisable t _ => t
  | .dmaDescriptorFetch t _ => t
  | .dmaBeatIssue t => t
  | .dmaWriteResponse t _ => t
  | .dmaErrorResponse t _ _ => t
  | .dmaRingReset t _ _ _ _ => t
  | .dmaRdPtrWrite t _ _ _ => t
  | .channelAVerdict t => t
  | .verdictLatencyExpiry t => t
  | .channelBTimeout t => t
  | .outputMessageTimeout t => t
  | .fsCrcRecheck t => t
  | .coverageExpiry t _ => t
  | .ossdTestWindowStart t _ => t
  | .ossdTestWindowEnd t _ => t
  | .ossdReadbackChange t _ _ => t
  | .tpoPulseStart t _ => t
  | .tpoPulseEnd t _ _ _ _ => t
  | .sinFilterChange t _ _ => t
  | .lodgeMsTick t => t
  | .sinDiscFault t _ => t
  | .lodgeKind3Entry t => t
  | .restartDelayExpiry t => t
  | .fsPrepDone t => t
  | .fsOverlapEnd t => t
  | .statusPduSend t => t
  | .commandPduReceive t _ _ => t
  | .commandPairTimeout t => t
  | .netWatchdogExpiry t => t
  | .ldgFaultClear t _ _ => t
  | .calStart t _ _ => t
  | .calAutoStart t => t
  | .calRunEnd t => t
  | .calAbort t _ _ => t
  | .thermalConversionDone t _ _ => t
  | .readingStale t _ => t
  | .otpProgramGo t _ _ => t
  | .otpProgramDone t _ => t
  | .otpReadData t _ => t
  | .secBootGo t _ => t
  | .tokenDebugUnlock t _ => t
  | .tokenInstallCustomer t _ => t
  | .tokenRevoke t _ => t
  | .tokenRaiseSvn t _ => t
  | .tokenUnknownOp t _ => t
  | .attestationGo t _ => t
  | .reservationOpen t => t
  | .attestationDone t => t
  | .secReportRead t _ => t
  | .logPopWrite t _ _ => t
  | .logClear t _ => t
  | .softEvent t _ => t
  | .eventCounterLoad t _ _ _ => t
  | .pglRunStart t _ _ _ => t
  | .pglRunStop t _ _ _ => t
  | .pglModeWrite t _ _ _ => t
  | .pglLoad t _ _ => t
  | .pglLoadDone t _ => t
  | .pglMemoryAccess t _ _ _ _ => t
  | .codeWindowWrite t _ _ => t
  | .pglNop t _ => t
  | .pglHalt t _ => t
  | .pglTrap t _ => t
  | .pglMov t _ => t
  | .pglLdi t _ => t
  | .pglLd t _ => t
  | .pglSt t _ => t
  | .pglLdst t _ => t
  | .pglGett t _ => t
  | .pglAdd t _ => t
  | .pglSub t _ => t
  | .pglAnd t _ => t
  | .pglOr t _ => t
  | .pglXor t _ => t
  | .pglShl t _ => t
  | .pglShr t _ => t
  | .pglCmp t _ => t
  | .pglMax t _ => t
  | .pglMin t _ => t
  | .pglAbs t _ => t
  | .pglMpy t _ => t
  | .pglMac t _ => t
  | .pglMsu t _ => t
  | .pglAadd t _ => t
  | .pglLda t _ => t
  | .pglSta t _ => t
  | .pglDstep t _ => t
  | .pglClrf t _ => t
  | .pglBr t _ => t
  | .pglCall t _ => t
  | .pglRet t _ => t
  | .pglLbr t _ => t
  | .pglAdv t _ => t
  | .pglPop t _ => t
  | .pglPopResume t _ => t
  | .pglPusho t _ => t
  | .pglSend t _ => t
  | .pglSendResume t _ => t
  | .pglLsend t _ => t
  | .pglZld t _ => t
  | .pglZldWriteback t _ => t
  | .pglBrpt t _ => t
  | .pglIllegalOpcode t _ => t
  | .tapReset t => t
  | .jtagBypass t _ => t
  | .jtagIdcode t => t
  | .jtagSamplePreload t _ _ => t
  | .jtagExtest t _ _ => t
  | .jtagExtestPulse t _ _ => t
  | .jtagExtestTrain t _ _ => t
  | .jtagClamp t => t
  | .jtagHighz t => t
  | .jtagDbgAccess t _ _ => t
  | .dbgMemRead t _ => t
  | .blankLRise t => t
  | .emitEnRise t => t
  | .bndEnable t _ _ => t
  | .brownoutEnd t _ => t
  | .imagesVerified t => t
  | .idReady t => t
  | .bedTestStart t => t
  | .unknownControlBlock t _ => t

/-- Commands that act in RESET too: supplies, resets, PLLs, pins and the test access port. -/
def Instr.actsInReset : Instr → Bool
  | .powerOn _ _ _ => true
  | .resetLAssert _ => true
  | .resetLRelease _ => true
  | .pwrgoodFall _ => true
  | .pwrgoodRise _ => true
  | .brownout _ _ => true
  | .supplyOutOfWindow _ _ => true
  | .supplyRestored _ => true
  | .bootEntry _ => true
  | .timingPllLock _ => true
  | .timingPllUnlock _ => true
  | .lanePllLock _ => true
  | .auxPllLock _ => true
  | .blankLFall _ => true
  | .emitEnFall _ _ => true
  | .tapReset _ => true
  | .jtagBypass _ _ => true
  | .jtagIdcode _ => true
  | .jtagSamplePreload _ _ _ => true
  | .jtagExtest _ _ _ => true
  | .jtagExtestPulse _ _ _ => true
  | .jtagExtestTrain _ _ _ => true
  | .jtagClamp _ => true
  | .jtagHighz _ => true
  | .jtagDbgAccess _ _ _ => true
  | .blankLRise _ => true
  | .emitEnRise _ => true
  | .brownoutEnd _ _ => true
  | _ => false

/-- Commands that can store to shared SRAM: port transfers to it, DMA beats and the error that ends one, Belvedere's dump, JTAG access. -/
def Instr.storesSram : Instr → Bool
  | .xspiPageProgram _ _ _ => true
  | .registerWrite _ _ _ _ => true
  | .dmaBeatIssue _ => true
  | .dmaErrorResponse _ _ _ => true
  | .blvDumpDone _ => true
  | .jtagDbgAccess _ _ _ => true
  | _ => false

namespace Machine

/-! ### The moment of a command -/

/-- The device at the moment a command of time t acts. -/
def State.begun (s : State) (t : Nat) : Dev := s.dev.begin t s.mem

/-- The state with another device. -/
def State.put (s : State) (d : Dev) : State := { s with dev := d }

/-- The state at the moment a command of time t acts. -/
def State.ready (s : State) (t : Nat) : State := s.put (s.begun t)

/-- The device is out of RESET when a command of time t acts. -/
def State.up (s : State) (t : Nat) : Bool := (s.begun t).awake

/-- The device is out of RESET, and domain k functions. -/
def State.upIn (s : State) (t k : Nat) : Bool := s.up t && !(s.begun t).down k

/-- An initiator is served when a command of time t acts. -/
def State.servedTo (s : State) (t : Nat) (ini : Initiator) : Bool := s.up t && (s.begun t).reaches ini

/-- The device as a write of a register lands on its page (R35, R353). -/
def State.landed (s : State) (t p off : Nat) : Dev := (s.begun t).landing p off

/-- A write of the register at `off` of page `p` by an initiator at time t reaches it. -/
def State.writable (s : State) (t : Nat) (ini : Initiator) (p off : Nat) : Bool :=
  s.servedTo t ini && !(s.landed t p off).dead p off

/-- The register at `off` of page `p` takes a written word by its access codes (R13, R442). -/
def Dev.merged (p off : Nat) (w : Word) (d : Dev) : Dev :=
  match regDef p off with
  | some r => d.mergeWrite r p off w
  | none => d

/-! ### Pergola -/

/-- The fields of the instruction at core k's PC. -/
def Dev.pglFront (d : Dev) (k : Nat) : PglFields := pglFields (d.codeWord k (d.fld (pglPage k) PGL_PC_PC))

/-- Core k runs, and the instruction at its PC has opcode `op`, when a command of time t acts. -/
def State.runsOp (s : State) (t k op : Nat) : Bool :=
  let d := s.begun t
  s.up t && k < 32 && d.coreState k == pglRunning && !d.gated (4 + k / 8) && !d.codeRangeBad k (d.fld (pglPage k) PGL_PC_PC)
    && (d.pglFront k).op == op

/-- The fields of that instruction. -/
def State.pglFlds (s : State) (t k : Nat) : PglFields := (s.begun t).pglFront k

/-- Core k with the ZLDs landed that are due and the corrections of the words it reads counted: what the instruction of a command of
time t acts on (R301, R308). -/
def State.pglDev (s : State) (t k : Nat) : Dev :=
  let d := (s.begun t).zldDue k
  d.corrects k ((d.getCore k).corrected (s.pglFlds t k).reads)

/-- An instruction at `pc` that used the memory fields `ms` has been executed, and the next address follows (R308, R310). -/
def Dev.pglAfter (k pc : Nat) (ms : List Nat) (d : Dev) : Dev :=
  let e := d.executed k (accesses ms)
  e.setPc k (repeatNext pc (e.getCore k).reps)

/-- The same with a taken branch. -/
def Dev.pglJump (k target : Nat) (d : Dev) : Dev := (d.executed k 0).setPc k (target % 65536, [])

/-! ### Safe runs -/

/-- The canonical form of shared SRAM: addresses strictly rising, no byte listed that reads as an unlisted one does. -/
abbrev Memory.wf (m : List Host.Cell) : Bool := SMap.wf (fun _ => 0) m

/-- A safe run: n steps from a state stop nowhere. -/
def State.safeFor (n : Nat) (s : State) : Prop := ∃ s', Host.Core.run core n s = .next s'

end Machine
end Sys2Proof
end

