-- ==== Sys2Proof/Certificates/Slice0/Obligations.lean ====
section
/-! DEFINITION. The statements for the provers. -/
open Sys2Proof Sys2Proof.Machine

/-- For every command, queue and state, a step of the state with that command in front is exec of the command on the state with the rest of
the queue. (01_architecture.md, 20_registers_events.md) -/
def Obligations.StepRunsTheFrontCommand : Prop :=
  ∀ (c : Instr) (cs : List Instr) (s : State), step { s with pending := c :: cs } = exec c { s with pending := cs }

/-- A step of a state whose queue is empty answers that state. That time-driven effects wait for the next command is the model's own choice,
log entry 1. (01_architecture.md) -/
def Obligations.EmptyQueueIdles : Prop :=
  ∀ s : State, s.pending = [] → step s = .next s

/-- Whatever command acts on whatever state, when it answers a next state the waiting commands are the same. (01_architecture.md) -/
def Obligations.CommandsKeepTheQueue : Prop :=
  ∀ (c : Instr) (s s' : State), exec c s = .next s' → s'.pending = s.pending

/-- No command stops the machine, whatever its operands and whatever the state: there is no refusal and no fault. (01_architecture.md,
95_what_each_step_holds.md) -/
def Obligations.EveryCommandAnswersANextState : Prop :=
  ∀ (c : Instr) (s : State), ∃ u, exec c s = .next u

/-- A read of no word of the control or management port answers the device as its moment finds it with no word received, and a write of none
the device as its moment finds it; nothing is counted. That such a transfer is no bad command is the model's own choice, log entry 4.
(20_registers_events.md) -/
def Obligations.EmptyTransfersMoveNothing : Prop :=
  ∀ (s : State) (t a : Nat), s.up t = true →
    exec (.xspiRead t a 0) s = .next (s.put ((s.begun t).deliver2 .control [])) ∧
    exec (.mgmtRead t a 0) s = .next (s.put ((s.begun t).deliver2 .management [])) ∧
    exec (.xspiPageProgram t a []) s = .next (s.ready t) ∧ exec (.mgmtWrite t a []) s = .next (s.ready t)

/-- From every state, any number of steps answers a next state. (01_architecture.md, 20_registers_events.md) -/
def Obligations.RunsNeverStop : Prop :=
  ∀ (n : Nat) (s : State), s.safeFor n

/-- A command with an operand out of range leaves the state that its moment finds. That it does is the model's own choice, log entry 4.
(00_scope.md) -/
def Obligations.IllFormedOperandsOnlyPassTime : Prop :=
  ∀ (c : Instr) (s : State), c.wf = false → exec c s = .next (s.ready c.time)

/-- While the device is in RESET when a command acts (Table 21-3: host ports not served), a well-formed command that is none of these leaves
the state that its moment finds. (21_power_startup.md) -/
def Obligations.ResetOnlyPassesTime : Prop :=
  ∀ (c : Instr) (s : State), c.wf = true → c.actsInReset = false → s.up c.time = false → exec c s = .next (s.ready c.time)

/-- From every state whose shared SRAM lists rising addresses and no byte that reads as an unlisted one does, a step that answers a next state
leaves such a state. (01_architecture.md, 20_registers_events.md) -/
def Obligations.EveryStepKeepsSramCanonical : Prop :=
  ∀ s s' : State, Memory.wf s.mem = true → step s = .next s' → Memory.wf s'.mem = true

/-- After reset shared SRAM is in its canonical form and nothing waits; the event log is empty, no acquisition runs, every Pergola core is
STOPPED, every page's EVENT_RAW is 0 and its EVENT_MASK all ones, PWR.RESET_CAUSE is power-on. That the model begins in BOOT on the IS
variant with every domain powered is its own choice, log entry 1. (20_registers_events.md, 21_power_startup.md, 23_debug_test.md) -/
def Obligations.ResetStateFacts : Prop :=
  Memory.wf State.reset.mem = true ∧ State.reset.pending = [] ∧ State.reset.dev.evm.log = [] ∧ State.reset.dev.bnd.acq = none ∧
    (∀ k, k < 32 → State.reset.dev.coreState k = 1) ∧ (∀ p, p < 0xB5 → State.reset.dev.reg p EVENT_RAW = 0) ∧
    (∀ p, p < 0xB5 → State.reset.dev.reg p EVENT_MASK = 0xFFFFFFFF) ∧ State.reset.dev.fld 0x01 PWR_RESET_CAUSE_CAUSE = 1 ∧
    State.reset.dev.devState = stBoot ∧ State.reset.dev.hasLodge = true ∧ (∀ k, k < 9 → State.reset.dev.gated k = false)

/-- Every command outside the named ones, when it answers a next state, leaves every byte of shared SRAM as it was. (20_registers_events.md,
15_dma.md, 13_belvedere_capture.md) -/
def Obligations.OtherCommandsLeaveSram : Prop :=
  ∀ (c : Instr) (s s' : State), c.storesSram = false → exec c s = .next s' → ∀ a, memByte s'.mem a = memByte s.mem a

/-- A register-write command of the control port, JTAG or DMA whose address is an aligned one below 8 MiB answers the state with bytes 0 to 3
of the word at that address and the three after it; every other byte reads as before, and the device is as its moment finds it. The
management port does not reach shared SRAM: its write there counts in DEV.BAD_ADDR and leaves every byte. (20_registers_events.md,
00_scope.md) -/
def Obligations.SramStoreWritesItsFourBytes : Prop :=
  (∀ (s : State) (t a : Nat) (ini : Initiator) (w : Word),
    s.up t = true → (s.begun t).reaches ini = true → ini ≠ .management → a % 4 = 0 → a < 0x800000 →
    ∃ s', exec (.registerWrite t ini a w) s = .next s' ∧ s'.dev = s.begun t ∧ s'.pending = s.pending ∧
      (∀ i, i < 4 → memByte s'.mem (a + i) = w.extractLsb' (8 * i) 8) ∧
      (∀ x, x < a ∨ a + 4 ≤ x → memByte s'.mem x = memByte s.mem x)) ∧
  (∀ (s : State) (t a : Nat) (w : Word), s.up t = true → a < 0x800000 →
    exec (.registerWrite t .management a w) s = .next (s.put (s.begun t).badAddr))

/-- XSPI_READ, MGMT_I2C_READ and RC_REGISTER_READ leave on their port the words read from rising addresses, but for words that lie in the data
memory of one running core, which empty the control port (the management port reaches no core memory) and wait in the core's queue of
accesses; XSPI_PAGE_PROGRAM, MGMT_I2C_WRITE and REGISTER_WRITE write their words to rising addresses; BIT_ALIAS_WRITE writes the one bit
of the register, the bits beside it keeping their values, and for the registers whose write acts through such bits only what the one bit
does; an initiator whose way is locked leaves the state as its moment finds it. (20_registers_events.md, 01_architecture.md,
14_pergola_dsp.md) -/
def Obligations.PortTransfersComplete : Prop :=
  (∀ (s : State) (t a n : Nat), s.up t = true → (s.begun t).runningWords .control n a = none →
    exec (.xspiRead t a n) s = .next (let r := (s.ready t).readWords .control n a
      { r.2 with dev := { r.2.dev with ports := { r.2.dev.ports with ctrlOut := r.1 } } })) ∧
  (∀ (s : State) (t a n : Nat), s.up t = true →
    exec (.mgmtRead t a n) s = .next (let r := (s.ready t).readWords .management n a
      { r.2 with dev := { r.2.dev with ports := { r.2.dev.ports with mgmtOut := r.1 } } })) ∧
  (∀ (s : State) (t a n k w : Nat), s.up t = true → (s.begun t).runningWords .control n a = some (k, w) →
    exec (.xspiRead t a n) s = .next (s.put ((List.range n).foldl (fun d i => d.pglAccess .control k (w + i) none)
      { s.begun t with ports := { (s.begun t).ports with ctrlOut := [] } }))) ∧
  (∀ (s : State) (t a : Nat) (ws : List Word), s.up t = true →
    exec (.xspiPageProgram t a ws) s = .next ((s.ready t).writeWords .control ws a)) ∧
  (∀ (s : State) (t a : Nat) (ws : List Word), s.up t = true →
    exec (.mgmtWrite t a ws) s = .next ((s.ready t).writeWords .management ws a)) ∧
  (∀ (s : State) (t a : Nat) (ini : Initiator) (w : Word), s.servedTo t ini = true →
    exec (.registerWrite t ini a w) s = .next ((s.ready t).placeWrite ini (placeOf ini (a % 2 ^ 32)) w)) ∧
  (∀ (s : State) (t a : Nat) (ini : Initiator), s.servedTo t ini = true → (s.begun t).runningWords ini 1 a = none →
    exec (.rcRegisterRead t ini a) s = .next (let r := (s.ready t).placeRead ini (placeOf ini (a % 2 ^ 32))
      { r.2 with dev := r.2.dev.deliver2 ini [r.1] })) ∧
  (∀ (s : State) (t a k w : Nat) (ini : Initiator), s.servedTo t ini = true → (s.begun t).runningWords ini 1 a = some (k, w) →
    exec (.rcRegisterRead t ini a) s = .next (s.put (((s.begun t).deliver2 ini []).pglAccess ini k w none))) ∧
  (∀ (s : State) (t a : Nat) (ini : Initiator) (w : Word), s.servedTo t ini = true → ini ≠ .jtag →
    0x60000000 ≤ a → a < 0x616A0000 → a % 4 = 0 →
    exec (.bitAliasWrite t ini a w) s = .next (s.put (
      let d := s.begun t
      let r := (a - 0x60000000) / 128 * 4
      let b := (a - 0x60000000) / 4 % 32
      let x := setBits (d.heldWord ini (r / 0x1000) (r % 0x1000) &&& holdMask (r / 0x1000) (r % 0x1000)) b b (bitAt w.toNat 0).toNat
      match d.aliasApart (r / 0x1000) (r % 0x1000) b x with
      | some e => e
      | none => d.pageWrite s.mem ini (r / 0x1000) (r % 0x1000) x))) ∧
  (∀ (s : State) (t a : Nat) (ini : Initiator) (w : Word), s.up t = true → (s.begun t).reaches ini = false →
    exec (.registerWrite t ini a w) s = .next (s.ready t) ∧ exec (.rcRegisterRead t ini a) s = .next (s.ready t) ∧
    exec (.bitAliasWrite t ini a w) s = .next (s.ready t))

/-- XSPI_READ_STATUS_REGISTER answers one word of zero; XSPI_WRITE_ENABLE changes nothing; XSPI_SOFTWARE_RESET empties the port's answer;
XSPI_BAD_COMMAND counts in DEV.BAD_CMD, with the event DEV_PORT_ERR at the first count after a read; SETDASA and ENTDAA give a management
port without a dynamic address its address, ENTDAA after the port has sent its provisional ID (whose place in the factory area is the
model's choice, log entry 87); RSTDAA takes it away. (20_registers_events.md) -/
def Obligations.PortCommandsComplete : Prop :=
  (∀ (s : State) (t : Nat), s.up t = true →
    exec (.xspiReadStatus t) s = .next (s.put { s.begun t with ports := { (s.begun t).ports with ctrlOut := [0] } }) ∧
    exec (.xspiWriteEnable t) s = .next (s.ready t) ∧
    exec (.xspiSoftwareReset t) s = .next (s.put { s.begun t with ports := { (s.begun t).ports with ctrlOut := [] } }) ∧
    exec (.rstdaa t) s = .next (s.put (((s.begun t).setFld 0x00 DEV_PORT_STATUS_I3C 0).setFld 0x00 DEV_PORT_STATUS_DYN_ADDR 0))) ∧
  (∀ (s : State) (t : Nat), s.up t = true → ((s.begun t).bump 0x00 DEV_BAD_CMD).wasSeen 0x00 DEV_BAD_CMD = false →
    exec (.xspiBadCommand t) s = .next (s.put ((((s.begun t).bump 0x00 DEV_BAD_CMD).markSeen 0x00 DEV_BAD_CMD).raise 0x00 3))) ∧
  (∀ (s : State) (t : Nat), s.up t = true → ((s.begun t).bump 0x00 DEV_BAD_CMD).wasSeen 0x00 DEV_BAD_CMD = true →
    exec (.xspiBadCommand t) s = .next (s.put ((s.begun t).bump 0x00 DEV_BAD_CMD))) ∧
  (∀ (s : State) (t a7 : Nat), s.up t = true → a7 < 128 → (s.begun t).on 0x00 DEV_PORT_STATUS_I3C = false →
    exec (.setdasa t a7) s = .next (s.put (((s.begun t).setFld 0x00 DEV_PORT_STATUS_I3C 1).setFld 0x00 DEV_PORT_STATUS_DYN_ADDR a7)) ∧
    exec (.entdaa t a7) s = .next (s.put ((((s.begun t).deliver2 .management provisionalId).setFld 0x00 DEV_PORT_STATUS_I3C 1).setFld 0x00 DEV_PORT_STATUS_DYN_ADDR a7)))

/-- EVENT_PENDING_CLEAR clears in EVENT_RAW the bits written 1; PAGE_LOCK_SET sets the lock of an unlocked page; MBX_SELECT_WRITE notes the
selection and clears VALID; MBX_SNAPSHOT takes the selected snapshot and sets VALID; LOG_POP_WRITE drops the entries up to the one named;
LOG_CLEAR empties the log; SOFT_EVENT raises its event; EVENT_COUNTER_LOAD loads the counter. (20_registers_events.md) -/
def Obligations.CommonRegisterCommandsComplete : Prop :=
  (∀ (s : State) (t p : Nat) (ini : Initiator) (w : Word), p < 0xB5 → s.writable t ini p EVENT_PENDING = true →
    exec (.eventPendingClear t ini p w) s
      = .next (s.put ((s.begun t).setReg p EVENT_RAW ((s.begun t).reg p EVENT_RAW &&& ~~~w)))) ∧
  (∀ (s : State) (t p : Nat) (ini : Initiator), p < 0xB5 → s.writable t ini p PAGE_LOCK = true →
    (s.landed t p PAGE_LOCK).locked p = false →
    exec (.pageLockSet t ini p) s = .next (s.put (
      if 0xB0 ≤ p ∧ p ≤ 0xB3 then ((s.landed t p PAGE_LOCK).setReg p PAGE_LOCK 1).ldgLocked s.mem
      else (s.landed t p PAGE_LOCK).setReg p PAGE_LOCK 1))) ∧
  (∀ (s : State) (t p : Nat) (ini : Initiator) (w : Word), p < 0xB5 → s.writable t ini p MBX_SELECT = true →
    exec (.mbxSelectWrite t ini p w) s = .next (s.put ((s.begun t).setMailbox ini p
      { (s.begun t).mailbox ini p with sel := w.toNat % 65536, due := true, valid := false }))) ∧
  (∀ (s : State) (t p : Nat) (ini : Initiator), p < 0xB5 → s.up t = true → ((s.begun t).mailbox ini p).due = true →
    exec (.mbxSnapshot t ini p) s = .next (s.put ((s.begun t).setMailbox ini p { (s.begun t).mailbox ini p with
      due := false, valid := true, data := (s.begun t).snapshot p ((s.begun t).mailbox ini p).sel }))) ∧
  (∀ (s : State) (t : Nat) (ini : Initiator) (seq : Word), s.servedTo t ini = true →
    exec (.logPopWrite t ini seq) s = .next (s.put (
      let d := Dev.merged 0x02 EVM_LOG_POP seq (s.begun t)
      let i := d.evm.log.findIdx (fun e => e.seq == seq.toNat)
      { d with evm := { d.evm with log := if i < d.evm.log.length then d.evm.log.drop (i + 1) else d.evm.log } }))) ∧
  (∀ (s : State) (t : Nat) (ini : Initiator), s.servedTo t ini = true →
    exec (.logClear t ini) s = .next (s.put (
      let d := Dev.merged 0x02 EVM_LOG_CTRL 1 (s.begun t)
      { d with evm := { d.evm with log := [] } })) ∧
    exec (.softEvent t ini) s = .next (s.put ((Dev.merged 0x02 EVM_SOFT 1 (s.begun t)).raise 0x02 2))) ∧
  (∀ (s : State) (t n : Nat) (ini : Initiator) (w : Word), n < 16 → s.servedTo t ini = true →
    exec (.eventCounterLoad t ini n w) s = .next (s.put ((s.begun t).setReg 0x02 (EVM_CNT + 4 * n) w)))

/-- POWER_ON puts the machine into RESET with cause power-on and the two pins at the levels given; RESET_L_ASSERT, PWRGOOD_FALL, BROWNOUT of a
rail with a brown-out level and SOFT_RESET put a device out of RESET into it with causes 2, 3, 4 and 5; RESET_L_RELEASE, PWRGOOD_RISE and
BROWNOUT_END end a cause in force and note the moment; BOOT_ENTRY enters BOOT 50 us after the last cause ended. (21_power_startup.md) -/
def Obligations.ResetCausesComplete : Prop :=
  (∀ (s : State) (t : Nat) (pwrgood resetL : Bool), exec (.powerOn t pwrgood resetL) s = .next (s.put ((Dev.inReset 1 true { s.begun t with
      pwr := { causes := (if resetL then 0 else 4) + (if pwrgood then 0 else 8), freeAt := (s.begun t).now,
               railAt := (s.begun t).now } }).setFld 0x01 PWR_STATUS_SUPPLY_OK pwrgood.toNat))) ∧
  (∀ (s : State) (t : Nat), s.up t = true → bitAt (s.begun t).pwr.causes 2 = false →
    exec (.resetLAssert t) s = .next (s.put (Dev.inReset 2 false { s.begun t with
      pwr := { (s.begun t).pwr with causes := withBit (s.begun t).pwr.causes 2 } }))) ∧
  (∀ (s : State) (t : Nat), s.up t = true → bitAt (s.begun t).pwr.causes 3 = false →
    exec (.pwrgoodFall t) s = .next (s.put ((Dev.inReset 3 false { s.begun t with
      pwr := { (s.begun t).pwr with causes := withBit (s.begun t).pwr.causes 3 } }).setFld 0x01 PWR_STATUS_PWRGOOD 0))) ∧
  (∀ (s : State) (t r : Nat), s.up t = true → r = 0 ∨ r = 1 ∨ r = 6 → bitAt (s.begun t).pwr.causes (8 + r) = false →
    exec (.brownout t r) s = .next (s.put (Dev.inReset 4 false { s.begun t with
      pwr := { (s.begun t).pwr with causes := withBit (s.begun t).pwr.causes (8 + r) } }))) ∧
  (∀ (s : State) (t : Nat), bitAt (s.begun t).pwr.causes 2 = true →
    exec (.resetLRelease t) s = .next (s.put { s.begun t with
      pwr := { (s.begun t).pwr with causes := withoutBit (s.begun t).pwr.causes 2, freeAt := (s.begun t).now } })) ∧
  (∀ (s : State) (t : Nat), bitAt (s.begun t).pwr.causes 3 = true →
    exec (.pwrgoodRise t) s = .next (s.put (Dev.setFld { s.begun t with
      pwr := { (s.begun t).pwr with causes := withoutBit (s.begun t).pwr.causes 3, freeAt := (s.begun t).now } }
      0x01 PWR_STATUS_PWRGOOD 1))) ∧
  (∀ (s : State) (t r : Nat), r = 0 ∨ r = 1 ∨ r = 6 → bitAt (s.begun t).pwr.causes (8 + r) = true →
    exec (.brownoutEnd t r) s = .next (s.put { s.begun t with
      pwr := { (s.begun t).pwr with causes := withoutBit (s.begun t).pwr.causes (8 + r), freeAt := (s.begun t).now } })) ∧
  (∀ (s : State) (t : Nat) (ini : Initiator), s.servedTo t ini = true →
    exec (.softReset t ini) s = .next (s.put (
      let d := Dev.merged 0x01 PWR_RESET_CTRL 0x52E50001 (s.begun t)
      Dev.inReset 5 false { d with pwr := { d.pwr with freeAt := max d.pwr.freeAt (d.now + 800000) } }))) ∧
  (∀ (s : State) (t : Nat), (s.begun t).devState = stReset → (s.begun t).pwr.causes = 0 →
    (s.begun t).pwr.freeAt + 4000000 ≤ (s.begun t).now →
    exec (.bootEntry t) s = .next (s.put (Dev.setState stBoot { s.begun t with
      otp := { (s.begun t).otp with bootAt := (s.begun t).now } })))

/-- SUPPLY_OUT_OF_WINDOW (a rail outside its window for 10 us) sets the rail's bit of SUPPLY_FLAG, clears SUPPLY_OK, increments SUPPLY_CNT and
raises PWR_SUPPLY, and in ARMED or SCANNING enters SAFE_HOLD; SUPPLY_RESTORED sets SUPPLY_OK once every rail has been inside for 1 ms;
BROWNOUT of a rail with a brown-out level resets the device with cause BROWNOUT. (R456) -/
def Obligations.RailOutOfWindowSafesTheDevice : Prop :=
  (∀ (s : State) (t r : Nat), r < 8 → exec (.supplyOutOfWindow t r) s = .next (s.put (
      let d : Dev := { s.begun t with pwr := { (s.begun t).pwr with railAt := (s.begun t).now } }
      let d := (((d.setBit 0x01 PWR_SUPPLY_FLAG r).setFld 0x01 PWR_STATUS_SUPPLY_OK 0).bump 0x01 PWR_SUPPLY_CNT).raise 0x01 3
      if d.devState = stArmed ∨ d.devState = stScanning then d.enterState stSafeHold else d))) ∧
  (∀ (s : State) (t : Nat), (s.begun t).pwr.railAt + 80000000 ≤ (s.begun t).now →
    exec (.supplyRestored t) s = .next (s.put ((s.begun t).setFld 0x01 PWR_STATUS_SUPPLY_OK 1))) ∧
  (∀ (s : State) (t r : Nat), s.up t = true → r = 0 ∨ r = 1 ∨ r = 6 → bitAt (s.begun t).pwr.causes (8 + r) = false →
    ∃ s', exec (.brownout t r) s = .next s' ∧ s'.dev.devState = stReset ∧ s'.dev.fld 0x01 PWR_RESET_CAUSE_CAUSE = 4)

/-- An allowed request records itself with no error and enters the state with its entry actions; a request that the table does not allow, a
request of another code among them, records its reason, and the device state is as it was. (21_power_startup.md) -/
def Obligations.StateRequestsComplete : Prop :=
  (∀ (s : State) (t : Nat) (ini : Initiator), s.servedTo t ini = true →
    let q (r : Nat) : Dev := Dev.merged 0x01 PWR_STATE_REQ (BitVec.ofNat 32 r) (s.begun t)
    ((q 3).requestRefusal stStandby = 0 → exec (.requestStandby t ini) s = .next (s.put (
      (((q 3).setFld 0x01 PWR_REQ_STATUS_LAST 3).setFld 0x01 PWR_REQ_STATUS_ERR 0).enterState stStandby))) ∧
    ((q 4).requestRefusal stArmed = 0 → exec (.requestArmed t ini) s = .next (s.put (
      (((q 4).setFld 0x01 PWR_REQ_STATUS_LAST 4).setFld 0x01 PWR_REQ_STATUS_ERR 0).enterState stArmed))) ∧
    ((q 5).requestRefusal stScanning = 0 → exec (.requestScanning t ini) s = .next (s.put (
      (((q 5).setFld 0x01 PWR_REQ_STATUS_LAST 5).setFld 0x01 PWR_REQ_STATUS_ERR 0).enterState stScanning))) ∧
    ((q 6).requestRefusal stSafeHold = 0 → exec (.requestSafeHold t ini) s = .next (s.put (
      (((q 6).setFld 0x01 PWR_REQ_STATUS_LAST 6).setFld 0x01 PWR_REQ_STATUS_ERR 0).enterState stSafeHold)))) ∧
  (∀ (s : State) (t r : Nat) (ini : Initiator), s.servedTo t ini = true → r < 8 → r < 3 ∨ r = 7 →
    exec (.stateRequestOther t ini r) s = .next (s.put (
      ((Dev.merged 0x01 PWR_STATE_REQ (BitVec.ofNat 32 r) (s.begun t)).setFld 0x01 PWR_REQ_STATUS_LAST r).setFld
        0x01 PWR_REQ_STATUS_ERR reqTransition)))

/-- When Table 21-4 does not allow a request or a condition fails, PWR.REQ_STATUS holds the request and the reason of the first condition of
the table that fails, and DEV.STATE is as before: from STANDBY ARMED is refused with 2 while the PLL is not locked, with 3 without
SUPPLY_OK, with 4 in thermal shut-down; SCANNING from ARMED with 5 while a page of R201 is not locked; SCANNING from elsewhere, and every
request from FAULT, with 1. (21_power_startup.md) -/
def Obligations.RefusedRequestsLeaveTheState : Prop :=
  (∀ (d : Dev) (r : Nat), r < 8 → d.requestRefusal r ≠ 0 →
    (d.stateRequest r).devState = d.devState ∧ (d.stateRequest r).fld 0x01 PWR_REQ_STATUS_LAST = r ∧
    (d.stateRequest r).fld 0x01 PWR_REQ_STATUS_ERR = d.requestRefusal r) ∧
  (∀ d : Dev, d.boundary = false → d.devState = stStandby →
    d.requestRefusal stArmed = (if d.pllLocked = false then 2 else if d.on 0x01 PWR_STATUS_SUPPLY_OK = false then 3
      else if d.on 0x06 THM_STATUS_SHUT = true then 4 else 0)) ∧
  (∀ d : Dev, d.boundary = false → d.devState = stArmed → d.armedRefusal = 0 →
    (d.requestRefusal stScanning = 5 ↔ ∃ p ∈ [0x06, 0x84, 0x85, 0x86, 0x87, 0x8E, 0x90, 0x91], d.locked p = false)) ∧
  (∀ d : Dev, d.devState ≠ stArmed → d.requestRefusal stScanning = 1) ∧
  (∀ (d : Dev) (r : Nat), d.devState = stFault → d.requestRefusal r = 1)

/-- TIMING_PLL_LOCK sets PLL_LOCKED, starts device time from 0 at the first lock and makes a follower re-acquire at a later one;
TIMING_PLL_UNLOCK clears it, counts, sets TIME_DISC and raises PWR_PLL_UNLOCK, leaving ARMED and SCANNING for SAFE_HOLD, and every terrace
that functions loses its scale lock; LANE_PLL_LOCK and AUX_PLL_LOCK set their bits once device time runs, and the transmitters count their
columns from the lane PLL's lock; GATE_CTRL_WRITE takes the word and PWR goes through the requests; DOMAIN_GATED and DOMAIN_RESTORED end
the switch in progress with the domain's contents lost and the next request acted on; DOMAIN_SWITCH_TIMEOUT after 1 ms enters FAULT.
(21_power_startup.md) -/
def Obligations.ClocksAndDomainsComplete : Prop :=
  (∀ (s : State) (t : Nat), (s.begun t).released = true → (s.begun t).pllLocked = false → (s.begun t).dtb.run = false →
    exec (.timingPllLock t) s = .next (s.put { (s.begun t).setFld 0x01 PWR_STATUS_PLL_LOCKED 1 with
      dtb := { (s.begun t).dtb with run := true, dt := 0 } })) ∧
  (∀ (s : State) (t : Nat), (s.begun t).released = true → (s.begun t).pllLocked = false → (s.begun t).dtb.run = true →
    exec (.timingPllLock t) s = .next (s.put (
      let d := (s.begun t).setFld 0x01 PWR_STATUS_PLL_LOCKED 1
      if d.isFollower then { d with dtb := { d.dtb with reacquire := true } } else d))) ∧
  (∀ (s : State) (t : Nat), (s.begun t).pllLocked = true →
    exec (.timingPllUnlock t) s = .next (s.put (
      let d := ((((s.begun t).setFld 0x01 PWR_STATUS_PLL_LOCKED 0).bump 0x01 PWR_UNLOCK_CNT).setFld 0x01 PWR_STATUS_TIME_DISC 1).raise 0x01 2
      let d := if d.devState = stArmed ∨ d.devState = stScanning then d.enterState stSafeHold else d
      [0, 1, 2, 3].foldl (fun (d : Dev) k => if d.down k then d else d.scaleLoss k) d))) ∧
  (∀ (s : State) (t : Nat), (s.begun t).dtb.run = true → (s.begun t).down 8 = false → (∃ n, n < 10 ∧ (s.begun t).laneState n < 2) →
    (s.begun t).on 0x01 PWR_STATUS_LANE_PLL_LOCKED = false →
    exec (.lanePllLock t) s = .next (s.put (Dev.setFld { s.begun t with prm := { (s.begun t).prm with lastAm := none, scramAt := none } }
      0x01 PWR_STATUS_LANE_PLL_LOCKED 1))) ∧
  (∀ (s : State) (t : Nat), (s.begun t).dtb.run = true →
    exec (.auxPllLock t) s = .next (s.put ((s.begun t).setFld 0x01 PWR_STATUS_AUX_PLL_LOCKED 1))) ∧
  (∀ (s : State) (t : Nat) (ini : Initiator) (w : Word), s.servedTo t ini = true →
    exec (.gateCtrlWrite t ini w) s = .next (s.put ((List.range 9).foldl (Dev.gateOne s.mem) (Dev.merged 0x01 PWR_GATE_CTRL w (s.begun t))))) ∧
  (∀ (s : State) (t k a : Nat), s.up t = true → (s.begun t).pwr.switch = some (k, true, a) →
    exec (.domainGated t) s = .next (s.put (
      let d := (s.begun t).dmaPowerHalt
      let d := if k < 4 then d.deliveriesLost s.mem k else d
      let d := (((d.domainLost k).setBit 0x01 PWR_GATE_STATUS (gateBit k)).bump 0x01 PWR_GATE_CNT).raise 0x01 0
      Dev.gateNext s.mem (Dev.setFld { d with pwr := { d.pwr with switch := none } } 0x01 PWR_GATE_STATUS_BUSY 0)))) ∧
  (∀ (s : State) (t k a : Nat), s.up t = true → (s.begun t).pwr.switch = some (k, false, a) →
    exec (.domainRestored t) s = .next (s.put (
      let d := (((s.begun t).domainLost k).clrBit 0x01 PWR_GATE_STATUS (gateBit k)).raise 0x01 1
      let d := if k < 4 then Dev.loopSync false { d with pwr := { d.pwr with switch := none } } (2 + k) else d
      Dev.gateNext s.mem (Dev.setFld { d with pwr := { d.pwr with switch := none } } 0x01 PWR_GATE_STATUS_BUSY 0)))) ∧
  (∀ (s : State) (t k a : Nat) (up : Bool), s.up t = true → (s.begun t).pwr.switch = some (k, up, a) → a + 80000000 ≤ (s.begun t).now →
    exec (.domainSwitchTimeout t) s = .next (s.put (((s.begun t).setFld 0x00 DEV_FAULT_CAUSE_PWR 1).enterState stFault)))

/-- A device that a cause puts into RESET is in RESET with that cause in RESET_CAUSE; every register but DEV.STATE, DEV.FAULT_CAUSE,
PWR.STATUS, PWR.RESET_CAUSE and GTH.STATUS reads its reset value, DEV.FAULT_CAUSE is kept; the event log, mailboxes, histograms, zoom
store, queues, cores, loops, DMA channels and time base are as after reset; OTP words are kept when none is being programmed, and so are
shared SRAM's (which the reset does not see), the levels of the pins and the rails' supervision. (21_power_startup.md,
20_registers_events.md) -/
def Obligations.ResetLeavesResetValues : Prop :=
  ∀ (d : Dev) (cause : Nat), 0 < cause → cause < 8 →
    let n := d.inReset cause false
    n.devState = stReset ∧ n.fld 0x01 PWR_RESET_CAUSE_CAUSE = cause ∧ n.reg 0x00 DEV_FAULT_CAUSE = d.reg 0x00 DEV_FAULT_CAUSE ∧
    (∀ p off, off < 0x1000 → (p, off) ∉ [(0x00, DEV_STATE), (0x00, DEV_FAULT_CAUSE), (0x01, PWR_STATUS), (0x01, PWR_RESET_CAUSE),
      (0x85, GTH_STATUS)] → n.reg p off = resetReg d.variant p off) ∧
    n.evm = {} ∧ n.mbx = [] ∧ n.bins = [] ∧ n.zoom = [] ∧ n.chan = [] ∧ n.cores = [] ∧ n.loops = [] ∧ n.dma = [] ∧ n.dtb = {} ∧
    n.bnd = {} ∧ n.prm = {} ∧ (d.otp.job = none → n.otp.words = d.otp.words ∧ n.otp.ecc = d.otp.ecc) ∧ n.blankLow = d.blankLow ∧ n.now = d.now ∧
    n.gth.emitEn = d.gth.emitEn ∧ n.ldg.raw = d.ldg.raw ∧ n.pwr = { d.pwr with switch := none }

/-- At a multiple of the TIME period a leader or a device in loop mode sends a TIME frame; a SYNC_IN edge dates a swap request on a standalone
device and on the leader also an EVENT frame, sent at the next free bit time; a TIME frame with a wrong CRC is counted, a right one sets
LOOP_DELAY in loop mode or the follower's error and its action; an EVENT frame dates the follower's swap request; a missed frame is
counted and the second in a row drops LOCKED; LOAD waits for the rule of R144 with the loaded value; RESYNC makes a follower acquire
again; a device time that would have carried out of bit 63 sets TIME_SAT and raises its event. (06_points_time.md) -/
def Obligations.TimeBaseCommandsComplete : Prop :=
  (∀ (s : State) (t : Nat), s.up t = true → (s.begun t).dtb.run = true → ((s.begun t).isLeader || (s.begun t).inLoop) = true →
    (s.begun t).edgeTime % (s.begun t).timePeriod ≤ 2 →
    exec (.syncTimeFrameSend t) s = .next (s.put (
      let d := s.begun t
      { d with dtb := { d.dtb with
          sent := d.dtb.sent ++ [syncFrame 0x5A (d.edgeTime - d.edgeTime % d.timePeriod)]
          busyUntil := d.now + syncBit * (81 + 8) } }))) ∧
  (∀ (s : State) (t : Nat), s.up t = true → (s.begun t).isFollower = false → (s.begun t).inLoop = false →
    exec (.syncInEdge t) s = .next (s.put (
      let d := (s.begun t).swapRequest (s.begun t).edgeTime
      if d.isLeader then d.eventFrameSend (s.begun t).edgeTime else d))) ∧
  (∀ (s : State) (t tm : Nat), s.up t = true → ((s.begun t).isFollower || (s.begun t).inLoop) = true →
    exec (.syncTimeFrameReceive t tm false) s = .next (s.put (Dev.bumpFirst 0x03 DTB_CRC_ERR 3 (s.begun t)))) ∧
  (∀ (s : State) (t tm : Nat), s.up t = true → (s.begun t).inLoop = true →
    exec (.syncTimeFrameReceive t tm true) s = .next (s.put (
      let d : Dev := { s.begun t with dtb := { (s.begun t).dtb with lastTm := tm, lastA := (s.begun t).edgeTime } }
      d.setFld 0x03 DTB_LOOP_DELAY_DELAY (toBits 16 (((s.begun t).edgeTime : Int) - (tm : Int)))))) ∧
  (∀ (s : State) (t tm : Nat), s.up t = true → (s.begun t).isFollower = true →
    exec (.syncTimeFrameReceive t tm true) s = .next (s.put (
      let d : Dev := { s.begun t with dtb := { (s.begun t).dtb with lastTm := tm, lastA := (s.begun t).edgeTime } }
      let e : Int := ((s.begun t).edgeTime : Int) - (d.fld 0x03 DTB_CABLE_DELAY_DELAY : Int) - (tm : Int)
      ((d.setFld 0x03 DTB_PHASE_ERR_E (toBits 16 (clampI (-32767) 32767 e))).setFld 0x03 DTB_STATUS_MISSED 0).follow e))) ∧
  (∀ (s : State) (t f : Nat), s.up t = true → (s.begun t).isFollower = true →
    exec (.syncEventFrameReceive t f true) s = .next (s.put ((s.begun t).swapRequest ((s.begun t).fullTime f))) ∧
    exec (.syncEventFrameReceive t f false) s = .next (s.put (Dev.bumpFirst 0x03 DTB_CRC_ERR 3 (s.begun t)))) ∧
  (∀ (s : State) (t : Nat), s.up t = true → (s.begun t).isFollower = true →
    exec (.syncFrameMissed t) s = .next (s.put (
      let n := min 255 ((s.begun t).fld 0x03 DTB_STATUS_MISSED + 1)
      let d := (s.begun t).setFld 0x03 DTB_STATUS_MISSED n
      if 2 ≤ n ∧ d.on 0x03 DTB_STATUS_LOCKED = true then
        { d.syncLoss with dtb := { d.syncLoss.dtb with reacquire := true } } else d))) ∧
  (∀ (s : State) (t : Nat) (ini : Initiator) (w : Word), s.servedTo t ini = true →
    let d := (Dev.merged 0x03 DTB_CTRL (forced DTB_CTRL_LOAD 1 w) (s.begun t)).dtbCtrlWritten ((s.begun t).reg 0x03 DTB_CTRL)
    d.isFollower = false →
    exec (.dtbLoad t ini w) s = .next (s.put (
      let e := Dev.applyIfIdle { d with dtb := { d.dtb with
        pendLoad := some (d.regN 0x03 DTB_LOAD_HI * 2 ^ 32 + d.regN 0x03 DTB_LOAD_LO) } }
      if bitsOf (forced DTB_CTRL_LOAD 1 w) DTB_CTRL_RESYNC.hi DTB_CTRL_RESYNC.lo = 1 then e.dtbResync else e))) ∧
  (∀ (s : State) (t : Nat) (ini : Initiator) (w : Word), s.servedTo t ini = true →
    let v := forced DTB_CTRL_RESYNC 1 w
    let d := (Dev.merged 0x03 DTB_CTRL v (s.begun t)).dtbCtrlWritten ((s.begun t).reg 0x03 DTB_CTRL)
    d.isFollower = true →
    exec (.dtbResync t ini w) s = .next (s.put { d with dtb := { d.dtb with reacquire := true } })) ∧
  (∀ (s : State) (t : Nat), s.up t = true → (s.begun t).dtb.carried = true →
    (s.begun t).on 0x03 DTB_STATUS_TIME_SAT = false →
    exec (.deviceTimeSaturate t) s = .next (s.put (((s.begun t).setFld 0x03 DTB_STATUS_TIME_SAT 1).raise 0x03 4)))

/-- A step of time adds the LSB that have passed; once bits 63 to 19 of device time are all ones they stay all ones, while bits 18 to 0 keep
counting; before that device time never falls. Read device time is the count at the last coarse edge, a multiple of 64.
(06_points_time.md) -/
def Obligations.DeviceTimeNeverWraps : Prop :=
  (∀ dt n, dt < 2 ^ 64 → addTime dt n < 2 ^ 64 ∧ (dt + n < 2 ^ 64 → addTime dt n = dt + n) ∧
    (timeSaturated dt = true → timeSaturated (addTime dt n) = true ∧ addTime dt n % 2 ^ 19 = (dt + n) % 2 ^ 19) ∧
    (timeSaturated (addTime dt n) = false → dt ≤ addTime dt n)) ∧
  (∀ d : Dev, d.devTime % 64 = 0 ∧ d.devTime ≤ d.edgeTime ∧ d.edgeTime < d.devTime + 64)

/-- In a terrace that functions: CELL_ARM arms a bank's cells from EARLY_ARM before a gate that is not empty until it closes; CELL_AVALANCHE
of a cell that is armed, enabled and not dead starts its dead time, adds to the coincidence and latches the cell off at the 1,025th
avalanche of a run; TIMESTAMP_RELEASE, 24 ns after its detection and with the START delay known, drops a pre-start, counts and flags a ToF
of 0, queues what the queue has room for and drops what it has not; HOP_EXECUTE within 100 ps of the table time performs the next hop with
its blind window; START_PULSE outside the dead time converts and is accepted by the first window it falls in; START_WINDOW_CLOSE fixes S_b
as the accepted pulse. (02_meadow_trellis.md, 03_sundial_timing.md) -/
def Obligations.CellAndTimingCommandsComplete : Prop :=
  (∀ (s : State) (t bank : Nat) (g : GateSet), bank < 8 → s.upIn t (bank / 2) = true → (s.begun t).armingGate bank = some g →
    g.gated = true → g.opens < g.closes → g.opens ≤ (s.begun t).now + g.lead → (s.begun t).now < g.closes →
    ((s.begun t).getBank bank).armed = none →
    exec (.cellArm t bank) s = .next (s.put ((s.begun t).setBank bank
      { (s.begun t).getBank bank with armed := some (s.begun t).now }))) ∧
  (∀ (s : State) (t cell raw : Nat) (endLow : Bool), cell < 131072 → s.upIn t (cell / 32768) = true →
    ((s.begun t).getCell cell).latched = false → ((s.begun t).getCell cell).deadEnd ≤ (s.begun t).now →
    (s.begun t).pixelArmed (cell / 16) = true →
    exec (.cellAvalanche t cell raw endLow) s = .next (s.put (
      let d := s.begun t
      let c := d.getCell cell
      let run := if d.now ≤ c.deadEnd + 80 ∧ 0 < c.deadEnd then c.run + 1 else 0
      let m := 0x08 + cell / 32768
      let d := (d.setCell cell { deadEnd := d.now + 80 * (4 + min (d.fld m MDW_DEAD_TIME_DT) 12), run := run, latched := run == 1024 }).coincide
        (cell / 16) raw endLow
      if run = 1024 then
        ((d.setFld m MDW_LATCHED_CELLS_COUNT (d.fld m MDW_LATCHED_CELLS_COUNT + 1)).setReg m MDW_LATCH_LAST
          (BitVec.ofNat 32 (2 ^ 31 + cell))).raise m 2
      else d))) ∧
  (∀ (s : State) (t ch s0 : Nat) (x : Stamp) (rest : List Stamp), ch < 2048 → s.upIn t (ch / 512) = true →
    ((s.begun t).getChan ch).align = x :: rest → ((s.begun t).getBank (ch / 256)).delayOf x.fireDt = some s0 →
    x.at_ + 1920 ≤ (s.begun t).now →
    exec (.timestampRelease t ch) s = .next (s.put (
      let e := (x.ts + 2 ^ 19 - x.fireDt % 2 ^ 19) % 2 ^ 19
      let sb := s0 % 2 ^ 19
      let p := sdlPage (ch / 32)
      let d := (s.begun t).setChan ch { (s.begun t).getChan ch with align := rest }
      let q := d.getSdl (ch / 512)
      if e < sb then
        Dev.bedOnce (ch / 32) 1 ((d.setSdl (ch / 512) { q with prestartSum := sat16 (q.prestartSum + 1) }).bumpSat p (SDL_PRESTART_CH + 4 * (ch % 32)))
      else
        let d := if e = sb then Dev.bedOnce (ch / 32) 2 (d.bumpSat p (SDL_ZERO_CH + 4 * (ch % 32))) else d
        let c := d.getChan ch
        let q := d.getSdl (ch / 512)
        if 16 ≤ c.queue.length then
          Dev.bedOnce (ch / 32) 0 ((d.setSdl (ch / 512) { q with dropSum := sat16 (q.dropSum + 1) }).bumpSat p (SDL_DROP_CH + 4 * (ch % 32)))
        else d.setChan ch { c with queue := c.queue ++ [⟨x.half, e == sb, e - sb, x.at_⟩] }))) ∧
  (∀ (s : State) (t ch x : Nat) (g : GateSet), ch < 2048 → s.upIn t (ch / 512) = true →
    ((s.begun t).getBank (ch / 256)).gate = some g → ((s.begun t).getBank (ch / 256)).gateOpen = true →
    (SMap.get [] (s.begun t).lag (ch / 32))[((s.begun t).getHop ch).done]? = some x →
    (s.begun t).now < g.closes → ((s.begun t).getBank (ch / 256)).fireAt + 8 * x < g.closes →
    ((s.begun t).getBank (ch / 256)).fireAt + 8 * x ≤ (s.begun t).now + 8 →
    (s.begun t).now ≤ ((s.begun t).getBank (ch / 256)).fireAt + 8 * x + 8 →
    exec (.hopExecute t ch) s = .next (s.put
      ((s.begun t).hopStep ch ((s.begun t).now - ((s.begun t).getBank (ch / 256)).fireAt) true))) ∧
  (∀ (s : State) (t tr raw b : Nat), tr < 4 → s.upIn t tr = true → ((s.begun t).getSdl tr).refDead ≤ (s.begun t).now →
    62 ≤ raw → raw ≤ 130 → (s.begun t).calRef tr = false → b = 2 * tr →
    let d := (s.begun t).setSdl tr { (s.begun t).getSdl tr with refDead := (s.begun t).now + 256 }
    let ts := d.stampNow (widths (d.reg (refPage tr)) SDL_REF_CAL_TAB) raw
    (d.getBank b).winOpen = true → (d.getBank b).accepted = none →
    (ts + 2 ^ 19 - (d.getBank b).fireDt % 2 ^ 19) % 2 ^ 19 < 1600 →
    exec (.startPulse t tr raw) s = .next (s.put (
      ((d.setBank b { d.getBank b with accepted := some ((ts + 2 ^ 19 - (d.getBank b).fireDt % 2 ^ 19) % 2 ^ 19) }).setFld
        (refPage tr) SDL_START_MISS_RUN_RUN_0 0).dtestPulse 1 (0x00A + tr)))) ∧
  (∀ (s : State) (t bank a : Nat), bank < 8 → s.upIn t (bank / 2) = true → ((s.begun t).getBank bank).winOpen = true →
    ((s.begun t).getBank bank).fireAt + 1600 ≤ (s.begun t).now → ((s.begun t).getBank bank).accepted = some a →
    ((s.begun t).getBank bank).gateOpen = false → ((s.begun t).getBank bank).gateDone = false →
    exec (.startWindowClose t bank) s = .next (s.put (
      let d := s.begun t
      let p := refPage (bank / 2)
      let sb := if d.on p SDL_START_CTRL_EN then a else d.fld p SDL_START_CTRL_START_NOM
      (d.setRegN p (SDL_START_LAST + 4 * (bank % 2)) a).setBank bank { d.getBank bank with
        winOpen := false, accepted := none, starts := (((d.getBank bank).fireDt, sb) :: (d.getBank bank).starts).take 4 })))

/-- BLANK_L_FALL of a pin that was high begins a low interval in every terrace, times it and raises its event where blanking is enabled, and
BLANK_L_RISE ends it and notes it; BLANK_LONG raises its event once per low interval; LATCH_CLR re-arms the terrace's latched cells and
clears COUNT and VALID; ROUTE_WRITE takes the routes, with an unscheduled break-before-make on each changed channel of an open gate;
SCALE_LOOP_REFERENCE takes the code while the PLL is locked; commits copy each channel's table that passes its two checks and reject the
others; HISTOGRAM_INCREMENT takes the oldest queue entry and counts it in its bin and zoom windows when EN allows it.
(02_meadow_trellis.md, 03_sundial_timing.md, 04_orangery_histograms.md) -/
def Obligations.MeadowAndScaleCommandsComplete : Prop :=
  (∀ (s : State) (t : Nat), (s.begun t).blankLow = false →
    exec (.blankLFall t) s = .next (s.put ([0, 1, 2, 3].foldl (fun (d : Dev) k =>
      let en := d.on (0x08 + k) MDW_BLANK_CTRL_EN
      let d := d.setBlank k { (d.getBlank k).prune d.now with
        lowSince := (if en = true then some d.now else none), longRaised := false, openFrom := some (d.periodStart - 64) }
      if en then d.raise (0x08 + k) 0 else d) { s.begun t with blankLow := true }))) ∧
  (∀ (s : State) (t : Nat), (s.begun t).blankLow = true → exec (.blankLFall t) s = .next (s.ready t)) ∧
  (∀ (s : State) (t : Nat),
    exec (.blankLRise t) s = .next (s.put (
      let last := if (s.begun t).edgeTime % 64 = 0 then (s.begun t).now - 64 else (s.begun t).periodStart
      [0, 1, 2, 3].foldl (fun (d : Dev) k =>
        d.setBlank k { d.getBlank k with
          lowSince := none, longRaised := false, openFrom := none
          lows := (match (d.getBlank k).openFrom with
            | some a => (d.getBlank k).lows ++ [(a, last + 64)]
            | none => (d.getBlank k).lows) })
        { s.begun t with blankLow := false }))) ∧
  (∀ (s : State) (t tr a : Nat), tr < 4 → s.upIn t tr = true → ((s.begun t).getBlank tr).lowSince = some a →
    (s.begun t).on (0x08 + tr) MDW_BLANK_CTRL_EN = true → 0 < (s.begun t).fld (0x08 + tr) MDW_BLANK_CTRL_BLANK_MAX →
    a + 80000 * (s.begun t).fld (0x08 + tr) MDW_BLANK_CTRL_BLANK_MAX < (s.begun t).now →
    ((s.begun t).getBlank tr).longRaised = false →
    exec (.blankLong t tr) s = .next (s.put
      (((s.begun t).setBlank tr { (s.begun t).getBlank tr with longRaised := true }).raise (0x08 + tr) 1))) ∧
  (∀ (s : State) (t tr : Nat) (ini : Initiator), tr < 4 → s.writable t ini (0x08 + tr) MDW_LATCH_CLR = true →
    exec (.latchClr t ini tr) s = .next (s.put (
      let d := Dev.merged (0x08 + tr) MDW_LATCH_CLR 1 (s.landed t (0x08 + tr) MDW_LATCH_CLR)
      (Dev.setFld { d with cells := d.cells.filter (fun e => !(e.2.latched && e.1 / 32768 == tr)) } (0x08 + tr)
        MDW_LATCHED_CELLS_COUNT 0).setFld (0x08 + tr) MDW_LATCH_LAST_VALID 0))) ∧
  (∀ (s : State) (t tr n : Nat) (ini : Initiator) (w : Word), tr < 4 → n < 64 →
    s.writable t ini (0x0C + tr) (TRL_ROUTE + 4 * n) = true →
    exec (.routeWrite t ini tr n w) s = .next (s.put (
      let d := s.landed t (0x0C + tr) (TRL_ROUTE + 4 * n)
      (Dev.merged (0x0C + tr) (TRL_ROUTE + 4 * n) w d).routeWritten tr (TRL_ROUTE + 4 * n) (d.reg (0x0C + tr) (TRL_ROUTE + 4 * n))))) ∧
  (∀ (s : State) (t tr raw : Nat), tr < 4 → s.upIn t tr = true → (s.begun t).pllLocked = true →
    ((s.begun t).getSdl tr).codes.length < 255 → (s.begun t).on (refPage tr) SDL_START_CTRL_LOCK_HOLD = true →
    exec (.scaleLoopReference t tr raw) s = .next (s.put ((s.begun t).setSdl tr { (s.begun t).getSdl tr with
      codes := ((s.begun t).getSdl tr).codes ++ [raw], sinceTrim := ((s.begun t).getSdl tr).sinceTrim + 1 }))) ∧
  (∀ (s : State) (t tr raw : Nat) (err : Int), tr < 4 → s.upIn t tr = true → (s.begun t).pllLocked = true →
    ((s.begun t).getSdl tr).codes.length = 256 → (s.begun t).on (refPage tr) SDL_START_CTRL_LOCK_HOLD = true →
    (s.begun t).on (refPage tr) SDL_LOCK_STATUS_LOCKED = false →
    err = (((s.begun t).getSdl tr).codes.drop 1 ++ [raw]).foldl (fun (a : Int) (c : Nat) => a + 4 * ((c : Int) - 64)) 0 →
    -128 ≤ err → err ≤ 128 →
    exec (.scaleLoopReference t tr raw) s = .next (s.put ((((s.begun t).setSdl tr { (s.begun t).getSdl tr with
      codes := ((s.begun t).getSdl tr).codes.drop 1 ++ [raw], sinceTrim := ((s.begun t).getSdl tr).sinceTrim + 1 }).setFld
        (refPage tr) SDL_LOCK_STATUS_ERR (toBits 16 err)).setFld (refPage tr) SDL_LOCK_STATUS_LOCKED 1))) ∧
  (∀ (s : State) (t bed : Nat) (ini : Initiator) (w : Word), bed < 64 → s.writable t ini (0x10 + bed) SDL_CAL_COMMIT = true →
    (s.landed t (0x10 + bed) SDL_CAL_COMMIT).underTest bed = false →
    exec (.calTableCommit t ini bed w) s = .next (s.put ((List.range 32).foldl
      (fun d n => if bitAt w.toNat n then d.commitChannel bed n else d) (s.landed t (0x10 + bed) SDL_CAL_COMMIT)))) ∧
  (∀ (s : State) (t tr : Nat) (ini : Initiator) (w : Word), tr < 4 → s.writable t ini (refPage tr) SDL_START_CTRL = true →
    let d := Dev.merged (refPage tr) SDL_START_CTRL (setBits w 31 31 1) (s.landed t (refPage tr) SDL_START_CTRL)
    d.terraceTest tr = false →
    exec (.refCalCommit t ini tr w) s = .next (s.put (
      if widthsOk (widths (d.shadowWord (refPage tr)) SDL_REF_CAL_TAB) then
        (d.copyTable (refPage tr) SDL_REF_CAL_TAB).setFld (refPage tr) SDL_REF_CAL_REJECT_REJECT 0
      else (d.setFld (refPage tr) SDL_REF_CAL_REJECT_REJECT 1).raise (refPage tr) 3))) ∧
  (∀ (s : State) (t ch : Nat) (e : QEntry) (rest : List QEntry), ch < 2048 → s.upIn t (ch / 512) = true →
    ((s.begun t).getChan ch).queue = e :: rest →
    exec (.histogramIncrement t ch) s = .next (s.put (
      let d := (s.begun t).setChan ch { (s.begun t).getChan ch with queue := rest }
      if d.incrementAllowed (ch / 512) e.at_ then d.placeEntry ch e.half e.tof else d)))

/-- A detection of a pixel whose bank's gate is open at that time, in a period that is blanked in its terrace, increments MDW.BLANK_DISCARD of
the terrace and changes nothing else: no channel, queue or histogram. (R45) -/
def Obligations.BlankedDetectionsAreDiscarded : Prop :=
  ∀ (d : Dev) (pix raw : Nat) (endLow : Bool) (g : GateSet), (d.getBank (pix / 1024)).gateOpen = true →
    (d.getBank (pix / 1024)).gate = some g → g.opens ≤ d.now → d.now < g.closes → d.periodBlanked (pix / 2048) endLow = true →
    d.detection pix raw endLow = d.bump (0x08 + pix / 2048) MDW_BLANK_DISCARD ∧
    (∀ ch, (d.detection pix raw endLow).getChan ch = d.getChan ch) ∧ (d.detection pix raw endLow).bins = d.bins

/-- Whatever offset, bin count, bin width and mode the terrace's registers hold, the gate of a bank closes no later than 524,288 LSB after the
fire command, opens no earlier than it and closes no earlier than it opens; the effective bin count is the least of the request, the
mode's bins and what the span leaves. (03_sundial_timing.md, 04_orangery_histograms.md) -/
def Obligations.GatesCloseWithinTheSpan : Prop :=
  ∀ (d : Dev) (b f : Nat), (d.gateFor b f).closes ≤ f + 2 ^ 19 ∧ f ≤ (d.gateFor b f).opens ∧
    (d.gateFor b f).opens ≤ (d.gateFor b f).closes ∧
    (∀ t, d.beffNow t = min (min (d.fld (0x50 + t) ORG_GATE_BINS) (if d.on (0x50 + t) ORG_CTRL_MODE then 16384 else 8192))
      ((8192 - min (d.fld (0x50 + t) ORG_GATE_OFFSET) 8192) * 64 / binLsb (d.fld (0x50 + t) ORG_CTRL_BIN_W)))

/-- Counting an entry in a bin below 65,535 adds one to that bin and leaves every other; at 65,535 the bins stay and the channel's saturation
flag of the half is set. Nothing but channel, half and bin select the counter: no bin of another channel changes.
(04_orangery_histograms.md) -/
def Obligations.HistogramCountersSaturate : Prop :=
  (∀ (d : Dev) (ch half b : Nat), d.bin ch half b ≠ 65535 →
    (d.countBin ch half b).bin ch half b = d.bin ch half b + 1 ∧
    (∀ k, k ≠ binKey ch half b → SMap.get 0 (d.countBin ch half b).bins k = SMap.get 0 d.bins k)) ∧
  (∀ (d : Dev) (ch half b : Nat), d.bin ch half b = 65535 → (d.countBin ch half b).bins = d.bins ∧
    (half < 2 → SMap.get false ((d.countBin ch half b).getOrg (ch / 512) |>.half half).sat (ch % 512) = true)) ∧
  (∀ ch half b ch' half' b', half < 2 → b < 8192 → half' < 2 → b' < 8192 → binKey ch half b = binKey ch' half' b' →
    ch = ch' ∧ half = half' ∧ b = b')

/-- SLOT_TRIGGER takes the line that the latest sample reaches (a line passed over is skipped): the slot is numbered, starts or is skipped,
and the sequence of the next begins; TIMED_TRIGGER_EXPIRY does so by time; DITHER_SEQUENCE_DONE holds the computed sequence ready;
ZTAB_FETCH_DONE takes the 2,048 words of the host table at the base that the fetch began with, of which a word that has changed since the
fetch began is a free value (log entry 75); LONG_BUFFER_RELEASE releases the terrace's half; SHOT_START schedules the banks of the next
shot; BANK_FIRE fires the granted segments of the next bank, each with the trim of its column, lets the select of the bank fall when none
fires, and diagnoses them; a gate opens at its fire command plus the offset, counts a shot and closes after its bins, with its blanked
time accounted. (01_architecture.md, 04_orangery_histograms.md, 08_bandstand_emitter.md) -/
def Obligations.SlotTriggersAndFiresComplete : Prop :=
  (∀ (s : State) (t : Nat) (rbM : Bool) (rb : List (Nat × Nat × Nat)) (sm : Sample) (line : Nat) (begins rev : Bool), s.up t = true →
    let d := s.begun t
    d.mayTrigger = true → d.fld 0x83 BND_CTRL_TRIG_MODE ≠ 1 → d.bnd.fresh = some sm → d.crossing = some (line, begins, rev) →
    let more := d.reachesMore line rev
    let n := (d.regN 0x83 BND_SLOT_NUM + 1) % 2 ^ 32
    let skip := more || d.skips n line
    let a := (d.setRegN 0x83 BND_SLOT_NUM n).dtestPulse 1 1
    let a := if skip = true then a else a.applyPending
    let a := if begins = true then a.frameBegin n rev
      else a.setFld 0x83 BND_FRAME_SLOT_IN_FRAME (min 4095 (a.fld 0x83 BND_FRAME_SLOT_IN_FRAME + 1))
    let a := (a.setFld 0x83 BND_LINE_LINE line).frameSlot n skip
    let e := (if skip = true then a.ldgTakeover.slotSkip s.mem n line sm (a.seqFor n)
      else a.ldgTakeover.slotStart s.mem n line sm (a.seqFor n) rbM rb).seqStart
    let last := if e.on 0x83 BND_LINE_REV = true then line == 0 else line + 1 == hdrN e.activeBuf
    let e := if last = true then e.endFrame false else e
    exec (.slotTrigger t rbM rb) s = .next (s.put (if more = true then e else { e with bnd := { e.bnd with fresh := none } }))) ∧
  (∀ (s : State) (t x : Nat) (rbM : Bool) (rb : List (Nat × Nat × Nat)) (sm : Sample), s.up t = true →
    let d := s.begun t
    d.bnd.timedNext = some x → d.timedPossible = true → x ≤ d.now → SMap.get none d.bnd.samples (d.fld 0x83 BND_CTRL_SRC) = some sm →
    exec (.timedTriggerExpiry t rbM rb) s = .next (s.put (
      Dev.trigger s.mem (if d.inFrame = true then d.fld 0x83 BND_LINE_LINE + 1 else 0) (!d.inFrame) false sm false rbM rb
        { d with bnd := { d.bnd with timedNext := some (x + Config.ns (100 * d.fld 0x83 BND_TIMED_PERIOD_PERIOD)) } }))) ∧
  (∀ (s : State) (t : Nat) (on : Bool) (dmax salt w : Nat), s.up t = true →
    let d := s.begun t
    d.seqGen.running = some (on, dmax, salt, w) →
    let n := (d.regN 0x83 BND_SLOT_NUM + 1) % 2 ^ 32
    exec (.ditherSequenceDone t) s = .next (s.put { d with seqGen := ⟨none, some {
      d := if on = true then ditherCounts d.kdBytes n dmax salt else [], dmax := if on = true then dmax else 0
      listen := if d.keyed w = true then listenKeyed d.kdBytes w n salt else listenPlain w n }⟩ })) ∧
  (∀ (s : State) (t tr : Nat), tr < 4 → s.upIn t tr = true → ((s.begun t).getOrg tr).fetching = true →
    let now := ztabWords s.mem ((s.begun t).getOrg tr).zbase
    now = ((s.begun t).getOrg tr).zwas →
    exec (.ztabFetchDone t tr) s = .next (s.put ((s.begun t).setOrg tr { (s.begun t).getOrg tr with
      fetching := false, ztab := (List.range 2048).foldl (fun z i => SMap.put 0 z i
        (memWord s.mem (((s.begun t).getOrg tr).zbase + 4 * i)).toNat) [] }))) ∧
  (∀ (s : State) (t tr : Nat), tr < 4 → s.upIn t tr = true → ((s.begun t).getOrg tr).fetching = true →
    ztabWords s.mem ((s.begun t).getOrg tr).zbase ≠ ((s.begun t).getOrg tr).zwas →
    ∃ z, exec (.ztabFetchDone t tr) s = .next (s.put (Dev.setOrg { s.begun t with freeCtr := (s.begun t).freeCtr + 1 } tr
      { (s.begun t).getOrg tr with fetching := false, ztab := z })) ∧
      ∀ i, i < 2048 → (memWord s.mem (((s.begun t).getOrg tr).zbase + 4 * i)).toNat = SMap.get 0 ((s.begun t).getOrg tr).zwas i →
        SMap.get 0 z i = (memWord s.mem (((s.begun t).getOrg tr).zbase + 4 * i)).toNat) ∧
  (∀ (s : State) (t tr : Nat) (x : SlotRec), tr < 4 → s.upIn t tr = true →
    let d := s.begun t
    d.openSlot = some x → (d.getOrg tr).phase = 2 → d.acqBusy = false → d.bnd.acq = none → d.scanBusy tr = false →
    (∀ e ∈ d.chan, e.1 / 512 = tr → e.2.align = [] ∧ e.2.queue = []) →
    exec (.longBufferRelease t tr) s = .next (s.put (
      let d := (d.release s.mem tr 0 x).windowMoves tr x.num
      let d := d.setOrg tr { d.getOrg tr with phase := if (d.getGzb tr).scan.isSome = true then 3 else 0 }
      if [0, 1, 2, 3].all (fun k => d.down k || (d.getOrg k).phase == 3 || (d.getOrg k).phase == 0) = true then d.closeSlot s.mem x else d))) ∧
  (∀ (s : State) (t : Nat) (a : Acq), s.up t = true →
    let d := s.begun t
    d.bnd.acq = some a → a.fetched = true → a.nextShot < a.shots → a.grid + a.nextShot * a.lShot ≤ d.now →
    exec (.shotStart t) s = .next (s.put ((List.range 8).foldl (fun d b =>
      let x := d.getBank b
      let i := a.pos b
      let on := a.banks.contains b && a.nextShot < a.bankShots.getD i 0
      d.setBank b { x with
        sched := on, fireAt := a.fireAt a.nextShot i, fireDt := d.timeOf (a.fireAt a.nextShot i), passed := false, anyFired := false
        gated := match x.early with | some e => e.gated | none => x.gatedAt d.now
        gate := if on then x.early else none, early := none, gateOpen := false, gateDone := false, winOpen := false, accepted := none })
      (((List.range 8).foldl (fun (d : Dev) b => (d.gateCloseNow b).readEarly d.now b) d).setAcq
        { a with nextShot := a.nextShot + 1, nextBank := 0 })))) ∧
  (∀ (s : State) (t vf i : Nat) (isense : List Nat) (a : Acq), s.up t = true →
    let d := s.begun t
    let k := a.nextShot - 1
    d.bnd.acq = some a → a.nextPos = some i → 0 < a.nextShot → a.fireAt k i ≤ d.now →
    let b := a.banks.getD i 0
    exec (.bankFire t isense vf) s = .next (s.put (
      let d := ((d.setAcq { a with nextBank := i + 1 }).dtestPulse 1 (2 + b)).thermalOff b
      let x := (a.segs.filter (fun g => g.seg / 8 == b && k < g.shots)).foldl (fun (x : Dev × List PlanSeg) g =>
        ((x.1.fireOne k g).1, if (x.1.fireOne k g).2 = true then x.2 ++ [g] else x.2)) (d, [])
      let d := x.1.setBank b { x.1.getBank b with passed := true, anyFired := !x.2.isEmpty, winOpen := true, accepted := none }
      let d := { d with bnd := { d.bnd with
        pulses := x.2.map (d.pulseOf (a.fireAt k i)), sel := if x.2.isEmpty = true then none else d.bnd.sel, acq := d.bnd.acq.map (Acq.noteFired x.2) } }
      x.2.foldl (fun d g => d.diagnose (d.getBank b).fireDt (d.planEnergy a g) (isense.getD (g.seg % 8) 0) vf false g) d))) ∧
  (∀ (s : State) (t b : Nat) (g : GateSet), b < 8 → s.upIn t (b / 2) = true →
    let d := s.begun t
    let x := d.getBank b
    x.gate = some g → x.sched = true → x.gateOpen = false → x.gateDone = false → g.opens < g.closes → g.opens ≤ d.now →
    exec (.rangeGateOpen t b) s = .next (s.put ((List.range 256).foldl (fun d i => Dev.hopsBefore (g.opens - x.fireAt) d (256 * b + i))
      (d.setBank b { x with gateOpen := true, shots := x.shots + 1 })))) ∧
  (∀ (s : State) (t b : Nat) (g : GateSet), b < 8 → s.up t = true →
    let d := s.begun t
    let x := d.getBank b
    let bl := d.getBlank (b / 2)
    x.gate = some g → x.gateOpen = true → x.early = none → x.delayOf x.fireDt = none → g.closes ≤ d.now →
    let y := d.blankedIn (b / 2) g.opens g.closes
    let tot := bl.remainder + y
    exec (.rangeGateClose t b) s = .next (s.put (
      let d := (d.setBank b { x with gateOpen := false, gateDone := true, armed := none }).setBlank (b / 2)
        { bl with remainder := tot % 80000, slotSum := bl.slotSum + y }
      let d := if 0 < y
        then d.bumpBy (0x08 + b / 2) MDW_BLANK_TIME (tot / 80000) else d
      { d with hops := SMap.drop d.hops (fun c => c / 256 == b) })))

/-- GTH_VERDICT_PASS judges every segment of the next shot in turn; GTH_STALE after four sample periods sets STALE, counts the missing
measurement and makes the static table take over; GTH_SCAN_RETURN after STATIC_HOLD ms of calm returns to the scanning table;
GTH_CHARGE_CHECK at its instant asks for a conversion, counting the one before as missing while it is outstanding; EMIT_EN low for more
than 10 ns removes fire enable; a rise starts its 1 us; FIRE_EN reads 1 after it in SCANNING; a budget takes a value not above its own and
rejects any other. (09_gatehouse.md) -/
def Obligations.GatehouseCommandsComplete : Prop :=
  (∀ (s : State) (t : Nat) (a : Acq), s.up t = true →
    let d := s.begun t
    d.bnd.acq = some a → a.fetched = true → a.nextPass < a.shots → a.trigAt + 64000 ≤ d.now →
    exec (.gthVerdictPass t) s = .next (s.put (
      let d := a.segs.foldl (Dev.judge a.nextPass) d
      match d.bnd.acq with
      | none => d
      | some b => d.setAcq { b with nextPass := a.nextPass + 1, passAt := d.now }))) ∧
  (∀ (s : State) (t : Nat), s.up t = true → (s.begun t).on 0x85 GTH_STATUS_STALE = false →
    SMap.get 0 (s.begun t).gth.lastSample ((s.begun t).fld 0x85 GTH_CFG_SRC) +
      32000 * (s.begun t).loopPeriod ((s.begun t).fld 0x85 GTH_CFG_SRC) ≤ (s.begun t).now →
    exec (.gthStale t) s = .next (s.put (((((s.begun t).setFld 0x85 GTH_STATUS_STALE 1).bump 0x85 GTH_MISSING_CNT).raise 0x85 4).staticEnter))) ∧
  (∀ (s : State) (t a : Nat), s.up t = true → (s.begun t).gth.calmSince = some a → (s.begun t).isStatic = true → (s.begun t).staticCond = false →
    a + 80000000 * max 10 ((s.begun t).fld 0x85 GTH_STATIC_HOLD_HOLD) ≤ (s.begun t).now →
    exec (.gthScanReturn t) s = .next (s.put (((s.begun t).setFld 0x85 GTH_STATUS_STATIC 0).raise 0x85 2))) ∧
  (∀ (s : State) (t n inp : Nat), s.up t = true →
    let d := s.begun t
    d.edgeTime % 800000 = (d.fld 0x8E PMP_CTRL_GTH_PHASE * 50000) % 800000 → n = d.fld 0x85 GTH_CFG_VSNS → d.gth.waiting = false →
    inp = d.fld 0x90 (PMP_SAR_CFG_GTH_IN.plus (4 * n)) → inp < 28 →
    exec (.gthChargeCheck t) s = .next (s.put (
      let x := d.urgent n whoGatehouse 0 inp
      if x.2 = true then x.1.checkMissing else { x.1 with gth := { x.1.gth with waiting := true } }))) ∧
  (∀ (s : State) (t low : Nat), 800 < low →
    let d := s.begun t
    exec (.emitEnFall t low) s = .next (s.put (
      let e := ((Dev.setFld { d with gth := { d.gth with emitEn := false } } 0x85 GTH_STATUS_EMIT_EN 0).revoke causeEmit).dumpFollow
      if e.emitDump = true ∧ d.dumpDemand = false then (e.bump 0x85 GTH_DUMP_CNT).raise 0x85 3 else e))) ∧
  (∀ (s : State) (t : Nat), (s.begun t).gth.emitEn = false →
    exec (.emitEnRise t) s = .next (s.put (Dev.dumpFollow (Dev.setFld
      { s.begun t with gth := { (s.begun t).gth with emitEn := true, emitSince := (s.begun t).now } } 0x85 GTH_STATUS_EMIT_EN 1)))) ∧
  (∀ (s : State) (t : Nat), s.up t = true → (s.begun t).gth.emitEn = true → (s.begun t).gth.emitSince + 80000 ≤ (s.begun t).now →
    exec (.emitEnStable t) s = .next (s.ready t) ∧ ((s.begun t).devState = stScanning → (s.begun t).fireEnable = true)) ∧
  (∀ (s : State) (t off : Nat) (ini : Initiator) (w : Word), s.servedTo t ini = true → GTH_BUD_SCAN_SEG ≤ off → off < GTH_BUD_STAT_GRP + 20 →
    off % 4 = 0 →
    exec (.gthBudgetWrite t ini off w) s = .next (s.put (
      if w.toNat ≤ (s.begun t).regN 0x85 off then (s.begun t).setReg 0x85 off w
      else ((s.begun t).bump 0x85 GTH_RELAX_REJECT).raise 0x85 5))) ∧
  (∀ (s : State) (t : Nat) (ini : Initiator) (w : Word), s.servedTo t ini = true →
    exec (.gthBudgetWrite t ini GTH_OMEGA_MIN w) s = .next (s.put (
      if (s.begun t).fld 0x85 GTH_OMEGA_MIN_OMEGA_MIN ≤ bitsOf w 23 0 then (s.begun t).setFld 0x85 GTH_OMEGA_MIN_OMEGA_MIN (bitsOf w 23 0)
      else ((s.begun t).bump 0x85 GTH_RELAX_REJECT).raise 0x85 5)))

/-- PATTERN_LOAD starts the copy of the image, or flags an error while READY or when the image does not fit; PATTERN_LOAD_DONE puts the image
into the buffer that is not active, with its CRC, and accepts or refuses its header; READY is taken for a loaded buffer and makes the
first swap; SYNC_SWAP swaps at the frame's truncation when READY, or counts the miss; BND.CTRL writes end the frame when EN falls or the
source changes; PROBE_FIRE fires the due segment alone, its sink set and its bank selected, when the gate lets it; PROBE_LATE flags a
verdict older than twice the period; SEG_FAULT_CLEAR clears the fault bits written 1. (08_bandstand_emitter.md) -/
def Obligations.PatternAndProbeCommandsComplete : Prop :=
  (∀ (s : State) (t : Nat) (ini : Initiator) (w : Word), s.servedTo t ini = true →
    let v := forced BND_BUF_LOAD 1 w
    let d := (s.begun t).readyWrite (bitAt v.toNat 2)
    d.on 0x83 BND_BUF_LOADING = false →
    let base := 4096 * d.fld 0x83 BND_LOAD_SRC_BASE
    exec (.patternLoad t ini w) s = .next (s.put (
      if d.on 0x83 BND_BUF_READY = true ∨ Config.sramBytes < base + 524288 then (d.setFld 0x83 BND_BUF_LOAD_ERR 1).raise 0x83 5
      else { (d.setFld 0x83 BND_BUF_LOADING 1).setFld 0x83 BND_BUF_INACTIVE_VALID 0 with
        bnd := { d.bnd with loading := some (imageSlice s.mem base), loadBase := base } }))) ∧
  (∀ (s : State) (t : Nat) (img : SMap Byte), s.up t = true →
    let d := s.begun t
    d.bnd.loading = some img → imageSlice s.mem d.bnd.loadBase = img →
    exec (.patternLoadDone t) s = .next (s.put (
      let d := { d with bnd := if d.on 0x83 BND_BUF_ACTIVE = true then { d.bnd with buf0 := img, loading := none }
                               else { d.bnd with buf1 := img, loading := none } }
      let d := (d.setFld 0x83 BND_BUF_LOADING 0).setReg 0x83 BND_LOAD_CRC
        (crc32c ((List.range 524288).map (fun i => (SMap.get 0 img i).toNat)))
      if hdrN img = 0 ∨ hdrPitch img = 0 then (d.setFld 0x83 BND_BUF_LOAD_ERR 1).raise 0x83 5
      else ((d.setFld 0x83 BND_BUF_LOAD_ERR 0).setFld 0x83 BND_BUF_INACTIVE_VALID 1).raise 0x83 4))) ∧
  (∀ (s : State) (t : Nat) (ini : Initiator) (w : Word), s.servedTo t ini = true →
    bitAt (forced BND_BUF_READY 1 w).toNat 2 = true → bitAt (forced BND_BUF_READY 1 w).toNat 8 = false →
    (s.begun t).on 0x83 BND_BUF_LOADING = false → (s.begun t).on 0x83 BND_BUF_LOAD_ERR = false →
    (s.begun t).on 0x83 BND_BUF_INACTIVE_VALID = true →
    exec (.patternReadyWrite t ini w) s = .next (s.put ((s.begun t).setFld 0x83 BND_BUF_READY 1).firstSwap)) ∧
  (∀ (s : State) (t te : Nat) (rest : List Nat), s.up t = true →
    (s.begun t).bnd.swapReqs = te :: rest → te + 8000 * max 10 ((s.begun t).fld 0x83 BND_SYNC_LATENCY_LAT) ≤ (s.begun t).edgeTime →
    let d : Dev := { s.begun t with bnd := { (s.begun t).bnd with swapReqs := rest } }
    d.swapOnSync = true →
    (d.on 0x83 BND_BUF_READY = false →
      exec (.syncSwap t) s = .next (s.put ((d.bump 0x83 BND_SWAP_MISS).raise 0x83 3))) ∧
    (d.on 0x83 BND_BUF_READY = true → d.bnd.swapDue = true → exec (.syncSwap t) s = .next (s.put d)) ∧
    (d.on 0x83 BND_BUF_READY = true → d.bnd.swapDue = false →
      exec (.syncSwap t) s = .next (s.put (
        let e := d.endFrame true
        if (e.bnd.acq.all (fun a => a.fetched)) = true then e.swapBuffers else { e with bnd := { e.bnd with swapDue := true } })))) ∧
  (∀ (s : State) (t : Nat) (ini : Initiator) (w : Word), s.servedTo t ini = true →
    let old := (s.begun t).reg 0x83 BND_CTRL
    let after (v : Word) : Dev :=
      let e := Dev.merged 0x83 BND_CTRL v (s.begun t)
      let n := e.reg 0x83 BND_CTRL
      let e := if n.toNat % 2 = 0 then { e with bnd := { e.bnd with acq := e.bnd.acq.map (fun (a : Acq) => { a with disabled := true }) } } else e
      (if (bitAt old.toNat 0 = true ∧ bitAt n.toNat 0 = false) ∨ bitsOf old 3 1 ≠ bitsOf n 3 1
        then Dev.endFrame false { e with bnd := { e.bnd with fresh := none, lastAngle := none, prevAngle := none } } else e).firstSwap.timedCheck
    exec (.bndDisable t ini w) s = .next (s.put (after (forced BND_CTRL_EN 0 w))) ∧
    exec (.bndTriggerSourceWrite t ini w) s = .next (s.put (after w)) ∧
    exec (.bndEnable t ini w) s = .next (s.put (after (forced BND_CTRL_EN 1 w)))) ∧
  (∀ (s : State) (t vs vf g : Nat), s.up t = true →
    let d := s.begun t
    d.probeDue = some g → d.probeLead ≤ d.now → d.probeGap (d.now - d.probeLead) = true →
    let p : PlanSeg := ⟨g, 4, d.fld 0x84 BND_PROBE_AMP * 51 * d.bnd.factors.getD (g / 8) 256 / 256, 1⟩
    d.enableCause = none → d.gth.missing = false →
    let d0 : Dev := { d with bnd := { d.bnd with gapDone := true } }
    let e := d0.energy g p.code 20
    d0.refusedBy g d0.edgeTime e false = none →
    let d1 := Dev.thermalOff (g / 8) { d0 with gth := d0.gth.debit g d0.edgeTime d0.edgeTime e }
    d1.bit 0x84 BND_DERATE_STATUS (g / 8) = false →
    exec (.probeFire t vs vf) s = .next (s.put (Dev.diagnose d.edgeTime e vs vf true p (Dev.bump { d1 with
      bnd := { d1.bnd with
        sinks := SMap.put 0 d1.bnd.sinks g p.code, pulses := [d1.pulseOf d1.now p], probing := some (d1.now + 160 + 320)
        sel := some (g / 8, d1.now + 640 - 80 * d1.bnd.blank, d1.now + 160 + 320) } } 0x84 BND_PROBE_CNT)))) ∧
  (∀ (s : State) (t g a : Nat), g < 64 → s.up t = true →
    let d := s.begun t
    let x := SMap.get {} d.bnd.diag g
    x.at_ = some a → d.on 0x84 BND_PROBE_EN = true → d.devState = stScanning → a + 2 * d.probePeriod < d.now → x.lateOnce = false →
    exec (.probeLate t g) s = .next (s.put (Dev.raise 0x84 6 { d with
      bnd := { d.bnd with diag := SMap.put {} d.bnd.diag g { x with lateOnce := true } } }))) ∧
  (∀ (s : State) (t : Nat) (ini : Initiator) (hi : Bool) (w : Word), s.servedTo t ini = true →
    let off := if hi = true then BND_SEG_FAULT_HI else BND_SEG_FAULT_LO
    exec (.segFaultClear t ini hi w) s = .next (s.put ((s.begun t).setReg 0x84 off ((s.begun t).reg 0x84 off &&& ~~~w))))

/-- While the consumers hold credit SCAN_WORD takes the next word of the half under scan through the four stages, or counts it in the first
pass of a host-written half, and CHANNEL_EXTRACTION extracts, notes contamination candidates and ends the scan of its terrace when it was
the last; SLOT_MARKER_DELIVERY gives SLOT_START, and once every record is delivered SLOT_END, to every core with room;
ECHO_RECORD_DELIVERY accepts the oldest record of a channel at every consumer of it, Lodge and the pair of cores on IS among them;
GZB_DISABLE abandons the scan; LISTEN and DITHER writes restart the sequence; CLEAR empties both halves; EN and MODE writes end the half's
completeness; the windows read and write the counters, 32 or 16 bits wide, of halves that are not acquiring, and an access to one that is
counts ORG_WIN_BUSY. (04_orangery_histograms.md, 05_gazebo_echoes.md) -/
def Obligations.EchoCommandsComplete : Prop :=
  (∀ (s : State) (t ch : Nat) (r : Release), ch < 2048 → s.upIn t (ch / 512) = true →
    let d := s.begun t
    let g := d.getGzb (ch / 512)
    let c := SMap.get {} g.chans (ch % 512)
    let w := d.readWord ch r c.pos
    d.scanCredit (ch / 512) = true → g.scan = some r → c.pos < r.words →
    ((w.2.twoPass ch r = true ∧ c.firstDone = false →
      exec (.scanWord t ch) s = .next (s.put (w.2.setGzb (ch / 512) { g with chans := SMap.put {} g.chans (ch % 512) (c.firstPass w.1 r.words) }))) ∧
    (w.2.twoPass ch r = false ∨ c.firstDone = true →
      exec (.scanWord t ch) s = .next (s.put (
        let p := gzbPage (ch / 512)
        let f := if c.formed = true then (c, w.2) else w.2.formAmbient ch r c
        let x := w.1.foldl (fun c h => c.addBin (r.sb ch) (deadBins r.wL) h) { f.1 with pos := f.1.pos + 1 }
        let x := (List.range 20).foldl (fun x _ => x.nextY ((List.range (f.2.taps p)).map (f.2.coef p))
          (threshold x.lamP (f.2.fld p GZB_THR_K) (f.2.fld p GZB_THR_C)) r.info.geo.beff) x
        f.2.setGzb (ch / 512) { g with chans := SMap.put {} g.chans (ch % 512) x }))))) ∧
  (∀ (s : State) (t ch : Nat) (r : Release), ch < 2048 → s.upIn t (ch / 512) = true →
    let d := s.begun t
    let c := SMap.get {} (d.getGzb (ch / 512)).chans (ch % 512)
    d.scanCredit (ch / 512) = true → (d.getGzb (ch / 512)).scan = some r → c.extracted = false → r.words ≤ c.pos →
    d.twoPass ch r = false ∨ c.firstDone = true →
    let x := d.extractChannel ch
    exec (.channelExtraction t ch) s = .next (s.put (Dev.scanEnd (ch / 512) (x.2.foldl (Dev.ldgWindow (d.getGzb (ch / 512)).num) x.1)))) ∧
  (∀ (s : State) (t ch : Nat), ch < 2048 → s.upIn t (ch / 512) = true → (s.begun t).scanCredit (ch / 512) = false →
    exec (.scanWord t ch) s = .next (s.ready t) ∧ exec (.channelExtraction t ch) s = .next (s.ready t)) ∧
  (∀ (s : State) (t tr : Nat), tr < 4 → s.upIn t tr = true →
    let d := s.begun t
    let g := d.getGzb tr
    g.busy = true → g.starts ≠ [] →
    exec (.slotMarkerDelivery t tr) s = .next (s.put (
      let e := if g.opened = true then d else d.latchBeds tr
      let y := (e.pairMarker (!g.opened) tr (Core.beginSlot g.num) (fun _ => g.startEntry)).giveMarker
        (fun _ _ => g.startEntry) (fun _ c => c.beginSlot g.num) g.starts
      y.1.setGzb tr { y.1.getGzb tr with starts := y.2, opened := true }))) ∧
  (∀ (s : State) (t tr : Nat), tr < 4 → s.upIn t tr = true →
    let d := s.begun t
    let g := d.getGzb tr
    g.busy = true → g.starts = [] → g.scan = none → g.echoes = [] →
    exec (.slotMarkerDelivery t tr) s = .next (s.put (
      let y := (d.pairMarker (!g.closing) tr id (fun c => slotEndEntry g.num c.given)).giveMarker
        (fun d k => slotEndEntry g.num (d.getCore k).given) (fun _ c => c) g.ends
      y.1.setGzb tr { y.1.getGzb tr with ends := y.2, closing := true, busy := !y.2.isEmpty }))) ∧
  (∀ (s : State) (t ch : Nat) (e : Echo), ch < 2048 → s.up t = true →
    let d := s.begun t
    let tr := ch / 512
    let g := d.getGzb tr
    g.echoes.find? (fun x => x.ch == ch) = some e → g.starts = [] → d.bloomReady g.num ch = true →
    (e.feedOnly = true ∨ d.prm.mid = none ∨ d.prm.mid = some ch) →
    let b := d.bloom tr e
    (e.feedOnly = true ∨ ((b.2.safetyCore (b.2.bedCore (ch / 32)) = true ∨ b.2.coreRoom (b.2.bedCore (ch / 32)) = true) ∧
      (b.2.offerRecord g.num (b.1.record g.num)).2 = true)) →
    exec (.echoRecordDelivery t ch) s = .next (s.put (
      let o := (b.2.offerRecord g.num (b.1.record g.num)).1
      let o := if e.feedOnly = true then b.2
        else Dev.bedPush b.1 g.num { o with prm := { o.prm with mid := if e.last = true then none else some ch } }
      let o := if o.variant = .is then
          let q := o.ldgEcho s.mem g.num b.1
          let v := q.pairPush (pairCore tr) (b.1.entry g.num)
          if q.coreRoom (pairCore tr) = true then v.noteGiven (pairCore tr) else v
        else o
      Dev.recordsIn tr (o.setGzb tr { o.getGzb tr with echoes := (o.getGzb tr).echoes.erase e })))) ∧
  (∀ (s : State) (t tr : Nat) (ini : Initiator) (w : Word), tr < 4 → s.writable t ini (gzbPage tr) GZB_CTRL = true →
    let d := s.landed t (gzbPage tr) GZB_CTRL
    let e := Dev.merged (gzbPage tr) GZB_CTRL (forced GZB_CTRL_EN 0 w) d
    exec (.gzbDisable t ini tr w) s = .next (s.put (
      if bitAt (d.reg (gzbPage tr) GZB_CTRL).toNat 0 = true ∧ e.on (gzbPage tr) GZB_CTRL_EN = false then e.scanAbandoned s.mem tr else e))) ∧
  (∀ (s : State) (t : Nat) (ini : Initiator) (w : Word), s.writable t ini 0x54 GZB_LISTEN = true →
    exec (.gzbListenWrite t ini w) s = .next (s.put ((Dev.merged 0x54 GZB_LISTEN w (s.landed t 0x54 GZB_LISTEN)).clearAlienMaps.seqStart))) ∧
  (∀ (s : State) (t : Nat) (ini : Initiator) (salt : Bool) (w : Word),
    let off := if salt = true then GZB_DITHER_SALT else GZB_DITHER
    s.writable t ini 0x54 off = true →
    exec (.ditherWrite t ini salt w) s = .next (s.put ((Dev.merged 0x54 off w (s.landed t 0x54 off)).seqStart))) ∧
  (∀ (s : State) (t tr : Nat) (ini : Initiator), tr < 4 → s.writable t ini (orgPage tr) ORG_CLEAR = true →
    exec (.orgClear t ini tr) s = .next (s.put ((Dev.merged (orgPage tr) ORG_CLEAR 1 (s.landed t (orgPage tr) ORG_CLEAR)).orgClear tr))) ∧
  (∀ (s : State) (t tr : Nat) (ini : Initiator) (w : Word), tr < 4 → s.writable t ini (orgPage tr) ORG_CTRL = true →
    let d := s.landed t (orgPage tr) ORG_CTRL
    exec (.orgDisable t ini tr w) s = .next (s.put (
      (Dev.merged (orgPage tr) ORG_CTRL (forced ORG_CTRL_EN 0 w) d).orgCtrlWritten tr (d.reg (orgPage tr) ORG_CTRL))) ∧
    exec (.orgModeWrite t ini tr w) s = .next (s.put ((Dev.merged (orgPage tr) ORG_CTRL w d).orgCtrlWritten tr (d.reg (orgPage tr) ORG_CTRL)))) ∧
  (∀ (s : State) (t ch off : Nat) (w : Word), ch < 2048 → off < 0x8000 → off % 4 = 0 → s.upIn t (ch / 512) = true →
    let d := s.begun t
    let a := 0x10000000 + 0x8000 * ch + off
    (d.windowBin ch off = none →
      exec (.orgWindowAccess t a ⟨true, some w⟩) s = .next (s.put (d.windowBusy (ch / 512))) ∧
      exec (.orgWindowAccess t a ⟨true, none⟩) s = .next (s.put ((d.windowBusy (ch / 512)).deliver2 .control [0]))) ∧
    (d.windowBin ch off ≠ none →
      exec (.orgWindowAccess t a ⟨true, some w⟩) s = .next (s.put
        ((d.windowWrite16 ch off (bitsOf w 15 0)).windowWrite16 ch (off + 2) (bitsOf w 31 16))) ∧
      exec (.orgWindowAccess t a ⟨true, none⟩) s = .next (s.put (
        let lo := d.windowRead16 ch off
        let hi := lo.2.windowRead16 ch (off + 2)
        hi.2.deliver2 .control [BitVec.ofNat 32 (hi.1 * 65536 + lo.1)])))) ∧
  (∀ (s : State) (t ch off : Nat) (w : Word), ch < 2048 → off < 0x8000 → off % 2 = 0 → s.upIn t (ch / 512) = true →
    let d := s.begun t
    let a := 0x10000000 + 0x8000 * ch + off
    exec (.orgWindowAccess t a ⟨false, some w⟩) s = .next (s.put (d.windowWrite16 ch off (w.toNat % 65536))) ∧
    exec (.orgWindowAccess t a ⟨false, none⟩) s = .next (s.put (
      ((d.windowRead16 ch off).2.deliver2 .control [BitVec.ofNat 32 (d.windowRead16 ch off).1])))) ∧
  (∀ (s : State) (t off : Nat) (w : Word), off < 0x100000 → off % 4 = 0 → s.upIn t (off / 512 / 512) = true →
    let d := s.begun t
    (d.zoomHalf (off / 512 / 512) = none →
      exec (.zoomWindowAccess t (0x18000000 + off) ⟨true, some w⟩) s = .next (s.put (d.windowBusy (off / 512 / 512))) ∧
      exec (.zoomWindowAccess t (0x18000000 + off) ⟨true, none⟩) s = .next (s.put ((d.windowBusy (off / 512 / 512)).deliver2 .control [0]))) ∧
    (d.zoomHalf (off / 512 / 512) ≠ none →
      exec (.zoomWindowAccess t (0x18000000 + off) ⟨true, some w⟩) s = .next (s.put
        ((d.zoomWrite16 off (bitsOf w 15 0)).zoomWrite16 (off + 2) (bitsOf w 31 16))) ∧
      exec (.zoomWindowAccess t (0x18000000 + off) ⟨true, none⟩) s = .next (s.put (
        let lo := d.zoomRead16 off
        let hi := lo.2.zoomRead16 (off + 2)
        hi.2.deliver2 .control [BitVec.ofNat 32 (hi.1 * 65536 + lo.1)])))) ∧
  (∀ (s : State) (t off : Nat) (w : Word), off < 0x100000 → off % 2 = 0 → s.upIn t (off / 512 / 512) = true →
    let d := s.begun t
    exec (.zoomWindowAccess t (0x18000000 + off) ⟨false, some w⟩) s = .next (s.put (d.zoomWrite16 off (w.toNat % 65536))) ∧
    exec (.zoomWindowAccess t (0x18000000 + off) ⟨false, none⟩) s = .next (s.put (
      ((d.zoomRead16 off).2.deliver2 .control [BitVec.ofNat 32 (d.zoomRead16 off).1])))) ∧
  (∀ (s : State) (t off : Nat) (wide : Bool) (w : Word), off < 0x8000 → off % 4 = 0 → s.upIn t (off / 16 / 512) = true →
    exec (.zoomWindowAccess t (0x18200000 + off) ⟨true, none⟩) s = .next (s.put (
      ((s.begun t).zoomPosition off).2.deliver2 .control [((s.begun t).zoomPosition off).1])) ∧
    exec (.zoomWindowAccess t (0x18200000 + off) ⟨wide, some w⟩) s = .next (s.ready t))

/-- With the lane's receiver on, CDR_LOCK and, after 64 valid headers, BLOCK_LOCK_ACQUIRE set their bits; an invalid header slips the search
or is counted, and the 32nd within 1,024 blocks loses block lock, on LN8 and LN9 the fourth code-group error without enough good ones
between (log entry 80); two matching alignment markers one period apart set AM lock, and a far end that is not aligned is noted; four
periods without one lose it; LOS and LOSS_OF_LOCK are counted, raise their events and clear the lane's locks; XOFF holds transmission and
counts, XON ends the hold and lets the rest of a packet go, a hold longer than XOFF_WARN raises its event once; the writes of the control
registers act on lanes and link. (07_promenade_lanes.md) -/
def Obligations.LinkReceptionCommandsComplete : Prop :=
  (∀ (s : State) (t n : Nat), n < 10 → s.up t = true →
    let d := s.begun t
    let p := lanePage n
    d.laneOn n = true →
    (d.on p PRM_LANE_STATUS_LOS = false ∨ d.deaf n = true →
      exec (.cdrLock t n) s = .next (s.put (Dev.laneChanged n (Dev.setFld
        (if d.on p PRM_LANE_STATUS_CDR_LOCK = true then d else d.setLane n { d.lane n with validFrom := d.now }) p PRM_LANE_STATUS_CDR_LOCK 1)))) ∧
    (d.on p PRM_LANE_STATUS_BLOCK_LOCK = false → (d.on p PRM_LANE_STATUS_CDR_LOCK = true ∨ (n < 8 ∧ d.loopback = 2)) →
      (8 ≤ n ∨ d.headersValid n = true) →
      exec (.blockLockAcquire t n) s = .next (s.put (Dev.laneChanged n
        ((d.setLane n { d.lane n with invalid := [], bad := 0 }).setFld p PRM_LANE_STATUS_BLOCK_LOCK 1)))) ∧
    (d.on p PRM_LANE_STATUS_CDR_LOCK = true → d.deaf n = false → n < 8 → d.on p PRM_LANE_STATUS_BLOCK_LOCK = false →
      exec (.invalidHeaderReceive t n) s = .next (s.put (d.setLane n
        { d.lane n with slip := ((d.lane n).slip + 1) % 66, validFrom := d.now }))) ∧
    (d.on p PRM_LANE_STATUS_CDR_LOCK = true → d.deaf n = false → n < 8 → d.on p PRM_LANE_STATUS_BLOCK_LOCK = true →
      exec (.invalidHeaderReceive t n) s = .next (s.put (
        let inv := ((d.lane n).invalid.filter (fun a => (d.now - a) * 10 < 1024 * 4224)) ++ [d.now]
        let e := (d.bump p PRM_HDR_ERR).setLane n { d.lane n with invalid := inv }
        if 32 ≤ inv.length then e.dropBlock n |>.laneChanged n else e))) ∧
    (d.on p PRM_LANE_STATUS_CDR_LOCK = true → 8 ≤ n →
      exec (.invalidHeaderReceive t n) s = .next (s.put (
        let bad := ((d.lane n).bad - ((d.now - (d.lane n).badAt) / 640 - 1) / 4) + 1
        let e := (d.bump p PRM_HDR_ERR).setLane n { d.lane n with bad := bad, badAt := d.now }
        if 4 ≤ bad ∧ e.on p PRM_LANE_STATUS_BLOCK_LOCK = true then e.dropBlock n else e))) ∧
    (d.on p PRM_LANE_STATUS_BLOCK_LOCK = true → n < 8 → d.deaf n = false →
      exec (.unknownControlBlock t n) s = .next (s.put (d.bump p PRM_HDR_ERR)))) ∧
  (∀ (s : State) (t n id status : Nat), n < 8 → s.up t = true →
    let d0 := s.begun t
    let p := lanePage n
    let l := d0.lane n
    d0.laneOn n = true → d0.on p PRM_LANE_STATUS_BLOCK_LOCK = true → d0.deaf n = false →
    exec (.amBlockReceive t n id status) s = .next (s.put (
      let d := if d0.loopback = 3 ∧ d0.laneSends n = true
        then { d0 with prm := { d0.prm with relayed := SMap.put Block.none d0.prm.relayed n (Block.am id status) } } else d0
      let far := bitAt status 2
      let e := (d.setFld p PRM_LANE_STATUS_AM_LANE id).setFld p PRM_LANE_STATUS_FAR_ALIGNED far.toNat
      let zero := (List.range 8).any (fun m => match (e.lane m).farZeroAt with
        | some a => amPeriod / 2 < e.now - a && e.now - a ≤ amPeriod + amPeriod / 2 | none => false)
      let v := { l with farZeroAt := if far = true then l.farZeroAt else some e.now }
      let e := e.setLane n (if d.on p PRM_LANE_STATUS_AM_LOCK = true ∧ l.amId ≠ id % 256 then v
        else { v with amAt := some e.now, amPrev := l.amAt, amId := id % 256 })
      let e := if (match l.amAt with | some a => onePeriod a d.now && l.amId == id % 256 | none => false) = true
        then e.setFld p PRM_LANE_STATUS_AM_LOCK 1 else e
      (if far = false ∧ zero = true then e.leaveAligned else e).linkEvaluate))) ∧
  (∀ (s : State) (t n a : Nat), n < 8 → s.up t = true → (s.begun t).lanesGated = false → ((s.begun t).lane n).amAt = some a →
    (s.begun t).on (lanePage n) PRM_LANE_STATUS_AM_LOCK = true → 4 * amPeriod ≤ (s.begun t).now - a + 4400 →
    exec (.amLockLoss t n) s = .next (s.put (
      (((s.begun t).setFld (lanePage n) PRM_LANE_STATUS_AM_LOCK 0).setLane n
        { (s.begun t).lane n with amAt := none, amPrev := none }).linkEvaluate))) ∧
  (∀ (s : State) (t n : Nat), n < 10 → s.up t = true →
    let d := s.begun t
    let p := lanePage n
    d.lanesGated = false →
    exec (.losClear t n) s = .next (s.put (d.setFld p PRM_LANE_STATUS_LOS 0)) ∧
    (d.laneState n < 2 →
      (d.on p PRM_LANE_STATUS_LOS = false →
        exec (.losAssert t n) s = .next (s.put (
          let e := ((d.setFld p PRM_LANE_STATUS_LOS 1).bump p PRM_LOS_CNT).raise p 0
          if n < 8 ∧ e.nearEnd = true then e else Dev.laneChanged n (Dev.dropBlock n (e.setFld p PRM_LANE_STATUS_CDR_LOCK 0))))) ∧
      exec (.lossOfLock t n) s = .next (s.put (
        let e := (d.bump p PRM_LOL_CNT).raise p 1
        if n < 8 ∧ e.nearEnd = true then e else Dev.laneChanged n (Dev.dropBlock n (e.setFld p PRM_LANE_STATUS_CDR_LOCK 0)))))) ∧
  (∀ (s : State) (t : Nat), s.up t = true → (s.begun t).lanesGated = false →
    let d := s.begun t
    (d.prm.aligned = true → d.prm.holdFrom = none →
      exec (.xoffReceive t) s = .next (s.put (((Dev.setFld { d with prm := { d.prm with
        holdFrom := some d.now, warned := false, held := d.columnsLeft, holdLimit := d.fld 0x82 PRM_LINK_CFG_XOFF_WARN } }
        0x82 PRM_LINK_STATUS_XOFF 1).bump 0x82 PRM_XOFF_CNT)))) ∧
    exec (.xonReceive t true) s = .next (s.ready t) ∧
    (∀ a, d.prm.holdFrom = some a →
      (d.prm.inFlight = none → exec (.xonReceive t false) s = .next (s.put (Dev.setFld { d with
        prm := { d.prm with holdFrom := none, inFlight := none, held := 0 } } 0x82 PRM_LINK_STATUS_XOFF 0))) ∧
      (∀ p x, d.prm.inFlight = some (p, x) → exec (.xonReceive t false) s = .next (s.put (
        let cs := columnsOf (p.blocks (d.fld 0x03 DTB_CTRL_PARK_INDEX))
        let e := d.putColumns (weave d.amPos (cs.drop (cs.length - d.prm.held)))
        Dev.setFld { e with prm := { e.prm with
          inFlight := some (p, d.columnsEnd (spanFrom d.amPos d.prm.held)), holdFrom := none, held := 0 } } 0x82 PRM_LINK_STATUS_XOFF 0))) ∧
      (0 < d.prm.holdLimit → a + 80000 * d.prm.holdLimit < d.now → d.prm.warned = false →
        exec (.xoffLong t) s = .next (s.put (Dev.raise 0x82 3 { d with prm := { d.prm with warned := true } }))))) ∧
  (∀ (s : State) (t n : Nat) (ini : Initiator) (w : Word), n < 10 → s.writable t ini (lanePage n) PRM_LANE_CTRL = true →
    let e := (Dev.merged (lanePage n) PRM_LANE_CTRL w (s.begun t)).laneCtrlWritten n ((s.begun t).reg (lanePage n) PRM_LANE_CTRL)
    exec (.prbsWrite t ini n w) s = .next (s.put e) ∧ exec (.pstateWrite t ini n w) s = .next (s.put e)) ∧
  (∀ (s : State) (t : Nat) (ini : Initiator) (w : Word), s.writable t ini 0x82 PRM_LINK_CTRL = true →
    let e := (Dev.merged 0x82 PRM_LINK_CTRL w (s.begun t)).linkCtrlWritten
    exec (.loopbackWrite t ini w) s = .next (s.put e) ∧ exec (.pstateWrite t ini 10 w) s = .next (s.put e)) ∧
  (∀ (s : State) (t n : Nat), n < 10 → s.up t = true → (s.begun t).laneOn n = true →
    bitAt ((s.begun t).fld (lanePage n) PRM_LANE_CTRL_PRBS) 1 = true →
    exec (.prbsBitError t n) s = .next (s.put (
      if ((s.begun t).lane n).prbsFrom + (if n < 8 then 205 else 2048) ≤ (s.begun t).now then (s.begun t).bumpFirst (lanePage n) PRM_PRBS_ERR 3
      else (s.begun t).setLane n { (s.begun t).lane n with prbsFrom := (s.begun t).now }))) ∧
  (∀ (s : State) (t n : Nat) (up gig full : Bool), n = 8 ∨ n = 9 → s.up t = true → (s.begun t).variant = .is → (s.begun t).laneOn n = true →
    (s.begun t).on (lanePage n) PRM_LANE_STATUS_BLOCK_LOCK = true →
    exec (.sgmiiControlWord t n up gig full) s = .next (s.put (Dev.setFld { s.begun t with
      prm := { (s.begun t).prm with sgmiiAck := SMap.put false (s.begun t).prm.sgmiiAck n true } }
      (lanePage n) PRM_LANE_STATUS_FAR_ALIGNED (up && gig && full).toNat)))

/-- SLOT_HEADER_COMMIT takes the oldest slot once its last record is accepted: on a link that is aligned, with its frame started and no tap
staged, it creates the slot packet of its header and records, then the END marker of its frame when that was its last; PACKET_SEND puts
the oldest packet on the lanes for as long as its columns take; MARKER_SEND enters the oldest marker and lets a waiting pulse in;
AM_COLUMN_SEND at its column sends the eight alignment markers, with block lock, AM lock and LOCAL_ALIGNED, and the idle column after
them. (06_points_time.md, 07_promenade_lanes.md) -/
def Obligations.LinkSendingCommandsComplete : Prop :=
  (∀ (s : State) (t : Nat) (x : SlotRec) (rest : List SlotRec) (f : FrameRec), s.up t = true →
    let d := s.begun t
    d.slots = x :: rest → x.acquiring = false → x.due = 0 → d.prm.aligned = true → d.lanesGated = false → d.hasSpace 128 = true →
    d.frames.find? (fun g => g.num == x.frame) = some f → f.started = true → x.taps = [] → x.lost = false → x.touched = false →
    exec (.slotHeaderCommit t) s = .next (s.put (
      let e := Dev.createPacket 1 (x.header false ++ x.records) { d with slots := rest } (if x.skipped = true then some x.frame else none)
      (Dev.closeFrame x.frame { e with frames := e.frames.map (fun g => g) }).egressUpdate))) ∧
  (∀ (s : State) (t : Nat) (p : Packet) (rest : List Packet), s.up t = true →
    let d := s.begun t
    d.prm.queue = p :: rest → d.prm.aligned = true → d.prm.inFlight = none → d.prm.holdFrom = none →
    exec (.packetSend t) s = .next (s.put (
      let e := d.putColumns (weave d.amPos (columnsOf (p.blocks (d.fld 0x03 DTB_CTRL_PARK_INDEX))))
      { e with prm := { e.prm with
          queue := rest, inFlight := some (p, d.columnsEnd (spanFrom d.amPos (packetColumns p.payload.length))) } }))) ∧
  (∀ (s : State) (t : Nat) (m : Marker) (rest : List Marker), s.up t = true →
    let d := s.begun t
    d.evm.markers = m :: rest → (d.offerPayload 5 m.payload).2 = true →
    exec (.markerSend t) s = .next (s.put (
      let e := (d.offerPayload 5 m.payload).1
      { e with evm := Evm.acceptWaiting { e.evm with markers := rest } }))) ∧
  (∀ (s : State) (t : Nat), s.up t = true →
    let d := s.begun t
    d.lanesGated = false → d.on 0x01 PWR_STATUS_LANE_PLL_LOCKED = true → d.on 0x82 PRM_LINK_CTRL_PSTATE = false → d.loopback ≠ 3 →
    d.amDue = true →
    exec (.amColumnSend t) s = .next (s.put (
      let col := (List.range 8).map (fun n => if bitAt (d.fld (lanePage n) PRM_LANE_CTRL_PRBS) 0 = true then Block.none
        else Block.am n (d.fld (lanePage n) PRM_LANE_STATUS_BLOCK_LOCK
          + 2 * d.fld (lanePage n) PRM_LANE_STATUS_AM_LOCK + 4 * d.prm.localAligned.toNat))
      let e : Dev := { d with prm := { d.prm with amSent := d.prm.amSent + 1, amOut := col, lastAm := some d.now } }
      let e := if d.prm.inFlight.isSome = true ∧ d.prm.holdFrom = none then e else e.putColumns [col, List.replicate 8 Block.idle]
      if e.nearEnd = true then
        (List.range 8).foldl (fun (e : Dev) n => if (col.getD n Block.none).bytes.isEmpty = true then e else e.amHear n n d.prm.localAligned) e
      else e)))

/-- From an aligned link, leaving ALIGNED empties the packet queue and the transmission, clears the hold and XOFF, keeps no record and no
staged tap of an open slot and marks a slot lost that had records, adds the number of discarded packets and taps to PRM.DISCARD_PKT, takes
a sequence number for each tap, and adds one to PRM.ALIGN_LOSS_CNT, and one to PRM.ABORT_CNT when a packet was in transmission; an
unaligned link keeps its packets. (07_promenade_lanes.md) -/
def Obligations.LeavingAlignedDiscardsAndCounts : Prop :=
  (∀ d : Dev, d.prm.aligned = true →
    let e := d.leaveAligned
    let staged := (d.slots.map (fun x => x.taps.length)).foldl (fun a b => a + b) 0
    e.prm.aligned = false ∧ e.prm.queue = [] ∧ e.prm.inFlight = none ∧ e.prm.holdFrom = none ∧ e.prm.await = true ∧
    (∀ x ∈ e.slots, x.records = [] ∧ x.taps = []) ∧
    e.slots.map (fun x => x.lost) = d.slots.map (fun x => x.lost || !x.records.isEmpty) ∧
    e.reg 0x82 PRM_DISCARD_PKT = d.reg 0x82 PRM_DISCARD_PKT
      + BitVec.ofNat 32 (d.prm.queue.length + staged + (if d.prm.inFlight = none then 0 else 1)) ∧
    e.fld 0x82 PRM_SEQ_NEXT_SEQ = (d.fld 0x82 PRM_SEQ_NEXT_SEQ + staged) % 65536 ∧
    e.reg 0x82 PRM_ABORT_CNT = d.reg 0x82 PRM_ABORT_CNT + (if d.prm.inFlight = none then 0 else 1) ∧
    e.reg 0x82 PRM_ALIGN_LOSS_CNT = d.reg 0x82 PRM_ALIGN_LOSS_CNT + 1 ∧ e.on 0x82 PRM_LINK_STATUS_XOFF = false) ∧
  (∀ d : Dev, d.prm.aligned = false → d.leaveAligned.prm = d.prm ∧ d.leaveAligned.slots = d.slots)

/-- LOOP_SAMPLE_TIME at a loop's sample time lets what is outstanding be missing, moves the loop's state and issues the requests of the new
sample; LOOP_UPDATE serves the earliest sample that is ready (a tie to the lower loop) with its code halved, its temperature, or as
missing; PWM_PERIOD_START at the end of a period takes the latest high time and period; a write of SP clamps the target and flags it;
writes of FTN.CTRL act part by part. (10_fountain_loops.md) -/
def Obligations.LoopCommandsComplete : Prop :=
  (∀ (s : State) (t l : Nat), l < 8 → s.up t = true →
    let d := s.begun t
    (d.loopState l ≠ ftnOffSt ∨ (d.getLoop l).starting = true) → (d.getLoop l).sampledAt ≠ some d.now →
    d.edgeTime % (8000 * d.loopPeriod l) = (50000 * l) % (8000 * d.loopPeriod l) →
    exec (.loopSampleTime t l) s = .next (s.put (
      let d := (d.overdue l).sampleState l
      let x := d.getLoop l
      let sep := l < 2 && d.on (ftnPage l) FTN_SRC_ANG_SEP
      let n : LoopSample := ⟨x.idx + 1, d.now, .pending, if sep = true then some .pending else none⟩
      let e := d.setLoop l { x with idx := x.idx + 1, samples := x.samples ++ [n], sampledAt := some d.now }
      let e := if d.on (ftnPage l) FTN_SRC_FB_TS = true then e.measArrive l false n.idx (e.tempMeas (d.lf l FTN_SRC_FB_IN))
        else (e.loopRequest l false (e.lf l FTN_SRC_FB_SAR) (d.lf l FTN_SRC_FB_IN)).1
      if sep = true then (e.loopRequest l true (e.lf l FTN_SRC_ANG_SAR) (e.lf l FTN_SRC_ANG_IN)).1 else e))) ∧
  (∀ (s : State) (t l : Nat) (x : LoopSample), s.up t = true →
    let d := s.begun t
    d.nextServed = some (l, x) →
    let e := d.setLoop l { d.getLoop l with samples := (d.getLoop l).samples.filter (fun z => z.idx != x.idx) }
    (∀ c f, x.fb = .code c f →
      exec (.loopUpdate t) s = .next (s.put (e.updateValid l x ((c / 2 : Nat) : Int) (bitAt f 1 || bitAt f 2) f))) ∧
    (∀ y f, x.fb = .temp y f → exec (.loopUpdate t) s = .next (s.put (e.updateValid l x y f 0))) ∧
    (x.fb = .missing → exec (.loopUpdate t) s = .next (s.put (e.updateMissing l)))) ∧
  (∀ (s : State) (t l a : Nat), l < 8 → s.up t = true →
    let x := (s.begun t).getLoop l
    x.pwmAt = some a → a + 256 * x.pwmPeriod ≤ (s.begun t).now →
    exec (.pwmPeriodStart t l) s = .next (s.put ((s.begun t).setLoop l { x with
      pwmAt := some (a + 256 * x.pwmPeriod), pwmHigh := ((s.begun t).pwmCounts l).1, pwmPeriod := ((s.begun t).pwmCounts l).2 }))) ∧
  (∀ (s : State) (t l : Nat) (ini : Initiator) (w : Word), l < 8 → s.servedTo t ini = true →
    let d := s.begun t
    let c := min (max (signed 16 w.toNat) (d.lq l FTN_SP_LIM_SP_MIN)) (d.lq l FTN_SP_LIM_SP_MAX)
    let e := (d.setFld (ftnPage l) FTN_SP_TARGET (toBits 16 c)).setFld (ftnPage l) FTN_STATE_SP_CLAMPED (if c = signed 16 w.toNat then 0 else 1)
    exec (.ftnSpWrite t ini l w) s = .next (s.put ((if c = signed 16 w.toNat then e else e.raise (ftnPage l) 5).rampFlag l)) ∧
    exec (.ftnEnableWrite t ini l w) s = .next (s.put (d.ftnCtrlWrite l w true)) ∧
    exec (.ftnCloseWrite t ini l w) s = .next (s.put (d.ftnCtrlWrite l w true)))

/-- After the first CLOSED update of a loop, an update on measurement y ramps the set-point towards its target by RAMP_UP or RAMP_DN and not
past it; the integrator adds KI times the error and is clamped; the derivative is filtered; the output code is the shifted sum clamped to
16 bits and to the output limits; the loop's accumulators hold the new values. (10_fountain_loops.md) -/
def Obligations.LoopUpdatesFollowThePid : Prop :=
  ∀ (d : Dev) (l : Nat) (y : Int), l < 8 → (d.getLoop l).first = false →
    let r := d.rampStep l
    let x := d.getLoop l
    let e := clampI (-32768) 32767 (r.spR l / 256 - y)
    let lim := d.lu l FTN_SHAPE_ICLAMP * 32768
    let i := clampI (-lim) lim (x.i + d.lq l FTN_GAIN_PI_KI * e)
    let df := clampI (-(2 ^ 23 - 1)) (2 ^ 23 - 1)
      (x.df + d.lu l FTN_GAIN_D_DALPHA * (256 * clampI (-32768) 32767 (y - x.yPrev) - x.df) / 32768)
    let acc := d.lq l FTN_GAIN_PI_KP * e + i - d.lq l FTN_GAIN_D_KD * df / 256
    (d.pid l y).2 = e ∧ ((d.pid l y).1.getLoop l).i = i ∧ ((d.pid l y).1.getLoop l).df = df ∧ ((d.pid l y).1.getLoop l).acc = acc ∧
    (d.pid l y).1.lf l FTN_OUT_U = (clampI 0 32767 (min (max (clampI (-32768) 32767 (acc * 2 ^ (d.lf l FTN_SHAPE_SH) / 32768))
      (d.lu l FTN_OUT_LIM_OUT_MIN)) (d.lu l FTN_OUT_LIM_OUT_MAX))).toNat

/-- A SAR conversion of a single-ended input ends on its samples with the truncated mean of their codes, its flags, its requester's answer and
its record; a routine falls due at multiples of its period, starts or waits; a filter output to Cascade, to a record or to a notch window
carries its clamped code; a notch window ends with a result; a clamp's conduction is noted and flagged once; a wire check starts in its
slot of the 20 ms cycle and its result is compared with the limits; the writes of EXC, PMP.CTRL and SD_CTRL take their words and start or
stop what they name. (11_pumphouse_analog.md) -/
def Obligations.ConversionCommandsComplete : Prop :=
  (∀ (s : State) (t n : Nat) (samples : List (Int × Nat)) (j : SarJob), n < 4 → s.up t = true →
    let d := s.begun t
    (d.getSar n).job = some j → j.start + Config.ns (200 * (j.navg + 1)) ≤ d.now → samples.length = j.navg →
    j.input < 24 → j.who ≠ whoRoutine → j.who ≠ whoGatehouse → j.who % 2 = 1 →
    bitsOf j.cfg PMP_SAR_CFG_LOG.hi PMP_SAR_CFG_LOG.lo = 0 → (∀ x ∈ samples, 0 < ainCode x.1 ∧ ainCode x.1 < 65535) →
    spanOverlaps (d.clampSpans j.input) j.start (j.start + Config.ns (200 * j.navg)) = false → d.bit 0x8E PMP_WIRE_FAULT j.input = false →
    let c := min ((samples.map (fun x => ainCode x.1)).foldl (fun a b => a + b) 0 / 2 ^ j.shift) 65535
    let v : Int := (Int.ofNat c - 32768) * 256
    let time := coarse (d.edgeTime - (d.now - (j.start + Config.ns (200 * j.navg))))
    exec (.sarConversionDone t n samples) s = .next (s.put (
      let e := (d.setSar n { d.getSar n with job := none }).setBusy (2 + n) false
      let e := ((e.sampleTo j.input v (blvFlags rfUrgent) time).sampleTo (0x40 + n) v (blvFlags rfUrgent) time).measArrive
        ((j.who - 1) / 2) false j.tag (.code c (blvFlags rfUrgent))
      if (e.getSar n).waiting = true then e.routineStart n else e))) ∧
  (∀ (s : State) (t n : Nat), n < 4 → s.up t = true →
    let d := s.begun t
    let per := d.fld 0x90 (PMP_SAR_ROUTINE_PERIOD.plus (4 * n))
    let inp := d.fld 0x90 (PMP_SAR_ROUTINE_IN.plus (4 * n))
    d.on 0x8E PMP_CTRL_EN = true → per ≠ 0 → inp < 28 → d.edgeTime % (80000 * per) = 0 →
    ((d.getSar n).job ≠ none → exec (.sarRoutineDue t n) s = .next (s.put (d.setSar n { d.getSar n with waiting := true }))) ∧
    ((d.getSar n).job = none → exec (.sarRoutineDue t n) s = .next (s.put (
      (d.setSar n { d.getSar n with waiting := false }).sarBegin n whoRoutine 0 inp)))) ∧
  (∀ (s : State) (t m : Nat) (v : Int) (w : Word), m < 2 → s.up t = true →
    let d := s.begun t
    let x := d.getSd m
    x.entry = some w → d.on 0x01 PWR_STATUS_AUX_PLL_LOCKED = true → x.release + sdN w * sdPeriod w ≤ d.now →
    (d.now - x.release) % sdPeriod w = 0 → x.release < d.now → sdCsc w = false → sdF w PMP_SD_LIST_NOTCH = 0 →
    -1250000000 ≤ v - 1250000000 → v < 2500000000 → spanOverlaps (d.clampSpans (sdF w PMP_SD_LIST_IN)) (d.now - sdN w * sdPeriod w) d.now = false →
    spanOverlaps (d.toneSpans (sdF w PMP_SD_LIST_IN)) (d.now - sdN w * sdPeriod w) d.now = false →
    exec (.sincOutput t m v) s = .next (s.put (d.sdResult m w ((v - 1250000000) * 8388608 / 1250000000) 0 d.devTime))) ∧
  (∀ (s : State) (t m : Nat) (w : Word) (n : Notch), m < 2 → s.up t = true →
    let d := s.begun t
    let x := d.getSd m
    x.entry = some w → x.notch = some n → x.held = none → n.hi = false → n.lo = false → n.start + n.len ≤ d.now → n.sum % (n.len : Int) = 0 →
    exec (.notchWindowEnd t m) s = .next (s.put (
      (Dev.notchBegin m (sdF w PMP_SD_LIST_NOTCH) (n.start + n.len) { d with freeCtr := d.freeCtr + 1 }).sdResult m w (n.sum / (n.len : Int))
        n.flags n.last))) ∧
  (∀ (s : State) (t i : Nat), i < 28 → s.up t = true →
    let d := s.begun t
    let sp := d.clampSpans i
    exec (.clampConduction t i false) s = .next (s.put { d with pmp := { d.pmp with clamp := SMap.put [] d.pmp.clamp i (spanClose sp d.now) } }) ∧
    (spanIsOpen sp = false → exec (.clampConduction t i true) s = .next (s.put (
      let e : Dev := { d with pmp := { d.pmp with clamp := SMap.put [] d.pmp.clamp i (spanOpen sp d.now) } }
      if e.bit 0x8E PMP_CLAMP i = true then e else (e.setBit 0x8E PMP_CLAMP i).raise 0x8E 0)))) ∧
  (∀ (s : State) (t i : Nat), i < 28 → s.up t = true →
    let d := s.begun t
    d.on 0x8E PMP_CTRL_WIRE_EN = true → d.on 0x91 (PMP_IN_CFG_WIRE_EN.plus (4 * i)) = true → d.pmp.check = none →
    d.edgeTime % 1600000000 = 50000000 * i →
    let z := d.fld 0x91 (PMP_WIRE_Z_Z.plus (4 * i))
    let low := d.on 0x91 (PMP_WIRE_Z_VALID.plus (4 * i)) && (if d.on 0x91 (PMP_WIRE_Z_RANGE.plus (4 * i)) = true then 80000 ≤ z else 100000 < z)
    exec (.wireCheckStart t i) s = .next (s.put { d with
      pmp := { d.pmp with check := some (2 * i + low.toNat, d.now), tone := SMap.put [] d.pmp.tone i (spanOpen (d.toneSpans i) d.now) } })) ∧
  (∀ (s : State) (t z k a : Nat), s.up t = true →
    let d := s.begun t
    d.pmp.check = some (k, a) → a + 39062500 ≤ d.now → 10 ≤ z → z ≤ 1000000 →
    exec (.wireCheckDone t z) s = .next (s.put (
      let i := k / 2
      let e : Dev := { d with
        pmp := { d.pmp with check := none, tone := SMap.put [] d.pmp.tone i (spanClose (d.toneSpans i) d.now) } }
      let e := e.setRegN 0x91 (PMP_WIRE_Z + 4 * i) (2 ^ 31 + 2 ^ 24 * (k % 2) + z)
      if z < e.fld 0x91 (PMP_WIRE_LIM_LO.plus (4 * i)) ∨ 16 * e.fld 0x91 (PMP_WIRE_LIM_HI.plus (4 * i)) < z then
        if e.bit 0x8E PMP_WIRE_FAULT i = true then e else (e.setBit 0x8E PMP_WIRE_FAULT i).raise 0x8E 2
      else e.clrBit 0x8E PMP_WIRE_FAULT i))) ∧
  (∀ (s : State) (t n : Nat) (ini : Initiator) (w : Word), n < 4 → s.servedTo t ini = true →
    exec (.excWrite t ini n w) s = .next (s.put (
      let e := Dev.merged 0x90 (PMP_EXC + 4 * n) w (s.begun t)
      if (s.begun t).locked 0x90 = true then e
      else
        let e := e.excSettle n
        if e.on 0x90 (PMP_EXC_CHOP.plus (4 * n)) = true then e
        else
          let e := e.setExc n { e.getExc n with convs := 0 }
          if e.bit 0x90 PMP_EXC_STATUS n = true then e.excPhase n false else e))) ∧
  (∀ (s : State) (t : Nat) (ini : Initiator) (w : Word), s.servedTo t ini = true →
    exec (.pmpDisable t ini w) s = .next (s.put (
      (Dev.merged 0x8E PMP_CTRL (forced PMP_CTRL_EN 0 w) (s.begun t)).pmpCtrlWritten ((s.begun t).reg 0x8E PMP_CTRL)))) ∧
  (∀ (s : State) (t m : Nat) (ini : Initiator) (w : Word), m < 2 → s.servedTo t ini = true →
    exec (.sdEnableWrite t ini m w) s = .next (s.put (
      (Dev.merged 0x8F (PMP_SD_CTRL + 4 * m) w (s.begun t)).sdCtrlWritten m ((s.begun t).reg 0x8F (PMP_SD_CTRL + 4 * m)))))

/-- CSC_SERVICE_POINT takes every buffered input of a running channel through its stages, after a flush that is due, and clears a channel that
is off; CSC_OUTPUT_RELEASE delivers the oldest output when it is due; the writes of CSC take their words and flush what they change; a
trigger unit's timeout, ARM, ABORT, FORCE, the timeout of a capture, the mask test and the dump move the capture state and raise their
events; RD_DATA gives the image's word and advances the address. (12_cascade_filters.md, 13_belvedere_capture.md) -/
def Obligations.CascadeAndCaptureCommandsComplete : Prop :=
  (∀ (s : State) (t c : Nat), c < 16 → s.up t = true →
    let d := s.begun t
    d.edgeTime % 64000 = 4000 * c →
    (d.cscOn c = false → exec (.cscServicePoint t c) s = .next (s.put ((d.setCsc c { d.getCsc c with buf := [] }).cscFlush c))) ∧
    (d.cscOn c = true → (d.getCsc c).flush = false → exec (.cscServicePoint t c) s = .next (s.put (
      (d.getCsc c).buf.foldl (Dev.cscProcess c) (d.setCsc c { d.getCsc c with buf := [] })))) ∧
    (d.cscOn c = true → (d.getCsc c).flush = true → exec (.cscServicePoint t c) s = .next (s.put (
      ((d.cscFlush c).getCsc c).buf.foldl (Dev.cscProcess c) ((d.cscFlush c).setCsc c { (d.cscFlush c).getCsc c with buf := [] }))))) ∧
  (∀ (s : State) (t c : Nat) (o : CscOut) (rest : List CscOut), c < 16 → s.up t = true →
    let d := s.begun t
    let on (m : Nat) : Bool := match (d.getSd m).entry with
      | some w => (d.getSd m).bound && sdF w PMP_SD_LIST_CSC_CH == c
      | none => false
    (d.getCsc c).outs = o :: rest → o.due ≤ d.now →
    exec (.cscOutputRelease t c) s = .next (s.put (
      let e := (d.setCsc c { d.getCsc c with outs := rest, lastTime := o.time }).sampleTo (0x20 + c) o.value (blvFlags o.flags) o.time
      let e := if bitAt o.flags 0 = true ∧ e.bit 0x92 CSC_OVR c = false then (e.setBit 0x92 CSC_OVR c).raise 0x92 0 else e
      let e := ((e.cscPeak c o.value).cscRms c o.value).cscEnvelope c o.value
      let e := e.resultOut (6 + c) (e.cf c CSC_CH_CFG_DMA) o.value o.value o.lin o.input 6 o.flags c o.time
      let e := if on 0 = true then e.sdDwell 0 else e
      if on 1 = true then e.sdDwell 1 else e))) ∧
  (∀ (s : State) (t c : Nat) (ini : Initiator) (w : Word), c < 16 → s.servedTo t ini = true →
    exec (.cscEnableWrite t ini w) s = .next (s.put (
      (Dev.merged 0x92 CSC_CTRL w (s.begun t)).cscCtrlWritten ((s.begun t).reg 0x92 CSC_CTRL))) ∧
    exec (.cscChannelConfigWrite t ini c w) s = .next (s.put (
      (Dev.merged 0x92 (CSC_CH_CFG + 32 * c) w (s.begun t)).cscCfgWritten c ((s.begun t).reg 0x92 (CSC_CH_CFG + 32 * c))))) ∧
  (∀ (s : State) (t x : Nat), x < 4 → s.up t = true → exec (.timeoutTrigger t x) s = .next (s.put (
    ((s.begun t).blvTimeout x).1.raiseAll 0x93 ((s.begun t).blvTimeout x).2))) ∧
  (∀ (s : State) (t : Nat) (ini : Initiator) (w : Word), s.servedTo t ini = true →
    let act (v : Word) : Dev :=
      let e := Dev.merged 0x93 BLV_CTRL v (s.begun t)
      let e := if bitAt v.toNat BLV_CTRL_ABORT.lo = true then e.blvAbort else e
      let e := if bitAt v.toNat BLV_CTRL_ARM.lo = true then e.blvArm else e
      if bitAt v.toNat BLV_CTRL_FORCE.lo = true then (e.blvTrigger 5 e.devTime).1.raiseAll 0x93 (e.blvTrigger 5 e.devTime).2 else e
    exec (.blvArm t ini w) s = .next (s.put (act (forced BLV_CTRL_ARM 1 w))) ∧
    exec (.blvAbort t ini w) s = .next (s.put (act (forced BLV_CTRL_ABORT 1 w))) ∧
    exec (.blvForce t ini w) s = .next (s.put (act (forced BLV_CTRL_FORCE 1 w)))) ∧
  (∀ (s : State) (t : Nat), s.up t = true →
    let d := s.begun t
    (d.blvState = blvPost → d.blv.tTrig + 2 ^ 41 ≤ d.edgeTime →
      exec (.blvTimeoutEnd t) s = .next (s.put ((d.blvEndPost true).1.raiseAll 0x93 (d.blvEndPost true).2))) ∧
    (d.blvState = blvMask → exec (.blvMaskTestDone t) s = .next (s.put (d.blvMaskDone.1.raiseAll 0x93 d.blvMaskDone.2)))) ∧
  (∀ (s : State) (t : Nat), s.up t = true →
    let d := s.begun t
    let base := 4096 * d.blv.base
    d.blvState = blvDump → d.blv.dest = 2 → base + d.blvImage.length ≤ 0x800000 →
    exec (.blvDumpDone t) s = .next (
      let e := d.setFld 0x93 BLV_STATUS_DUMP_ERR 0
      { s with mem := memPutBytes s.mem base d.blvImage, dev := e.blvFinish.1.raiseAll 0x93 e.blvFinish.2 })) ∧
  (∀ (s : State) (t : Nat), s.up t = true →
    let d := s.begun t
    (d.blvState = blvDone ∨ d.blvState = blvStopped) → 4 * d.fld 0x93 BLV_RD_ADDR_ADDR < d.blvImage.length →
    exec (.blvReadData t .control) s = .next (s.put ((d.setFld 0x93 BLV_RD_ADDR_ADDR (d.fld 0x93 BLV_RD_ADDR_ADDR + 1)).deliver2 .control
      [BitVec.ofNat 32 (ofLe ((d.blvImage.drop (4 * d.fld 0x93 BLV_RD_ADDR_ADDR)).take 4))])))

/-- Every coefficient set is symmetric with centre 65,536 and sums to 2^17 (R271); rounding to 2^-17 gives the nearest integer and the even
one of two equally near (R272); a stage answers every second input once its delay line is full, with values in 24 bits; the RMS
accumulator never exceeds the square of 8,388,607 and the envelope never exceeds 256 times it (R278, R279). (12_cascade_filters.md) -/
def Obligations.CascadeFilterLaws : Prop :=
  (∀ k, k < 4 → ((List.range (2 * (halfBandSet k).1 + 1)).foldl (fun (a : Int) i =>
      a + halfBandCoef k (if i ≤ (halfBandSet k).1 then (halfBandSet k).1 - i else i - (halfBandSet k).1)) 0) = 131072) ∧
  (∀ n : Int, -65536 ≤ n - 131072 * roundHalfEven17 n ∧ n - 131072 * roundHalfEven17 n ≤ 65536 ∧
    (n - 131072 * roundHalfEven17 n = 65536 ∨ n - 131072 * roundHalfEven17 n = -65536 → roundHalfEven17 n % 2 = 0)) ∧
  (∀ (h : HalfBand) (k : Nat) (x y : Int) (o : Bool), (h.step k x).2 = some (y, o) →
    -8388608 ≤ y ∧ y ≤ 8388607 ∧ 2 * (halfBandSet k).1 + 1 ≤ h.n + 1 ∧ (h.n + 1 - (2 * (halfBandSet k).1 + 1)) % 2 = 0) ∧
  (∀ (d : Dev) (c : Nat) (x : Int), -8388608 ≤ x → x ≤ 8388607 → (d.getCsc c).ms ≤ 8388607 ^ 2 →
    ((d.cscRms c x).getCsc c).ms ≤ 8388607 ^ 2) ∧
  (∀ (d : Dev) (c : Nat) (x : Int), -8388608 ≤ x → x ≤ 8388607 → (d.getCsc c).env ≤ 256 * 8388607 →
    ((d.cscEnvelope c x).getCsc c).env ≤ 256 * 8388607)

/-- When core k runs, the instruction at its PC has the opcode, its sources are readable and D names a 24-bit destination: ADD and SUB are
modulo 2^24 with C the carry or the borrow; AND, OR and XOR are bitwise; SHL and SHR shift by bits 4 to 0 of T, 24 or more giving zeros or
the sign; MAX and MIN are signed; ABS of the most negative value is the largest; MOV copies S. Z and N follow the result, C is changed by
ADD, SUB and CMP alone, D takes the result after the post-increments, and the PC goes to the next address (round the innermost repeat).
(14_pergola_dsp.md) -/
def Obligations.PergolaArithmeticCompletes : Prop :=
  (∀ (s : State) (t k : Nat) (a b : W24),
    let d := s.pglDev t k
    let f := s.pglFlds t k
    let pc := (s.begun t).fld (pglPage k) PGL_PC_PC
    d.srcS k f = .val a → d.srcT k f = .val b → isDest f.d = true →
    let done (r : W24) (c : Option Bool) : Host.Outcome State Fault Refusal :=
      let e := d.putD k f [f.m1, f.m2] r
      let x := (e.getCore k).setZN r
      .next (s.put (Dev.pglAfter k pc [f.m1, f.m2] (e.setCore k (match c with | some c => { x with c := c } | none => x))))
    (s.runsOp t k 0x0A = true → exec (.pglAdd t k) s = done (a + b) (some (decide (2 ^ 24 ≤ a.toNat + b.toNat)))) ∧
    (s.runsOp t k 0x0B = true → exec (.pglSub t k) s = done (a - b) (some (decide (a.toNat < b.toNat)))) ∧
    (s.runsOp t k 0x0C = true → exec (.pglAnd t k) s = done (a &&& b) none) ∧
    (s.runsOp t k 0x0D = true → exec (.pglOr t k) s = done (a ||| b) none) ∧
    (s.runsOp t k 0x0E = true → exec (.pglXor t k) s = done (a ^^^ b) none) ∧
    (s.runsOp t k 0x0F = true → exec (.pglShl t k) s = done
      (if 24 ≤ b.toNat % 32 then 0 else BitVec.ofNat 24 (a.toNat * 2 ^ (b.toNat % 32))) none) ∧
    (s.runsOp t k 0x10 = true → exec (.pglShr t k) s = done
      (if 24 ≤ b.toNat % 32 then (if a.toInt < 0 then -1 else 0) else BitVec.ofInt 24 (a.toInt / 2 ^ (b.toNat % 32))) none) ∧
    (s.runsOp t k 0x12 = true → exec (.pglMax t k) s = done (BitVec.ofInt 24 (max a.toInt b.toInt)) none) ∧
    (s.runsOp t k 0x13 = true → exec (.pglMin t k) s = done (BitVec.ofInt 24 (min a.toInt b.toInt)) none)) ∧
  (∀ (s : State) (t k : Nat) (a b : W24),
    let d := s.pglDev t k
    let f := s.pglFlds t k
    let pc := (s.begun t).fld (pglPage k) PGL_PC_PC
    d.srcS k f = .val a → d.srcT k f = .val b → s.runsOp t k 0x11 = true →
    exec (.pglCmp t k) s = .next (s.put (Dev.pglAfter k pc [f.m1, f.m2] (d.setCore k { (d.getCore k).posts [f.m1, f.m2] with
      z := a - b == 0, n := (a - b).msb, c := decide (a.toNat < b.toNat) })))) ∧
  (∀ (s : State) (t k : Nat) (a : W24),
    let d := s.pglDev t k
    let f := s.pglFlds t k
    let pc := (s.begun t).fld (pglPage k) PGL_PC_PC
    d.srcS k f = .val a → isDest f.d = true →
    let done (r : W24) : Host.Outcome State Fault Refusal :=
      let e := d.putD k f [f.m1] r
      .next (s.put (Dev.pglAfter k pc [f.m1] (e.setCore k ((e.getCore k).setZN r))))
    (s.runsOp t k 0x04 = true → exec (.pglMov t k) s = done a) ∧
    (s.runsOp t k 0x14 = true → exec (.pglAbs t k) s = done (if a.toInt = -8388608 then 0x7FFFFF else BitVec.ofNat 24 a.toInt.natAbs)))

/-- NOP only goes on; LDI puts the immediate into D and GETT bits 33 to 10 of device time; LD puts the word that M1 selects into D; ST stores
S at the address of an enabled M2 and stores nothing when M2 is disabled; LDST loads the old word at M1 into D and stores the register S
at M2. No flag changes. LD of a word with a double-bit error traps with cause ECC instead. (14_pergola_dsp.md) -/
def Obligations.PergolaMovesComplete : Prop :=
  (∀ (s : State) (t k : Nat), s.runsOp t k 0x01 = true →
    let d := s.pglDev t k
    let pc := (s.begun t).fld (pglPage k) PGL_PC_PC
    exec (.pglNop t k) s = .next (s.put (Dev.pglAfter k pc [] d))) ∧
  (∀ (s : State) (t k : Nat),
    let d := s.pglDev t k
    let f := s.pglFlds t k
    let pc := (s.begun t).fld (pglPage k) PGL_PC_PC
    isDest f.d = true →
    (s.runsOp t k 0x05 = true → exec (.pglLdi t k) s = .next (s.put (Dev.pglAfter k pc [] (d.putD k f [] (BitVec.ofNat 24 f.imm))))) ∧
    (s.runsOp t k 0x09 = true → exec (.pglGett t k) s = .next (s.put (Dev.pglAfter k pc [] (d.putD k f []
      (BitVec.ofNat 24 (d.devTime / 1024))))))) ∧
  (∀ (s : State) (t k : Nat), s.runsOp t k 0x06 = true →
    let d := s.pglDev t k
    let f := s.pglFlds t k
    let pc := (s.begun t).fld (pglPage k) PGL_PC_PC
    isDest f.d = true → memEn f.m1 = true → (d.getCore k).readTrap f.m1 = none →
    exec (.pglLd t k) s = .next (s.put (Dev.pglAfter k pc [f.m1] (d.putD k f [f.m1]
      (SMap.get 0 (d.getCore k).data ((d.getCore k).memAddr f.m1)))))) ∧
  (∀ (s : State) (t k : Nat) (a : W24), s.runsOp t k 0x07 = true →
    let d := s.pglDev t k
    let f := s.pglFlds t k
    let pc := (s.begun t).fld (pglPage k) PGL_PC_PC
    d.srcS k f = .val a →
    let x := d.getCore k
    (memEn f.m2 = true → x.memTrap f.m2 = none →
      exec (.pglSt t k) s = .next (s.put (Dev.pglAfter k pc [f.m1, f.m2] (d.setCore k
        ((x.putWord (x.memAddr f.m2) a).posts [f.m1, f.m2]))))) ∧
    (memEn f.m2 = false → exec (.pglSt t k) s = .next (s.put (Dev.pglAfter k pc [f.m1, f.m2] (d.setCore k (x.posts [f.m1, f.m2])))))) ∧
  (∀ (s : State) (t k : Nat) (a : W24), s.runsOp t k 0x08 = true →
    let d := s.pglDev t k
    let f := s.pglFlds t k
    let pc := (s.begun t).fld (pglPage k) PGL_PC_PC
    let x := d.getCore k
    x.readReg (d.iph k) f.s = some a → isDest f.d = true → memEn f.m1 = true → x.readTrap f.m1 = none → memEn f.m2 = true →
    x.memTrap f.m2 = none →
    exec (.pglLdst t k) s = .next (s.put (Dev.pglAfter k pc [f.m1, f.m2] (Dev.putD k f [f.m1, f.m2]
      (SMap.get 0 x.data (x.memAddr f.m1)) (d.setCore k (x.putWord (x.memAddr f.m2) a)))))) ∧
  (∀ (s : State) (t k : Nat), s.runsOp t k 0x06 = true →
    let d := (s.begun t).zldDue k
    let f := s.pglFlds t k
    let x := d.getCore k
    isDest f.d = true → memEn f.m1 = true → memMode f.m1 ≠ 3 → x.memAddr f.m1 < 49152 → 2 ≤ SMap.get 0 x.ecc (x.memAddr f.m1) →
    exec (.pglLd t k) s = .next (s.put (d.coreTrap k 8)))

/-- MPY, MAC and MSU form S times T exactly, alone, added to or subtracted from the accumulator, and AADD the sum of two accumulators; the
result is kept modulo 2^56 and the sticky overflow flag of D is set when it lies outside 56 bits; LDA puts S shifted left by T (at most
32) into D; STA puts the accumulator S shifted right by T into D, saturated when SATST is set; DSTEP is one step of restoring division;
CLRF clears the three sticky flags. (14_pergola_dsp.md) -/
def Obligations.PergolaAccumulatorsComplete : Prop :=
  (∀ (s : State) (t k : Nat) (a b : W24),
    let d := s.pglDev t k
    let f := s.pglFlds t k
    let pc := (s.begun t).fld (pglPage k) PGL_PC_PC
    d.srcS k f = .val a → d.srcT k f = .val b → isAcc f.d = true →
    let x := d.getCore k
    let acc := (x.readAcc f.d).toInt
    let done (r : Int) : Host.Outcome State Fault Refusal :=
      let e := d.setCore k ((x.posts [f.m1, f.m2]).writeAcc f.d (BitVec.ofInt 56 r))
      .next (s.put (Dev.pglAfter k pc [f.m1, f.m2]
        (if r < -(2 ^ 55) ∨ 2 ^ 55 ≤ r then e.coreFlag k (if f.d = 48 then PGL_STATUS_OVF0 else PGL_STATUS_OVF1) else e)))
    (s.runsOp t k 0x18 = true → exec (.pglMpy t k) s = done (a.toInt * b.toInt)) ∧
    (s.runsOp t k 0x19 = true → exec (.pglMac t k) s = done (acc + a.toInt * b.toInt)) ∧
    (s.runsOp t k 0x1A = true → exec (.pglMsu t k) s = done (acc - a.toInt * b.toInt)) ∧
    (s.runsOp t k 0x1C = true → exec (.pglLda t k) s = .next (s.put (Dev.pglAfter k pc [f.m1, f.m2]
      (d.setCore k ((x.posts [f.m1, f.m2]).writeAcc f.d (BitVec.ofInt 56 (a.toInt * 2 ^ min 32 (b.toNat % 64))))))))) ∧
  (∀ (s : State) (t k : Nat), s.runsOp t k 0x1B = true →
    let d := s.pglDev t k
    let f := s.pglFlds t k
    let pc := (s.begun t).fld (pglPage k) PGL_PC_PC
    isAcc f.d = true → isAcc f.s = true →
    let x := d.getCore k
    let r := (x.readAcc f.d).toInt + (x.readAcc f.s).toInt
    let e := d.setCore k (x.writeAcc f.d (BitVec.ofInt 56 r))
    exec (.pglAadd t k) s = .next (s.put (Dev.pglAfter k pc []
      (if r < -(2 ^ 55) ∨ 2 ^ 55 ≤ r then e.coreFlag k (if f.d = 48 then PGL_STATUS_OVF0 else PGL_STATUS_OVF1) else e)))) ∧
  (∀ (s : State) (t k : Nat) (b : W24), s.runsOp t k 0x1D = true →
    let d := s.pglDev t k
    let f := s.pglFlds t k
    let pc := (s.begun t).fld (pglPage k) PGL_PC_PC
    d.srcT k f = .val b → isAcc f.s = true → isDest f.d = true →
    let i := ((d.getCore k).readAcc f.s).toInt / 2 ^ min 32 (b.toNat % 64)
    exec (.pglSta t k) s = .next (s.put (Dev.pglAfter k pc [f.m2] (d.putD k f [f.m2]
      (BitVec.ofInt 24 (if d.on (pglPage k) PGL_CTRL_SATST = true then max (-8388608) (min 8388607 i) else i)))))) ∧
  (∀ (s : State) (t k : Nat) (a : W24), s.runsOp t k 0x1E = true →
    let d := s.pglDev t k
    let f := s.pglFlds t k
    let pc := (s.begun t).fld (pglPage k) PGL_PC_PC
    d.srcS k f = .val a → isAcc f.d = true →
    let x := d.getCore k
    let b := 2 * (x.readAcc f.d).toNat % 2 ^ 56
    exec (.pglDstep t k) s = .next (s.put (Dev.pglAfter k pc [f.m1] (d.setCore k ((x.posts [f.m1]).writeAcc f.d
      (BitVec.ofNat 56 (if a.toNat ≤ b / 2 ^ 24 then b - a.toNat * 2 ^ 24 + 1 else b))))))) ∧
  (∀ (s : State) (t k : Nat), s.runsOp t k 0x1F = true →
    let d := s.pglDev t k
    let pc := (s.begun t).fld (pglPage k) PGL_PC_PC
    let p := pglPage k
    exec (.pglClrf t k) s = .next (s.put (Dev.pglAfter k pc []
      (((d.setFld p PGL_STATUS_OVF0 0).setFld p PGL_STATUS_OVF1 0).setFld p PGL_STATUS_ZSTALE 0))))

/-- Outside a block repeat BR goes to its target when its condition holds and on otherwise, CALL puts the next address into K14 and jumps, RET
jumps to K14, LBR decrements its counter, advances the iteration phase and jumps unless the counter reached 0; ADV advances the phase;
BRPT outside NORMAL opens a repeat of the block after it; HALT counts, clears RUN and stops the core, and in BOOT leaves it in NORMAL;
TRAP traps with 0x80 and its code, and an opcode that Table 14-3 does not define with cause 1. (14_pergola_dsp.md) -/
def Obligations.PergolaControlCompletes : Prop :=
  (∀ (s : State) (t k : Nat) (c : Bool), s.runsOp t k 0x20 = true →
    let d := s.pglDev t k
    let f := s.pglFlds t k
    let pc := (s.begun t).fld (pglPage k) PGL_PC_PC
    let p := pglPage k
    (d.getCore k).reps = [] →
    (d.getCore k).cond (d.on p PGL_STATUS_OVF0) (d.on p PGL_STATUS_OVF1) (d.on p PGL_STATUS_ZSTALE) (f.t % 16) = some c →
    exec (.pglBr t k) s = .next (s.put (if c = true then Dev.pglJump k (f.imm % 65536) d else Dev.pglAfter k pc [] d))) ∧
  (∀ (s : State) (t k : Nat),
    let d := s.pglDev t k
    let f := s.pglFlds t k
    let pc := (s.begun t).fld (pglPage k) PGL_PC_PC
    let x := d.getCore k
    x.reps = [] →
    (s.runsOp t k 0x21 = true → exec (.pglCall t k) s = .next (s.put (Dev.pglJump k (f.imm % 65536)
      (d.setCore k { x with k := SMap.put 0 x.k 14 (BitVec.ofNat 24 (pc + 1)) })))) ∧
    (s.runsOp t k 0x22 = true → exec (.pglRet t k) s = .next (s.put (Dev.pglJump k ((SMap.get 0 x.k 14).toNat % 65536) d))) ∧
    (s.runsOp t k 0x23 = true → 32 ≤ f.d → f.d < 48 →
      let n := SMap.get 0 x.k (f.d - 32) - 1
      let e := d.setCore k { x with k := SMap.put 0 x.k (f.d - 32) n }
      let e := e.setFld (pglPage k) PGL_STATUS_IPH (d.iph k + 1)
      exec (.pglLbr t k) s = .next (s.put (if n = 0 then Dev.pglAfter k pc [] e else Dev.pglJump k (f.imm % 65536) e))) ∧
    (s.runsOp t k 0x30 = true → 32 ≤ f.d → f.d < 48 → d.coreMode k ≠ modeNormal → SMap.get 0 x.k (f.d - 32) ≠ 0 →
      exec (.pglBrpt t k) s = .next (s.put ((d.executed k 0).setPc k ((pc + 1) % 65536,
        [((pc + 1) % 65536, f.imm % 65536, (SMap.get 0 x.k (f.d - 32)).toNat)]))))) ∧
  (∀ (s : State) (t k : Nat), s.runsOp t k 0x24 = true →
    let d := s.pglDev t k
    let pc := (s.begun t).fld (pglPage k) PGL_PC_PC
    exec (.pglAdv t k) s = .next (s.put (Dev.pglAfter k pc [] (d.setFld (pglPage k) PGL_STATUS_IPH (d.iph k + 1))))) ∧
  (∀ (s : State) (t k : Nat), s.runsOp t k 0x02 = true →
    let d := s.pglDev t k
    let p := pglPage k
    exec (.pglHalt t k) s = .next (s.put (
      let e := (d.bump p PGL_INSTR_CNT).setFld p PGL_CTRL_RUN 0
      let e := (if e.coreMode k = modeBoot then e.setFld p PGL_CTRL_MODE modeNormal else e).coreStop k pglStopped
      if e.safetyCore k = true then e.ldgFault 4 else e))) ∧
  (∀ (s : State) (t k : Nat), s.runsOp t k 0x03 = true →
    exec (.pglTrap t k) s = .next (s.put (((s.begun t).zldDue k).coreTrap k (0x80 + (s.pglFlds t k).imm % 128)))) ∧
  (∀ (s : State) (t k : Nat), pglOpcode (s.pglFlds t k).op = false → s.runsOp t k (s.pglFlds t k).op = true →
    exec (.pglIllegalOpcode t k) s = .next (s.put (((s.begun t).zldDue k).coreTrap k 1)))

/-- In NORMAL, POP moves the oldest entry into K8 to K13 or waits on an empty queue, and POP_RESUME executes the POP once an entry has come;
PUSHO appends S to an output buffer that is not full; SEND commits the buffer as a payload when there is space, counts and empties it, or
waits, and SEND_RESUME does it later; LSEND of a pair core hands S to Lodge; ZLD reads its zoom item for a destination fixed now;
ZLD_WRITEBACK lands the oldest when its time has come or the core executes nothing. (14_pergola_dsp.md) -/
def Obligations.PergolaQueuesComplete : Prop :=
  (∀ (s : State) (t k : Nat), s.runsOp t k 0x28 = true →
    let d := s.pglDev t k
    let pc := (s.begun t).fld (pglPage k) PGL_PC_PC
    d.attached k = true →
    (∀ e rest, (d.getCore k).queue = e :: rest → exec (.pglPop t k) s = .next (s.put (Dev.pglAfter k pc [] (d.popEntry k e rest)))) ∧
    ((d.getCore k).queue = [] → exec (.pglPop t k) s = .next (s.put (d.setCoreState k pglInPop)))) ∧
  (∀ (s : State) (t k : Nat) (e : PglEntry) (rest : List PglEntry), k < 32 → s.up t = true → (s.begun t).coreState k = pglInPop →
    ((s.begun t).getCore k).queue ≠ [] →
    let d := (s.begun t).setCoreState k pglRunning
    let pc := d.fld (pglPage k) PGL_PC_PC
    d.gated (4 + k / 8) = false → d.codeRangeBad k pc = false → (d.pglFront k).op = 0x28 → (d.zldDue k).attached k = true →
    ((d.zldDue k).getCore k).queue = e :: rest →
    exec (.pglPopResume t k) s = .next (s.put (Dev.pglAfter k pc [] ((d.zldDue k).popEntry k e rest)))) ∧
  (∀ (s : State) (t k : Nat) (a : W24),
    let d := s.pglDev t k
    let f := s.pglFlds t k
    let pc := (s.begun t).fld (pglPage k) PGL_PC_PC
    d.srcS k f = .val a →
    let x := d.getCore k
    (s.runsOp t k 0x29 = true → x.out.length < 1024 →
      exec (.pglPusho t k) s = .next (s.put (Dev.pglAfter k pc [f.m1]
        ((d.setCore k { x.posts [f.m1] with out := x.out ++ [a] }).coreLevels k)))) ∧
    (s.runsOp t k 0x2B = true → d.safetyCore k = true →
      exec (.pglLsend t k) s = .next (s.put (Dev.pglAfter k pc [f.m1] (Dev.ldgWord s.mem k a.toNat (d.setCore k (x.posts [f.m1])))))) ∧
    (s.runsOp t k 0x2C = true → isDest f.d = true → x.zld.length ≤ 3 →
      let e := d.setCore k (x.posts [f.m1])
      let z := e.zoomItem k a.toNat
      exec (.pglZld t k) s = .next (s.put (Dev.pglAfter k pc [f.m1] (z.2.setCore k { z.2.getCore k with
        zld := (z.2.getCore k).zld ++ [⟨physOf (z.2.iph k) f.d, z.1.getD 0, z.1.isNone, 6⟩] }))))) ∧
  (∀ (s : State) (t k : Nat), s.runsOp t k 0x2A = true →
    let d := s.pglDev t k
    let f := s.pglFlds t k
    let pc := (s.begun t).fld (pglPage k) PGL_PC_PC
    let o := d.offerPayload 5 (d.outPayload k f.imm)
    (o.2 = true → exec (.pglSend t k) s = .next (s.put (Dev.pglAfter k pc []
      (((o.1.setCore k { o.1.getCore k with out := [] }).coreLevels k).bump (pglPage k) PGL_SEND_CNT)))) ∧
    (o.2 = false → exec (.pglSend t k) s = .next (s.put (d.setCoreState k pglInSend)))) ∧
  (∀ (s : State) (t k : Nat), k < 32 → s.up t = true → (s.begun t).coreState k = pglInSend →
    ((s.begun t).offerPayload 5 ((s.begun t).outPayload k 0)).2 = true →
    let e := (s.begun t).setCoreState k pglRunning
    let pc := e.fld (pglPage k) PGL_PC_PC
    let d := e.zldDue k
    let o := d.offerPayload 5 (d.outPayload k (e.pglFront k).imm)
    e.gated (4 + k / 8) = false → e.codeRangeBad k pc = false → (e.pglFront k).op = 0x2A → o.2 = true →
    exec (.pglSendResume t k) s = .next (s.put (Dev.pglAfter k pc []
      (((o.1.setCore k { o.1.getCore k with out := [] }).coreLevels k).bump (pglPage k) PGL_SEND_CNT)))) ∧
  (∀ (s : State) (t k : Nat) (j : ZldJob) (js : List ZldJob), k < 32 → s.up t = true →
    let d := s.begun t
    (d.getCore k).zld = j :: js → (j.left = 0 ∨ d.coreState k ≠ pglRunning) →
    exec (.pglZldWriteback t k) s = .next (s.put (
      let x := { d.getCore k with zld := js }
      let e := d.setCore k (x.writePhys j.dest (if j.stale = true then 0 else j.value))
      if j.stale = true then e.coreFlag k PGL_STATUS_ZSTALE else e)))

/-- Writing D and going on to the next address changes no other core, no code word, histogram, zoom counter or slot, and no register outside
the core's page; going on changes no register, accumulator, flag or queue of the core itself, and its data memory only through a host
access that waits (a waiting read of a word with a bit error, which is counted and reported, excepted); writing D with no pointer clash
changes no general register but D and the post-incremented pointers, and neither accumulators, flags nor data memory. (14_pergola_dsp.md) -/
def Obligations.PergolaInstructionsKeepTheRest : Prop :=
  (∀ (d : Dev) (k pc : Nat) (ms : List Nat),
    let e := Dev.pglAfter k pc ms d
    (∀ a ∈ (d.getCore k).access, a.value = none → SMap.get 0 (d.getCore k).ecc a.word = 0) →
    (∀ j, j ≠ k → e.getCore j = d.getCore j) ∧ e.code = d.code ∧ e.bins = d.bins ∧ e.zoom = d.zoom ∧ e.slots = d.slots ∧ e.evm = d.evm ∧
    (∀ p off, off < 0x1000 → p ≠ pglPage k → e.reg p off = d.reg p off) ∧
    (let x := d.getCore k
     let y := e.getCore k
     y.v = x.v ∧ y.k = x.k ∧ y.a0 = x.a0 ∧ y.a1 = x.a1 ∧ y.z = x.z ∧ y.n = x.n ∧ y.c = x.c ∧ y.queue = x.queue ∧ y.out = x.out ∧
     (x.access = [] → y.data = x.data))) ∧
  (∀ (d : Dev) (k : Nat) (f : PglFields) (ms : List Nat) (w : W24),
    let e := d.putD k f ms w
    (∀ j, j ≠ k → e.getCore j = d.getCore j) ∧ e.regs = d.regs ∧ e.code = d.code ∧ e.bins = d.bins ∧ e.slots = d.slots ∧
    (let x := d.getCore k
     let y := e.getCore k
     y.a0 = x.a0 ∧ y.a1 = x.a1 ∧ y.z = x.z ∧ y.n = x.n ∧ y.c = x.c ∧ y.data = x.data ∧ y.queue = x.queue ∧ y.out = x.out ∧
     (pointerClash f ms = false → (∀ i, i < 32 → physOf (d.iph k) f.d ≠ i → SMap.get 0 y.v i = SMap.get 0 x.v i) ∧
       (∀ i, i < 16 → physOf (d.iph k) f.d ≠ 32 + i → (∀ m ∈ ms, memEn m = true → memMode m = 1 → memPtr m ≠ i) →
         SMap.get 0 y.k i = SMap.get 0 x.k i))))

/-- One step doubles the accumulator modulo 2^56 and, when bits 55 to 24 are at least the divisor, subtracts it from them and sets bit 0. From
a dividend below 2^24, 24 steps by a divisor that is not 0 leave the quotient in bits 23 to 0 and the remainder in bits 47 to 24, j steps
leave the j upper quotient bits in the low j bits; with divisor 0 the quotient is 0xFF_FFFF and the remainder the dividend. An executed
DSTEP, with readable S and an accumulator as D, puts one step into the accumulator and leaves both overflow flags. (R306) -/
def Obligations.DivisionStepsDivide : Prop :=
  (∀ (a : W56) (b : W24),
    let x := 2 * a.toNat % 2 ^ 56
    (dstep a b).toNat = if b.toNat ≤ x / 2 ^ 24 then (x / 2 ^ 24 - b.toNat) * 2 ^ 24 + x % 2 ^ 24 + 1 else x) ∧
  (∀ (n j : Nat) (b : W24), n < 2 ^ 24 → j ≤ 24 → 0 < b.toNat →
    ((List.range j).foldl (fun (a : W56) _ => dstep a b) (BitVec.ofNat 56 n)).toNat % 2 ^ j = n / 2 ^ (24 - j) / b.toNat) ∧
  (∀ (n : Nat) (b : W24), n < 2 ^ 24 →
    let r := ((List.range 24).foldl (fun (a : W56) _ => dstep a b) (BitVec.ofNat 56 n)).toNat
    (0 < b.toNat → r % 2 ^ 24 = n / b.toNat ∧ r / 2 ^ 24 % 2 ^ 24 = n % b.toNat) ∧
    (b = 0 → r % 2 ^ 24 = 0xFFFFFF ∧ r / 2 ^ 24 % 2 ^ 24 = n)) ∧
  (∀ (s : State) (t k : Nat) (a : W24), s.runsOp t k 0x1E = true →
    let d := s.pglDev t k
    let f := s.pglFlds t k
    d.srcS k f = .val a → isAcc f.d = true →
    ∃ s', exec (.pglDstep t k) s = .next s' ∧ (s'.dev.getCore k).readAcc f.d = dstep ((d.getCore k).readAcc f.d) a ∧
      s'.dev.fld (pglPage k) PGL_STATUS_OVF0 = d.fld (pglPage k) PGL_STATUS_OVF0 ∧
      s'.dev.fld (pglPage k) PGL_STATUS_OVF1 = d.fld (pglPage k) PGL_STATUS_OVF1)

/-- For every opcode, D, S and T below 64 and M1 and M2 below 4,096 the fields of the word built from them are those fields, and every 48-bit
word is the word of its fields. (14_pergola_dsp.md) -/
def Obligations.InstructionFieldsRoundTrip : Prop :=
  (∀ f : PglFields, f.op < 64 → f.d < 64 → f.s < 64 → f.t < 64 → f.m1 < 4096 → f.m2 < 4096 → pglFields f.word = f) ∧
  (∀ w : BitVec 48, (pglFields w).word = w) ∧
  (∀ w : BitVec 48, (pglFields w).op < 64 ∧ (pglFields w).d < 64 ∧ (pglFields w).s < 64 ∧ (pglFields w).t < 64 ∧
    (pglFields w).m1 < 4096 ∧ (pglFields w).m2 < 4096 ∧ (pglFields w).imm = w.toNat % 2 ^ 24)

/-- A write of PGL.CTRL of a core outside the safety pair takes SATST, a permitted MODE and RUN, stops a core that runs when RUN falls and
starts a stopped or trapped one at ENTRY when RUN is 1 and its code is valid; LOAD begins the load of the terrace; PGL_LOAD_DONE ends it
with the code valid, ENTRY set for the terrace's cores and the image noted, or clears the range and records the error; an access to a data
word acts at once on a core that does not run and otherwise waits; a write of code memory is ignored and counted. (14_pergola_dsp.md) -/
def Obligations.CoreCommandsComplete : Prop :=
  (∀ (s : State) (t k : Nat) (ini : Initiator) (w : Word), k < 32 → s.writable t ini (pglPage k) PGL_CTRL = true →
    let d := s.landed t (pglPage k) PGL_CTRL
    d.safetyCore k = false →
    let after (w : Word) : Dev :=
      let p := pglPage k
      let e := d.setFld p PGL_CTRL_SATST (bitsOf w 4 4)
      let e := if bitsOf w 3 2 ≠ e.coreMode k ∧ e.modeAllowed k (bitsOf w 3 2) = true then e.setFld p PGL_CTRL_MODE (bitsOf w 3 2) else e
      let e := e.setFld p PGL_CTRL_RUN (bitsOf w 0 0)
      if bitsOf w 0 0 = 0 then
        if e.coreRuns k = true then e.coreStop k pglStopped else if e.coreState k = pglTrapped then e.setCoreState k pglStopped else e
      else if e.coreRuns k = false ∧ e.coreState k ≠ pglParked ∧ e.on (pglTerrace k) PGL_LOAD_STATUS_CODE_VALID = true then
        e.coreStart k (e.fld p PGL_ENTRY_ENTRY) else e
    exec (.pglRunStart t ini k w) s = .next (s.put (after (forced PGL_CTRL_RUN 1 w))) ∧
    exec (.pglRunStop t ini k w) s = .next (s.put (after (forced PGL_CTRL_RUN 0 w))) ∧
    exec (.pglModeWrite t ini k w) s = .next (s.put (after w))) ∧
  (∀ (s : State) (t tr : Nat) (ini : Initiator), tr < 4 → s.writable t ini (pglTerrace (8 * tr)) PGL_LOAD_CTRL = true →
    let d := s.landed t (pglTerrace (8 * tr)) PGL_LOAD_CTRL
    exec (.pglLoad t ini tr) s = .next (s.put (d.loadBegin s.mem tr (4096 * d.fld (pglTerrace (8 * tr)) PGL_LOAD_SRC_BASE)))) ∧
  (∀ (s : State) (t tr : Nat) (l : PglLoad), tr < 4 → s.up t = true →
    let d := s.begun t
    let p := pglTerrace (8 * tr)
    SMap.get none d.pglLoads tr = some l →
    let e := Dev.setFld { d with pglLoads := SMap.put none d.pglLoads tr none } p PGL_LOAD_STATUS_BUSY 0
    (l.code = 0 → e.isSafetyLoad tr l = false →
      exec (.pglLoadDone t tr) s = .next (s.put (
        let e := (List.range 8).foldl (fun (e : Dev) j => if e.safetyCore (8 * tr + j) = false
          then e.setFld (pglPage (8 * tr + j)) PGL_ENTRY_ENTRY l.entry else e)
          ((e.setFld p PGL_LOAD_STATUS_CODE_VALID 1).setFld p PGL_LOAD_STATUS_ERR 0)
        ((e.setRegN p PGL_CODE_VERSION l.version).noteImage (1 + tr) l.digest l.signer).raise p 8))) ∧
    (l.code ≠ 0 → exec (.pglLoadDone t tr) s = .next (s.put (
      let c := (List.range l.count).foldl (fun (c : SMap (BitVec 48)) i => SMap.put 0 c (65536 * tr + l.first + i) 0) e.code
      ((Dev.setFld { e with code := c } p PGL_LOAD_STATUS_ERR 5).verifyNote l.code).raise p 9)))) ∧
  (∀ (s : State) (t k n : Nat) (ini : Initiator) (v : W24), k < 32 → n < 49152 → s.up t = true → ini = .control ∨ ini = .dma →
    let d := s.begun t
    d.gated (4 + k / 8) = false →
    let e (v : Option W24) : Dev := d.setCore k { d.getCore k with access := (d.getCore k).access ++ [⟨ini, n, v, 0⟩] }
    (d.coreState k = pglRunning → exec (.pglMemoryAccess t ini k n (some v)) s = .next (s.put (e (some v))) ∧
      exec (.pglMemoryAccess t ini k n none) s = .next (s.put (e none))) ∧
    (d.coreState k ≠ pglRunning → exec (.pglMemoryAccess t ini k n (some v)) s = .next (s.put (d.setCoreWord k n v)) ∧
      exec (.pglMemoryAccess t ini k n none) s = .next (s.put (
        (d.readCoreWord k n).2.portAnswer ini [(d.readCoreWord k n).1.zeroExtend 32])))) ∧
  (∀ (s : State) (t tr off : Nat) (w : Word), tr < 4 → off < 0x80000 → off % 4 = 0 → s.up t = true → (s.begun t).down (4 + tr) = false →
    exec (.codeWindowWrite t (0x20800000 + 0x80000 * tr + off) w) s =
      .next (s.put ((s.begun t).bumpFirst (pglTerrace (8 * tr)) PGL_CODE_WR_IGN 11)))

/-- A write of DMA.CTRL takes the word and starts an idle channel, stops it, or keeps it off while the common enable is 0; the common enable
at 0 stops every channel; a good descriptor is fetched and runs, or waits for its trigger, and a bad one halts the channel with cause 4
and its address; the oldest response without error moves WR_PTR by its ring bytes and completes what it completes; an error of a fetch is
retried three times, one of a beat as often as its descriptor says, and then the channel halts; the ring's geometry resets its pointers;
RD_PTR takes a multiple of 16 inside the ring and rejects and counts any other. (15_dma.md) -/
def Obligations.DmaCommandsComplete : Prop :=
  (∀ (s : State) (t n : Nat) (ini : Initiator) (w : Word), n < 24 → s.servedTo t ini = true →
    let after (v : Word) : Dev :=
      let e := Dev.merged (dmaPage n) DMA_CTRL v (s.begun t)
      if e.on (dmaPage n) DMA_CTRL_EN = false then e.dmaStop n
      else if e.on 0xAF DMA_COMMON_CTRL_EN = false then e.setFld (dmaPage n) DMA_CTRL_EN 0
      else if e.dmaState n = dmaIdle then e.dmaStart n else e
    exec (.dmaEnable t ini n w) s = .next (s.put (after (forced DMA_CTRL_EN 1 w))) ∧
    exec (.dmaDisable t ini n w) s = .next (s.put (after (forced DMA_CTRL_EN 0 w)))) ∧
  (∀ (s : State) (t : Nat) (ini : Initiator), s.servedTo t ini = true →
    let e := Dev.merged 0xAF DMA_COMMON_CTRL 0 (s.begun t)
    e.on 0xAF DMA_COMMON_CTRL_EN = false →
    exec (.dmaCommonDisable t ini) s = .next (s.put ((List.range 24).foldl (fun d c => (d.setFld (dmaPage c) DMA_CTRL_EN 0).dmaStop c) e))) ∧
  (∀ (s : State) (t n : Nat), n < 24 → s.up t = true →
    let d := s.begun t
    let x := d.getDma n
    let p := dmaPage n
    let w (i : Nat) : Word := memWord s.mem (x.fetchAt + 4 * i)
    let ds := parseDesc x.fetchAt w
    d.dmaState n = dmaFetch → x.resetDue = false → x.pwr = false → x.desc = none →
    ((descReserved w = true ∨ ds.ok = false) → exec (.dmaDescriptorFetch t n) s = .next (s.put (
      (d.setDma n { x with desc := none, fetchTries := 0 }).dmaHaltKeep n 4 ds.addr ds.addr ds.count))) ∧
    (descReserved w = false → ds.ok = true → exec (.dmaDescriptorFetch t n) s = .next (s.put (
      let e := d.setDma n { x with
        desc := some ds, moved := 0, ord := x.ord + 1, fetchTries := 0, last := false
        opens := x.opens ++ [⟨x.ord + 1, ds.addr, ds.doneEv, ds.retry, false, ds.count⟩] }
      let e := (e.setRegN p DMA_CUR_DESC ds.addr).setFld p DMA_COUNT_REM_COUNT ds.count
      if ds.waitTrig = false then e.setDmaState n dmaRun
      else if e.on p DMA_STATUS_TRIG_PENDING = true then (e.setFld p DMA_STATUS_TRIG_PENDING 0).setDmaState n dmaRun
      else e.setDmaState n dmaWait)))) ∧
  (∀ (s : State) (t n : Nat) (b : DmaBeat) (bs : List DmaBeat), n < 24 → s.up t = true →
    let d := s.begun t
    let x := d.getDma n
    let p := dmaPage n
    x.beats = b :: bs →
    (b.err = false → exec (.dmaWriteResponse t n) s = .next (s.put (
      let e := d.setDma n { x with beats := bs }
      (if b.ring = 0 then e else e.setRegN p DMA_WR_PTR ((e.fld p DMA_WR_PTR_PTR + b.ring) % e.ringLen n)).dmaSettle n))) ∧
    (d.dmaState n = dmaDrain → exec (.dmaErrorResponse t n false) s = .next (s.put (
      ((d.bump p DMA_RETRY_CNT).setDma n { x with beats := [], opens := [] }).dmaSettle n))) ∧
    (∀ o, d.dmaState n ≠ dmaDrain → x.pwr = false → b.desc.retry ≤ b.tries → x.opens.find? (fun o => o.ord == b.ord) = some o →
      exec (.dmaErrorResponse t n false) s = .next (s.put (
        d.dmaHalt n (if o.issued = true then 2 else 1) (if b.data = none then b.src else b.dst) b.desc.addr o.rem)))) ∧
  (∀ (s : State) (t n : Nat), n < 24 → s.up t = true →
    let d := s.begun t
    let x := d.getDma n
    d.dmaState n = dmaFetch →
    (x.fetchTries < 3 → exec (.dmaErrorResponse t n true) s = .next (s.put (
      (d.setDma n { x with fetchTries := x.fetchTries + 1 }).bump (dmaPage n) DMA_RETRY_CNT))) ∧
    (3 ≤ x.fetchTries → exec (.dmaErrorResponse t n true) s = .next (s.put (
      (d.setDma n { x with desc := none, fetchTries := 0 }).dmaHaltKeep n 3 x.fetchAt x.fetchAt (d.fld (dmaPage n) DMA_COUNT_REM_COUNT))))) ∧
  (∀ (s : State) (t n : Nat) (ini : Initiator) (base : Bool) (w : Word), n < 24 → s.servedTo t ini = true →
    let off := if base = true then DMA_RING_BASE else DMA_RING_CFG
    let e := Dev.merged (dmaPage n) off w (s.begun t)
    exec (.dmaRingReset t ini n base w) s = .next (s.put (
      if e.dmaRuns n = false then e
      else if (e.getDma n).beats = [] then e.ringApply n else e.setDma n { e.getDma n with resetDue := true }))) ∧
  (∀ (s : State) (t n : Nat) (ini : Initiator) (w : Word), n < 24 → s.servedTo t ini = true →
    let d := s.begun t
    let v := bitsOf w 22 0
    exec (.dmaRdPtrWrite t ini n w) s = .next (s.put (
      if v % 16 ≠ 0 ∨ d.ringLen n ≤ v then d.bump (dmaPage n) DMA_PTR_REJECT else d.setRegN (dmaPage n) DMA_RD_PTR v)))

/-- DMA_BEAT_ISSUE of the channel whose turn it is, with a descriptor that copies from SRAM to SRAM, answers a next state in which as many
bytes as are left, but none past the end of a 32-byte block of source or destination, read at the destination as the source's bytes read
before; every other byte of SRAM reads as before; the channel has one beat more outstanding and the count that remains is lower by them.
(15_dma.md) -/
def Obligations.DmaBeatsCopyWhatTheyRead : Prop :=
  ∀ (s : State) (t c : Nat) (ds : DmaDesc), s.up t = true →
    let d := s.begun t
    let x := d.getDma c
    d.dmaTurn = some c → x.desc = some ds → ds.srcMode = 0 → ds.dstMode = 0 → ds.shuf = 0 → x.moved < ds.count → ds.count < 2 ^ 24 →
    let src := ds.src + x.moved
    let dst := ds.dst + x.moved
    let n := min (ds.count - x.moved) (min (32 - src % 32) (32 - dst % 32))
    src < 0x800000 → dst < 0x800000 →
    ∃ s', exec (.dmaBeatIssue t) s = .next s' ∧ 0 < n ∧
      (∀ i, i < n → memByte s'.mem (dst + i) = memByte s.mem (src + i)) ∧
      (∀ a, a < dst ∨ dst + n ≤ a → memByte s'.mem a = memByte s.mem a) ∧
      (s'.dev.getDma c).beats.length = x.beats.length + 1 ∧ (s'.dev.getDma c).moved = x.moved + n ∧
      s'.dev.fld (dmaPage c) DMA_COUNT_REM_COUNT = ds.count - (x.moved + n) ∧ s'.dev.dmaLast = c

/-- CHANNEL_A_VERDICT judges the oldest slot whose records are all in: its mask of beds with a long enough run, the counts of its evaluated
cells, the contamination count, the comparison and the outputs, with LATENCY later than 1.3 ms after the trigger; a verdict of either
channel or an output message that is missing is a fault; FS_CRC_RECHECK changes nothing while the active set's checks hold and is FS_CRC
else; COVERAGE_EXPIRY is COVERAGE for a protected cell not evaluated for SCAN_MAX while a pair is ON; LODGE_KIND3_ENTRY gives both cores
the input lanes, the network command and the time; FS_PREP_DONE copies the halves and makes the set ready, or is FS_CRC; FS_OVERLAP_END
drops the old sets that are over; RESTART_DELAY_EXPIRY lets pairs that have been clear for RESTART_MS return. (16_lodge_safety.md) -/
def Obligations.ProtectiveFieldCommandsComplete : Prop :=
  (∀ (s : State) (t : Nat) (x : LdgSlot), s.up t = true →
    let d := s.begun t
    d.ldg.slots.find? (fun y => y.a.isNone && y.due == 0) = some x →
    let n := d.fld 0xB0 LDG_CTRL_OBJ_M1 + 1
    let mask := bedMask x.det0 n + bedMask x.det1 n * 2 ^ 64 + bedMask x.det2 n * 2 ^ 128
    let judged := d.ldgSlot x.num (fun y => { y with a := some (d.now, mask) })
    let counted := match x.sector with
      | none => judged
      | some sec => (List.range 64).foldl (fun (e : Dev) b => if x.evaluated b = true then
          (if e.coverageLate s.mem (512 * b + sec) = true then e.ldgFault 6 else e).countCell mask (512 * b + sec) b else e) judged
    let after := counted.fieldFollow.contamSlot x
    exec (.channelAVerdict t) s = .next (s.put (
      ((if x.trigAt + 104000000 < after.now then after.ldgFault 2 else after).ldgCompare x.num).ldgDecide s.mem))) ∧
  (∀ (s : State) (t : Nat) (x : LdgSlot), s.up t = true →
    let d := s.begun t
    x ∈ d.ldg.slots →
    (x.trigAt + 104000000 < d.now → exec (.verdictLatencyExpiry t) s = .next (s.put (Dev.ldgFault 2
      { d with ldg := { d.ldg with slots := d.ldg.slots.filter (fun y => decide (d.now ≤ y.trigAt + 104000000)) } }))) ∧
    (∀ ta mask, x.a = some (ta, mask) → ta + 40000000 < d.now → exec (.channelBTimeout t) s = .next (s.put (d.ldgFault 1)))) ∧
  (∀ (s : State) (t k ta : Nat), s.up t = true → k = 30 ∨ k = 31 →
    let d := s.begun t
    (SMap.get {} d.ldg.cores k).outAt = some ta → ta + 160000000 < d.now →
    exec (.outputMessageTimeout t) s = .next (s.put (d.ldgFault 1))) ∧
  (∀ (s : State) (t n : Nat), s.up t = true →
    let d := s.begun t
    d.ldg.active = some n → exec (.fsCrcRecheck t) s = .next (s.put (
      if d.fsCheckA s.mem n = true ∧ d.fsCheckB (d.ldg.ready.getD n) = true then d else d.ldgFault 5))) ∧
  (∀ (s : State) (t p cell : Nat), s.up t = true → p < 2 → cell < 32768 →
    let d := s.begun t
    (d.ldgPair p).on = true → d.protectedCell s.mem cell = true → 
    (if SMap.get 0 d.ldg.lastEval cell = 0 then d.ldg.tookAt else SMap.get 0 d.ldg.lastEval cell) + d.scanMax < d.now →
    exec (.coverageExpiry t cell) s = .next (s.put (d.ldgFault 6))) ∧
  (∀ (s : State) (t : Nat), s.up t = true →
    let d := s.begun t
    d.ldgOn = true →
    let lanes (o : Nat) : Nat := (List.range 8).foldl (fun a n => if bitAt d.ldg.raw (2 * n + o) = true then a + 2 ^ n else a) 0
    let e : PglEntry := ⟨[0xC00000, BitVec.ofNat 24 (lanes 1 + 256 * lanes 0 + 65536 * d.fld 0xB3 LDG_OSSD_STATUS_RB),
      BitVec.ofNat 24 (d.regN 0xB2 LDG_RX_CMD % 256 + 256 * d.netOk.toNat), BitVec.ofNat 24 (d.devTime / 80000000), 0, 0], none⟩
    exec (.lodgeKind3Entry t) s = .next (s.put ((d.pairPush 30 e).pairPush 31 e))) ∧
  (∀ (s : State) (t n : Nat), s.up t = true →
    let d := s.begun t
    d.ldg.prep = some n → d.ldgOn = true →
    let e := Dev.copyHalves s.mem n { d with ldg := { d.ldg with prep := none } }
    exec (.fsPrepDone t) s = .next (s.put (
      if e.fsCheckA s.mem n = true ∧ e.fsCheckB n = true then Dev.switchFlag { e with ldg := { e.ldg with ready := some n } } else (e.ldgFault 5).switchFlag))) ∧
  (∀ (s : State) (t : Nat), s.up t = true →
    let d := s.begun t
    exec (.fsOverlapEnd t) s = .next (s.put (Dev.switchFlag
      { d with ldg := { d.ldg with olds := d.ldg.olds.filter (fun o => decide (d.now < o.2)) } }))) ∧
  (∀ (s : State) (t : Nat), s.up t = true →
    let d := s.begun t
    d.ldgOn = true → d.manualRestart = false →
    exec (.restartDelayExpiry t) s = .next (s.put (
      let e := d.ldgDecide s.mem
      ((List.range 2).foldl (fun (e : Dev) p =>
        match (e.ldgPair p).clearSince with
        | some a => if a + Config.ms (e.fld 0xB0 LDG_SCAN_CFG_RESTART_MS) ≤ e.now then e.setLdgPair p { e.ldgPair p with met := true } else e
        | none => e) e).ldgDecide s.mem)))

/-- A test window starts at its 25 ms and pulses a high output low; it ends 300 us later, a pulse that still reads high being OSSD_TEST; a
readback within a pulse's first 100 us is taken, and a low reading of a steady high output is OSSD; a test pulse output goes low at its 2
ms and 300 us later its inputs are judged; a filtered input level sets its state bit and what follows from it; the ms tick advances the
discrepancy counts of the pairs; a count that has reached DISC is SIN_DISC. (16_lodge_safety.md) -/
def Obligations.SafetyPinCommandsComplete : Prop :=
  (∀ (s : State) (t o : Nat), s.up t = true → o < 4 →
    let d := s.begun t
    d.ldgOn = true → d.edgeTime % 8000000000 = 2000000000 * o →
    exec (.ossdTestWindowStart t o) s = .next (s.put (
      (d.setLdgOut o { d.ldgOut o with
        window := some d.now, pulse := d.ossdHigh o
        dueHigh := if d.ossdHigh o = true then none else (d.ldgOut o).dueHigh }).setFld
        0xB3 ⟨LDG_OSSD_STATUS, 8 + o, 8 + o⟩ (d.ossdHigh o).toNat))) ∧
  (∀ (s : State) (t o a : Nat), s.up t = true → o < 4 →
    let d := s.begun t
    let x := d.ldgOut o
    x.window = some a → a + 24000000 ≤ d.now →
    let e := (d.setLdgOut o { x with
      window := none, pulse := false, held := false
      dueHigh := if x.pulse = true ∨ x.held = true then some (d.now + 8000000, x.pulse) else x.dueHigh }).setFld
        0xB3 ⟨LDG_OSSD_STATUS, 8 + o, 8 + o⟩ 0
    exec (.ossdTestWindowEnd t o) s = .next (s.put (Dev.ldgDecide s.mem ((List.range 2).foldl Dev.pairFollow
      (if x.pulse = true ∧ d.bit 0xB3 LDG_OSSD_STATUS (4 + o) = true then e.ldgFault 16 else e))))) ∧
  (∀ (s : State) (t o : Nat) (level : Bool), s.up t = true → o < 4 →
    let d := s.begun t
    let x := d.ldgOut o
    let e := d.setFld 0xB3 ⟨LDG_OSSD_STATUS, 4 + o, 4 + o⟩ level.toNat
    d.hasLodge = true → x.dueHigh = none → x.dueLow = none →
    (∀ a, x.pulse = true → x.window = some a → d.now ≤ a + 8000000 →
      exec (.ossdReadbackChange t o level) s = .next (s.put (e.ldgDecide s.mem))) ∧
    (level = false → x.pulse = false → d.bit 0xB3 LDG_OSSD_STATUS (4 + o) = true → e.ossdHigh o = true →
      (List.range 4).any (fun q => q != o && (e.ldgOut q).pulse) = false →
      exec (.ossdReadbackChange t o level) s = .next (s.put ((e.ldgFault 9).ldgDecide s.mem)))) ∧
  (∀ (s : State) (t o : Nat), s.up t = true → o < 4 →
    let d := s.begun t
    d.ldgOn = true → d.edgeTime % 640000000 = 160000000 * o →
    exec (.tpoPulseStart t o) s = .next (
      s.put { d with ldg := { d.ldg with tpo := SMap.put none d.ldg.tpo o (some d.now) } })) ∧
  (∀ (s : State) (t o a before during after : Nat), s.up t = true → o < 4 →
    let d := s.begun t
    SMap.get none d.ldg.tpo o = some a → a + 24000000 ≤ d.now →
    exec (.tpoPulseEnd t o before during after) s = .next (s.put (
      ((List.range 16).foldl (fun (e : Dev) i =>
        let n := i / 2
        let own := e.sinFld n (if i % 2 = 0 then LDG_SIN_CFG_TPO_A else LDG_SIN_CFG_TPO_B)
        let bad := if own = o then bitAt before i && bitAt during i else bitAt before i && !bitAt during i && bitAt after i
        let x := SMap.get {} e.ldg.pins n
        let b := 2 * o + i % 2
        let e : Dev := { e with ldg := { e.ldg with
          pins := SMap.put {} e.ldg.pins n { x with short := if bad = true then withBit x.short b else withoutBit x.short b } } }
        if bad = true then
          Dev.ldgFault 18 (Dev.setFld { e with ldg := { e.ldg with shortBits := withBit e.ldg.shortBits n } }
            0xB3 ⟨LDG_SIN_STATE, 24 + n, 24 + n⟩ 1)
        else e)
        { d with ldg := { d.ldg with tpo := SMap.put none d.ldg.tpo o none, raw := after % 65536 } }).ldgDecide s.mem))) ∧
  (∀ (s : State) (t i : Nat) (level : Bool), s.up t = true → i < 16 →
    let d := s.begun t
    d.ldgOn = true →
    exec (.sinFilterChange t i level) s = .next (s.put (
      let e : Dev := { d with ldg := { d.ldg with raw := if level = true then withBit d.ldg.raw i else withoutBit d.ldg.raw i } }
      let was := e.bit 0xB3 LDG_SIN_STATE (i / 2) == e.bit 0xB3 LDG_SIN_STATE (8 + i / 2)
      let e := e.setFld 0xB3 ⟨LDG_SIN_STATE, i / 2 + 8 * (i % 2), i / 2 + 8 * (i % 2)⟩ level.toNat
      let x : LdgPin := SMap.get {} e.ldg.pins (i / 2)
      let e := if was = false ∧ e.bit 0xB3 LDG_SIN_STATE (i / 2) = e.bit 0xB3 LDG_SIN_STATE (8 + i / 2) then
        { e with ldg := { e.ldg with pins := SMap.put {} e.ldg.pins (i / 2) { x with agreeSince := e.now } } } else e
      ((e.pinFollow (i / 2)).ldgSelect).ldgDecide s.mem))) ∧
  (∀ (s : State) (t : Nat), s.up t = true →
    let d := s.begun t
    d.ldgOn = true → d.edgeTime % 80000000 = 0 →
    exec (.lodgeMsTick t) s = .next (s.put (
      let e := (List.range 8).foldl (fun (e : Dev) n =>
        let x := SMap.get {} e.ldg.pins n
        let same := e.bit 0xB3 LDG_SIN_STATE n == e.bit 0xB3 LDG_SIN_STATE (8 + n)
        Dev.pinFollow n { e with ldg := { e.ldg with pins := SMap.put {} e.ldg.pins n { x with
          disc := if same = true then 0 else min 511 (x.disc + 1)
          agreeSince := if same = true ∧ x.disc ≠ 0 then e.now else x.agreeSince } } }) d
      (((List.range 4).foldl Dev.readbackDue e).ldgSelect).ldgDecide s.mem))) ∧
  (∀ (s : State) (t n : Nat), s.up t = true → n < 8 →
    let d := s.begun t
    d.ldgOn = true → d.discOf n ≤ (SMap.get {} d.ldg.pins n).disc →
    exec (.sinDiscFault t n) s = .next (s.put (Dev.ldgDecide s.mem (Dev.ldgFault 17 (Dev.setFld
      { d with ldg := { d.ldg with discBits := withBit d.ldg.discBits n } } 0xB3 ⟨LDG_SIN_STATE, 24 + n, 24 + n⟩ 1)))))

/-- STATUS_PDU_SEND at a multiple of 10 ms sends the next COUNTER and body on every linked lane; a good first copy of a command waits, and
with an equal partner within 20 ms it is accepted, with a different one counted as a mismatch; a copy that fails its checks is counted on
its lane; copies without a partner are dropped and counted after 20 ms; the watchdog clears NET_OK, counts and raises its event; a W1C of
LDG.FAULT clears the external bits whose causes have gone. (16_lodge_safety.md) -/
def Obligations.SafetyNetworkCommandsComplete : Prop :=
  (∀ (s : State) (t : Nat), s.up t = true →
    let d := s.begun t
    d.ldgOn = true → d.on 0xB2 LDG_NET_CFG_EN = true → d.edgeTime % 800000000 = 0 →
    let n := if d.ldg.sentAny = true then (d.regN 0xB2 LDG_TX_COUNTER + 1) % 2 ^ 32 else 0
    let frame (b : Bool) : List Nat := if d.safetySends b = true
      then ethFrame (d.macBytes LDG_PEER_MAC_LO) (d.macBytes LDG_OWN_MAC_LO) b (pduCopy b (d.statusBody n)) else []
    exec (.statusPduSend t) s = .next (s.put (Dev.setRegN
      { d with ldg := { d.ldg with
        sentAny := true, sent := [frame false, frame true], groups := [frameGroups (frame false), frameGroups (frame true)] } }
      0xB2 LDG_TX_COUNTER n))) ∧
  (∀ (s : State) (t : Nat) (b : Bool) (frame : List Nat), s.up t = true →
    let d := s.begun t
    let raw := (frame.drop 14).take 36
    let body := if b = true then (raw.take 32).map (fun x => 255 - x % 256) else raw.take 32
    let waiting := if b = true then d.ldg.rxA else d.ldg.rxB
    let partner := waiting.find? (fun x => pduCounter x.2 == pduCounter body && decide (d.now ≤ x.1 + 1600000000))
    d.ldgOn = true → d.on 0xB2 LDG_NET_CFG_EN = true → d.safetyLink b = true →
    frame.take 6 = d.macBytes LDG_OWN_MAC_LO → (frame.drop 12).take 2 = [0x88, if b = true then 0xB6 else 0xB5] → 64 ≤ frame.length →
    frame.drop (frame.length - 4) = leBytes 4 (crc32 (frame.take (frame.length - 4))).toNat →
    let without (x : Nat × List Nat) : Dev := { d with ldg := if b = true
      then { d.ldg with rxA := d.ldg.rxA.filter (fun y => y != x) } else { d.ldg with rxB := d.ldg.rxB.filter (fun y => y != x) } }
    (d.copyOk b raw = false → exec (.commandPduReceive t b frame) s = .next (s.put (
      d.bump 0xB2 (if b = true then LDG_RX_REJ_B else LDG_RX_REJ_A)))) ∧
    (d.copyOk b raw = true → partner = none → exec (.commandPduReceive t b frame) s = .next (s.put
      { d with ldg := if b = true then { d.ldg with rxB := d.ldg.rxB ++ [(d.now, body)] } else { d.ldg with rxA := d.ldg.rxA ++ [(d.now, body)] } })) ∧
    (∀ x, d.copyOk b raw = true → partner = some x → x.2 = body →
      exec (.commandPduReceive t b frame) s = .next (s.put ((without x).acceptCommand s.mem body))) ∧
    (∀ x, d.copyOk b raw = true → partner = some x → x.2 ≠ body →
      exec (.commandPduReceive t b frame) s = .next (s.put ((without x).bump 0xB2 LDG_RX_MISMATCH)))) ∧
  (∀ (s : State) (t : Nat), s.up t = true →
    let d := s.begun t
    let late (x : Nat × List Nat) : Bool := decide (x.1 + 1600000000 < d.now)
    exec (.commandPairTimeout t) s = .next (s.put (
      let e : Dev := { d with ldg := { d.ldg with
        rxA := d.ldg.rxA.filter (fun x => !late x)
        rxB := d.ldg.rxB.filter (fun x => !late x) } }
      (e.bumpBy 0xB2 LDG_RX_REJ_A (d.ldg.rxA.filter late).length).bumpBy 0xB2 LDG_RX_REJ_B (d.ldg.rxB.filter late).length))) ∧
  (∀ (s : State) (t a : Nat), s.up t = true →
    let d := s.begun t
    d.ldg.lastAccept = some a → d.netOk = true → a + 80000000 * max 20 (d.fld 0xB2 LDG_NET_CFG_WD_MS) < d.now →
    exec (.netWatchdogExpiry t) s = .next (s.put (
      ((((Dev.setNetOk false { d with ldg := { d.ldg with anyCounter := true } }).bump 0xB2 LDG_WD_CNT).raise 0xB0 6).ldgSelect).ldgDecide s.mem))) ∧
  (∀ (s : State) (t : Nat) (ini : Initiator) (w : Word), s.servedTo t ini = true → (s.begun t).hasLodge = true →
    exec (.ldgFaultClear t ini w) s = .next (s.put (
      let e := [16, 17, 18, 19].foldl (fun (e : Dev) b =>
        if bitAt w.toNat b = true ∧ e.causePersists b = false then e.clrBit 0xB0 LDG_FAULT b else e) (s.begun t)
      let l := { e.ldg with
        discBits := if e.bit 0xB0 LDG_FAULT 17 = true then e.ldg.discBits else 0
        shortBits := if e.bit 0xB0 LDG_FAULT 18 = true then e.ldg.shortBits else 0 }
      Dev.ldgDecide s.mem (Dev.setFld { e with ldg := l } 0xB3 LDG_SIN_STATE_FAULT (l.discBits ||| l.shortBits)))))

/-- A write of CAL.CTRL takes its word; START with EN and no test running begins a test of the selected bed, or waits until 250 ms have passed
since the last one began, and ABORT ends a running test with cause 5; the automatic start takes the next bed; the end of run A saves its
tallies and begins run B, the end of run B is followed by check and commit; BED_TEST_START begins the test that waited; a conversion
stores its reading (of a thermistor, the temperature of its resistance) and level, or the fault of an open or shorted sensor, a diode
above 1.2 V or below 0.15 V, a thermistor above 5 MΩ or below 20 Ω, and what follows from them; a reading older than 20 ms no longer
counts for OTP_OK. (17_calibration.md, 18_thermal_otp.md) -/
def Obligations.CalibrationAndTemperatureCommandsComplete : Prop :=
  (∀ (s : State) (t : Nat) (ini : Initiator) (w : Word), s.servedTo t ini = true →
    let after (v : Word) : Dev :=
      let e := Dev.merged 0x07 CAL_CTRL v (s.begun t)
      let e := if bitAt v.toNat CAL_CTRL_START.lo = false ∨ e.on 0x07 CAL_CTRL_EN = false ∨ e.cal.bed ≠ none then e
        else if e.calSpaced = true then e.calBegin (e.fld 0x07 CAL_CDT_CFG_BED)
        else { e with cal := { e.cal with waits := true } }
      if bitAt v.toNat CAL_CTRL_ABORT.lo = true then e.calFail 5 else e
    exec (.calStart t ini w) s = .next (s.put (after (forced CAL_CTRL_START 1 w))) ∧
    exec (.calAbort t ini w) s = .next (s.put (after (forced CAL_CTRL_ABORT 1 w)))) ∧
  (∀ (s : State) (t : Nat), s.up t = true →
    let d := s.begun t
    d.cal.bed = none →
    (d.on 0x07 CAL_CTRL_EN = true → d.on 0x07 CAL_CTRL_AUTO = true →
      (∀ a, d.cal.startAt = some a → a + 800000000 * max 25 (d.fld 0x07 CAL_SCHED_INTERVAL) ≤ d.now) →
      exec (.calAutoStart t) s = .next (s.put (Dev.calBegin d.cal.next { d with cal := { d.cal with next := (d.cal.next + 1) % 64 } }))) ∧
    (d.cal.waits = true → d.on 0x07 CAL_CTRL_EN = true → d.calSpaced = true →
      exec (.bedTestStart t) s = .next (s.put (d.calBegin (d.fld 0x07 CAL_CDT_CFG_BED))))) ∧
  (∀ (s : State) (t b : Nat), s.up t = true →
    let d := s.begun t
    let c := d.cal
    c.bed = some b →
    ((c.chans.all (fun k => decide (c.hits ≤ SMap.get 0 c.total k))) = true ∨ c.runAt + 80000000000 * c.tlim ≤ d.now) →
    (d.calState = 1 → exec (.calRunEnd t) s = .next (s.put (Dev.setFld { d with cal := { c with
      runAt := d.now, passA := c.passSet, tallyA := c.tally, total := [], tally := [] } } 0x07 CAL_STATUS_STATE 2))) ∧
    (d.calState = 2 → exec (.calRunEnd t) s = .next (s.put (d.calCheck b)))) ∧
  (∀ (s : State) (t n : Nat), s.up t = true → n < 14 →
    let d := s.begun t
    d.tsEnabled n = true →
    let found (d : Dev) (bad : Bool) : Dev :=
      let e := (List.range 8).foldl (fun (e : Dev) k => if e.tsEnabled k = true then e
        else (e.setBit 0x06 THM_FAULT k).setFld 0x06 (THM_READ_FAULT.plus (4 * k)) 1) { d with thmAt := SMap.put 0 d.thmAt n (d.now + 1) }
      if (List.range 8).any (fun k => !d.tsEnabled k && !d.bit 0x06 THM_FAULT k) = true ∨ (bad = true ∧ d.bit 0x06 THM_FAULT n = false)
      then e.raise 0x06 3 else e
    let reads (d : Dev) (temp : Int) : Dev :=
      let e := ((found d false).clrBit 0x06 THM_FAULT n).setFld 0x06 (THM_READ_FAULT.plus (4 * n)) 0
      let e := (e.setFld 0x06 (THM_READ_VALID.plus (4 * n)) 1).setFld 0x06 (THM_READ_T.plus (4 * n)) (toBits 16 temp)
      ((e.setFld 0x06 (tsLevelFld n) (e.nextLevel n temp)).thermalFollow).chargingWindow
    let broken : Dev :=
      let f := (((found d true).setBit 0x06 THM_FAULT n).setFld 0x06 (THM_READ_FAULT.plus (4 * n)) 1).setFld 0x06 (THM_READ_VALID.plus (4 * n)) 0
      ((f.setFld 0x06 (tsLevelFld n) 3).thermalFollow).chargingWindow
    (8 ≤ n → exec (.thermalConversionDone t n (.die none)) s = .next (s.put broken) ∧
      ∀ temp : Int, exec (.thermalConversionDone t n (.die (some temp))) s = .next (s.put (reads d temp))) ∧
    (n < 8 → d.fld 0x06 (THM_TS_CFG_TYPE.plus (4 * n)) = 0 → ∀ (uv : Nat) (temp : Int),
      exec (.thermalConversionDone t n (.diode uv temp)) s = .next (s.put
        (if 150000 ≤ uv ∧ uv ≤ 1200000 then reads d temp else broken))) ∧
    (n < 8 → d.fld 0x06 (THM_TS_CFG_TYPE.plus (4 * n)) = 1 → ∀ z : Nat,
      exec (.thermalConversionDone t n (.thermistor z)) s = .next (s.put
        (if 20000 ≤ z ∧ z ≤ 5000000000 then reads (d.thermistor n z).2 (d.thermistor n z).1 else broken)))) ∧
  (∀ (s : State) (t n a : Nat), s.up t = true → n < 14 →
    let d := s.begun t
    d.tsAge n = some a → 1600000000 < a →
    exec (.readingStale t n) s = .next (s.put ((d.setFld 0x06 THM_STATUS_OTP_OK d.otpWindow.toNat).chargingWindow)))

/-- OTP_PROGRAM_GO refuses a request with its code and an event, ends at once for the value 0, and else begins the word; OTP_PROGRAM_DONE
stores the word, counts it and raises its event; RD_DATA (of a word without bit errors) and RPT_DATA give the word at their address and
advance it; SEC_BOOT_GO derives the device key, shows step 1 and starts the sequence generator, or sets ID_BAD and derives none where a
word of the identity area holds an uncorrectable error; IMAGES_VERIFIED reports an absent or a rejected management image, and else loads
the images that are enabled and ends at step 5, or at 6 once the identity's public key is there, with the device in STANDBY, or in FAULT
where the IS variant's safety image did not load; ID_READY shows the identity's public key; RESERVATION_OPEN programs the next bit and
opens its block; ATTESTATION_GO forms the report's body and ATTESTATION_DONE signs it by the next index. (18_thermal_otp.md,
19_security.md) -/
def Obligations.OtpAndBootCommandsComplete : Prop :=
  (∀ (s : State) (t : Nat) (ini : Initiator) (w : Word), s.servedTo t ini = true →
    let d := Dev.merged 0x05 OTP_PROG_CTRL (forced OTP_PROG_CTRL_GO 1 w) (s.begun t)
    let a := d.fld 0x05 OTP_PROG_ADDR_WORD
    let v := d.reg 0x05 OTP_PROG_DATA
    exec (.otpProgramGo t ini w) s = .next (s.put (
      if d.otpRefusal a v ≠ 0 then (d.setFld 0x05 OTP_PROG_STATUS_ERR (d.otpRefusal a v)).raise 0x05 1
      else if v = 0 then d.setFld 0x05 OTP_PROG_STATUS_ERR 0
      else Dev.setFld { d.setFld 0x05 OTP_PROG_STATUS_ERR 0 with otp := { d.otp with job := some (a, v, false) } } 0x05 OTP_STATUS_BUSY 1))) ∧
  (∀ (s : State) (t a : Nat) (v : Word), s.up t = true →
    let d := s.begun t
    d.otp.job = some (a, v, false) → a % 512 ≠ 511 →
    exec (.otpProgramDone t true) s = .next (s.put (
      let e := Dev.setFld { d with otp := { d.otp with job := none } } 0x05 OTP_STATUS_BUSY 0
      (((e.otpPut a v).clrBit 0x05 OTP_STATUS (4 + (a - 1024) / 512)).bump 0x05 OTP_PROG_CNT).raise 0x05 0))) ∧
  (∀ (s : State) (t : Nat) (ini : Initiator), s.servedTo t ini = true →
    let d := s.begun t
    let a := d.fld 0x05 OTP_RD_ADDR_WORD
    (d.otpErr a = 0 → exec (.otpReadData t ini) s = .next (s.put ((d.setFld 0x05 OTP_RD_ADDR_WORD (a + 1)).deliver2 ini
      [if (3072 ≤ a ∧ a < 3328) ∨ 6144 ≤ a then 0 else d.otpWord a]))) ∧
    exec (.secReportRead t ini) s = .next (s.put ((d.setFld 0x04 SEC_RPT_ADDR_ADDR (d.fld 0x04 SEC_RPT_ADDR_ADDR + 1)).deliver2 ini
      [BitVec.ofNat 32 (if d.on 0x04 SEC_ATT_STATUS_VALID = true then ofLe ((d.sec.report.drop (4 * d.fld 0x04 SEC_RPT_ADDR_ADDR)).take 4) else 0)]))) ∧
  (∀ (s : State) (t : Nat) (ini : Initiator), s.servedTo t ini = true →
    let d := Dev.merged 0x04 SEC_BOOT_CTRL 1 (s.begun t)
    d.devState = stBoot → d.otp.loaded = true → d.sec.booting = false → d.on 0x54 GZB_SEQ_STATUS_KEY_OK = false →
    (d.identityLost = true → ∃ s', exec (.secBootGo t ini) s = .next s' ∧ s'.dev.on 0x04 SEC_STATUS_ID_BAD = true ∧ s'.dev.sec.kd = none) ∧
    (d.identityLost = false → exec (.secBootGo t ini) s = .next (s.put (
      let e : Dev := { d with sec := { d.sec with
        booting := true
        kd := some (hmac256 (d.identity 3084 8) ([0x4B, 0x44] ++ beBytes 4 1)) } }
      let e := (e.setFld 0x04 SEC_BOOT_STATUS_IMAGE 0).setFld 0x04 SEC_BOOT_STATUS_ERR 0
      (((e.setFld 0x04 SEC_BOOT_STATUS_STEP 1).setFld 0x54 GZB_SEQ_STATUS_KEY_OK 1).setFld 0x04 SEC_STATUS_KEY_OK 1).seqStart)))) ∧
  (∀ (s : State) (t : Nat), s.up t = true →
    let d := s.begun t
    d.sec.booting = true →
    let e : Dev := { d with sec := { d.sec with booting := false } }
    let v := e.verifyMgmt s.mem (4096 * e.fld 0x04 SEC_IMG_MGMT_BASE)
    let stops (e : Dev) (code : Nat) : Dev := (e.bootReport 0 code).setFld 0x04 SEC_BOOT_STATUS_STEP 2
    let f := (Dev.noteImage 0 v.digest v.signer { e with sec := { e.sec with mgmtRuns := true } }).bootTerraces s.mem
    let a := 4096 * f.1.fld 0x04 SEC_IMG_SAFE_BASE
    let safe := f.1.bootImage s.mem 5 3 a
    let done (g : Dev) : Dev :=
      let g := (f.2.foldl Dev.bootCores g).setFld 0x04 SEC_BOOT_STATUS_STEP 5
      if g.on 0x04 SEC_STATUS_ID_READY = true then g.setFld 0x04 SEC_BOOT_STATUS_STEP 6 else g
    let loaded := f.1.on 0x04 SEC_IMG_SAFE_EN
    exec (.imagesVerified t) s = .next (s.put (
      if e.on 0x04 SEC_IMG_MGMT_EN = false then stops e 7
      else if v.code ≠ 0 then stops (e.setFld 0x04 SEC_VERIFY_LAST_CODE v.code) v.code
      else if f.1.variant = .is then
        if loaded = true ∧ (pglHeader s.mem a).safety = true ∧ safe.2 ≠ none then (done safe.1).startPair.enterState stStandby
        else (done (if loaded = false then f.1.bootReport 5 7
          else if (pglHeader s.mem a).safety = true then safe.1 else f.1.bootReport 5 6)).enterFault DEV_FAULT_CAUSE_SAFETY_IMAGE
      else if loaded = true then (done (((f.1.setFld 0x70 PGL_LOAD_STATUS_ERR 6).raise 0x70 9).bootReport 5 6)).enterState stStandby
      else (done f.1).enterState stStandby))) ∧
  (∀ (s : State) (t : Nat), s.up t = true →
    let d := s.begun t
    d.sec.kd ≠ none → d.on 0x04 SEC_STATUS_ID_READY = false → d.on 0x04 SEC_STATUS_ID_BAD = false →
    exec (.idReady t) s = .next (s.put (
      let e := ((List.range 15).foldl (fun (e : Dev) i =>
        e.setRegN 0x04 (SEC_ID_PUB + 4 * i) (ofLe ((d.idPub.drop (4 * i)).take 4))) d).setFld 0x04 SEC_STATUS_ID_READY 1
      if e.fld 0x04 SEC_BOOT_STATUS_STEP = 5 then e.setFld 0x04 SEC_BOOT_STATUS_STEP 6 else e))) ∧
  (∀ (s : State) (t : Nat), s.up t = true →
    let d := s.begun t
    let b := d.nextBlock
    d.sec.att ≠ none → d.sec.block = none → d.otp.job = none → d.otpWindow = true → d.on 0x05 OTP_STATUS_ABORTED = false → b < 65536 →
    exec (.reservationOpen t) s = .next (s.put (
      let e := d.otpPut (4096 + b / 32) (d.otpWord (4096 + b / 32) ||| BitVec.ofNat 32 (2 ^ (b % 32)))
      let e := (Dev.nextFollow { e with sec := { e.sec with block := some (512 * b, 512 * b + 512) } }).blocksFollow
      if e.fld 0x04 SEC_ID_BLOCKS_FREE < 1024 then e.raise 0x04 5 else e))) ∧
  (∀ (s : State) (t : Nat) (ini : Initiator), s.servedTo t ini = true →
    let d := Dev.merged 0x04 SEC_ATT_CTRL 1 (s.begun t)
    d.on 0x04 SEC_ATT_STATUS_BUSY = false →
    let e := d.setFld 0x04 SEC_ATT_STATUS_VALID 0
    e.on 0x04 SEC_STATUS_ID_BAD = false → e.devState ≠ stReset → e.devState ≠ stBoot → e.on 0x04 SEC_STATUS_ID_READY = true →
    exec (.attestationGo t ini) s = .next (s.put (
      let e := (e.setFld 0x04 SEC_ATT_STATUS_ERR 0).setFld 0x04 SEC_ATT_STATUS_BUSY 1
      { e with sec := { e.sec with att := some e.attBody } }))) ∧
  (∀ (s : State) (t q last : Nat) (body : List Nat), s.up t = true →
    let d := s.begun t
    d.sec.att = some body → d.sec.block = some (q, last) →
    exec (.attestationDone t) s = .next (s.put (
      let e := (d.idSign q body).2
      let e := Dev.nextFollow { e with sec := { e.sec with
        att := none
        report := body ++ (d.idSign q body).1
        block := if q + 1 < last then some (q + 1, last) else none } }
      let e := (e.setFld 0x04 SEC_ATT_STATUS_BUSY 0).setFld 0x04 SEC_ATT_STATUS_VALID 1
      ((e.setFld 0x04 SEC_ATT_STATUS_SEQ (e.fld 0x04 SEC_ATT_STATUS_SEQ + 1)).bump 0x04 SEC_ATT_CNT).raise 0x04 1)))

/-- With the token in shared SRAM naming the row's operation, a write of 1 to SEC.TOKEN_CTRL shows its OP and code; a rejected token is
counted and its event raised; an accepted one unlocks debug access with every output of Lodge OFF, programs the customer's key hash, the
revocation word or the thermometer words, and its event is raised; the challenge is drawn anew either way. An unknown operation is always
rejected. (19_security.md) -/
def Obligations.TokenCommandsComplete : Prop :=
  ∀ (s : State) (t : Nat) (ini : Initiator), s.servedTo t ini = true →
    let d := Dev.merged 0x04 SEC_TOKEN_CTRL 1 (s.begun t)
    let op := (s.begun t).tokenOp s.mem
    let code := d.tokenCode s.mem
    let shown := (d.setFld 0x04 SEC_TOKEN_STATUS_OP op).setFld 0x04 SEC_TOKEN_STATUS_ERR code
    let bad := (((if code ≤ 5 then shown.setFld 0x04 SEC_VERIFY_LAST_CODE code else shown).bump 0x04 SEC_TOKEN_REJ_CNT).raise 0x04 4).newChallenge
    let judged (e : Dev) : Host.Outcome State Fault Refusal := .next (s.put (if code = 0 then (e.raise 0x04 3).newChallenge else bad))
    let byte (o : Nat) : Nat := (memByte s.mem (shown.tokenAddr + o)).toNat
    (op = 1 → exec (.tokenDebugUnlock t ini) s = judged (
      let e := shown.setFld 0xB4 DBG_STATUS_UNLOCK (shown.fld 0xB4 DBG_STATUS_UNLOCK ||| byte 56 % 8)
      ((e.setFld 0x04 SEC_STATUS_DBG_UNLOCKED 1).ossdOff).raise 0x04 6)) ∧
    (op = 2 → exec (.tokenInstallCustomer t ini) s = judged (
      ((List.range 8).foldl (fun (e : Dev) i =>
        e.secProgram (3328 + 64 + 8 * (byte 6 % 8) + i) (memWord s.mem (shown.tokenAddr + 56 + 4 * i))) shown).keysFollow)) ∧
    (op = 3 → exec (.tokenRevoke t ini) s = judged (
      (shown.secProgram (3456 + 8 * (byte 6 / 8 % 2) + byte 6 % 8) 0xDEAD).keysFollow)) ∧
    (op = 4 → exec (.tokenRaiseSvn t ini) s = judged (
      let cls := byte 7 % 2
      ((List.range 32).foldl (fun (e : Dev) i =>
        if e.minSvn cls < byte 6 % 64 ∧ e.otpWord (3472 + 32 * cls + i) = 0 then
          Dev.secProgram (3472 + 32 * cls + i) (BitVec.ofNat 32 (max 1 (e.draw.1 % 2 ^ 32))) e.draw.2 else e) shown).keysFollow)) ∧
    (op = 0 ∨ 4 < op → code ≠ 0 ∧ exec (.tokenUnknownOp t ini) s = .next (s.put bad))

/-- TAP_RESET selects IDCODE; IDCODE captures 0x120489CB, whose bits [31:28] are 1 for the stepping, [27:12] 0x2048 for the part, [11:1] 0x4E5
for the manufacturer and bit 0 is 1; BYPASS and every undefined code select BYPASS and capture 0, as does DBG_ACCESS while it is locked,
which is counted; a boundary instruction takes the pins and the new latches, CLAMP and HIGHZ the bypass bit, and an ARMED or SCANNING
device goes to SAFE_HOLD where the instruction drives its pins; an unlocked DBG_ACCESS is an access of the fourth initiator; DBG.MEM_DATA
reads the pattern buffers while that is unlocked, else 0. (R491) -/
def Obligations.TestAccessPortCompletes : Prop :=
  (∀ (s : State) (t : Nat),
    exec (.tapReset t) s = .next (s.put (
      Dev.setFld { s.begun t with jtag := { (s.begun t).jtag with ir := 0x01 } } 0xB4 DBG_STATUS_TAP_RESET 1)) ∧
    exec (.jtagIdcode t) s = .next (s.put (((s.begun t).tapLoad 0x01).tapCapture 0x120489CB)) ∧
    (∃ e : Dev, exec (.jtagIdcode t) s = .next (s.put e) ∧ e.jtag.capture / 2 ^ 28 = 0x1 ∧ e.jtag.capture / 2 ^ 12 % 2 ^ 16 = 0x2048 ∧
      e.jtag.capture / 2 % 2 ^ 11 = 0x4E5 ∧ e.jtag.capture % 2 = 1) ∧
    exec (.jtagClamp t) s = .next (s.put (((s.begun t).tapLoad 0x06).tapCapture 0)) ∧
    exec (.jtagHighz t) s = .next (s.put (((s.begun t).tapLoad 0x07).tapCapture 0))) ∧
  (∀ (s : State) (t code : Nat), code < 256 → code = 0 ∨ 7 < code →
    (code ≠ 0x10 → exec (.jtagBypass t code) s = .next (s.put (((s.begun t).tapLoad 0xFF).tapCapture 0))) ∧
    (code = 0x10 → (s.begun t).bit 0xB4 DBG_STATUS 0 = false →
      exec (.jtagBypass t code) s = .next (s.put ((((s.begun t).tapLoad 0xFF).tapCapture 0).bump 0xB4 DBG_LOCKED_CNT)))) ∧
  (∀ (s : State) (t pins latches : Nat),
    let loaded (code : Nat) : Dev :=
      let e := (s.begun t).tapLoad code
      { e with jtag := { e.jtag with capture := pins % 2 ^ 896, latches := latches % 2 ^ 896 } }
    exec (.jtagSamplePreload t pins latches) s = .next (s.put (loaded 0x02)) ∧
    exec (.jtagExtest t pins latches) s = .next (s.put (loaded 0x03)) ∧
    exec (.jtagExtestPulse t pins latches) s = .next (s.put (loaded 0x04)) ∧
    exec (.jtagExtestTrain t pins latches) s = .next (s.put (loaded 0x05))) ∧
  (∀ (s : State) (t code : Nat), 3 ≤ code → code ≤ 7 → (s.begun t).devState = stArmed ∨ (s.begun t).devState = stScanning →
    ((s.begun t).tapLoad code) =
      (Dev.setFld { s.begun t with jtag := { (s.begun t).jtag with ir := code } } 0xB4 DBG_STATUS_TAP_RESET 0).enterState stSafeHold) ∧
  (∀ (s : State) (t a : Nat) (w : Word),
    let e := (s.begun t).tapLoad 0x10
    (s.begun t).bit 0xB4 DBG_STATUS 0 = true → e.awake = true →
    exec (.jtagDbgAccess t a (some w)) s = .next ((s.put e).busWrite .jtag (a % 2 ^ 32) w) ∧
    exec (.jtagDbgAccess t a none) s = .next (
      let r := (s.put e).busRead .jtag (a % 2 ^ 32)
      r.2.put ((r.2.dev.deliver2 .jtag [r.1]).tapCapture (r.1.toNat * 2 ^ 32)))) ∧
  (∀ (s : State) (t a : Nat) (w : Option Word), (s.begun t).bit 0xB4 DBG_STATUS 0 = false →
    exec (.jtagDbgAccess t a w) s = .next (s.put ((((s.begun t).tapLoad 0xFF).tapCapture 0).bump 0xB4 DBG_LOCKED_CNT))) ∧
  (∀ (s : State) (t : Nat) (ini : Initiator), s.servedTo t ini = true →
    let d := s.begun t
    let a := d.regN 0xB4 DBG_MEM_ADDR
    (d.bit 0xB4 DBG_STATUS 2 = true → exec (.dbgMemRead t ini) s = .next (s.put (
      (d.setRegN 0xB4 DBG_MEM_ADDR (a + 4)).deliver2 ini [d.patternWord a]))) ∧
    (d.bit 0xB4 DBG_STATUS 2 = false → exec (.dbgMemRead t ini) s = .next (s.put (d.deliver2 ini [0]))))

/-- After bit b of page p is raised, EVENT_RAW bit b of the page is set, EVENT_PENDING shows it exactly while the mask bit is 0, every RAW bit
that was set on any page is still set, and every EVENT_MASK is as before. (20_registers_events.md) -/
def Obligations.RaisingSetsRawWhateverTheMask : Prop :=
  ∀ (d : Dev) (p b : Nat), b < 32 →
    (d.raise p b).bit p EVENT_RAW b = true ∧
    ((d.raise p b).pending p).getLsbD b = !d.bit p EVENT_MASK b ∧
    (∀ q c, c < 32 → d.bit q EVENT_RAW c = true → (d.raise p b).bit q EVENT_RAW c = true) ∧
    (∀ q, (d.raise p b).reg q EVENT_MASK = d.reg q EVENT_MASK)

/-- A REGISTER_WRITE of any word at any address of page 0x85 completes and leaves each of the twenty budgets and VLIM no greater, and
OMEGA_MIN no smaller, than the moment of the write found it; a budget takes a written word that is not greater, and a greater one is
counted in RELAX_REJECT. (09_gatehouse.md) -/
def Obligations.NoWriteLoosensALimit : Prop :=
  (∀ (s : State) (t off : Nat) (ini : Initiator) (w : Word), off < 4096 → s.servedTo t ini = true →
    ∃ s', exec (.registerWrite t ini (0x40085000 + off) w) s = .next s' ∧
      (∀ k, k < 20 → s'.dev.regN 0x85 (GTH_BUD_SCAN_SEG + 4 * k) ≤ (s.begun t).regN 0x85 (GTH_BUD_SCAN_SEG + 4 * k)) ∧
      s'.dev.fld 0x85 GTH_VLIM_VLIM ≤ (s.begun t).fld 0x85 GTH_VLIM_VLIM ∧
      (s.begun t).fld 0x85 GTH_OMEGA_MIN_OMEGA_MIN ≤ s'.dev.fld 0x85 GTH_OMEGA_MIN_OMEGA_MIN) ∧
  (∀ (s : State) (t k : Nat) (ini : Initiator) (w : Word), k < 20 → s.servedTo t ini = true →
    ∃ s', exec (.gthBudgetWrite t ini (GTH_BUD_SCAN_SEG + 4 * k) w) s = .next s' ∧
      s'.dev.regN 0x85 (GTH_BUD_SCAN_SEG + 4 * k) = min w.toNat ((s.begun t).regN 0x85 (GTH_BUD_SCAN_SEG + 4 * k)) ∧
      (w.toNat ≤ (s.begun t).regN 0x85 (GTH_BUD_SCAN_SEG + 4 * k) → s'.dev.regN 0x85 GTH_RELAX_REJECT = (s.begun t).regN 0x85 GTH_RELAX_REJECT) ∧
      ((s.begun t).regN 0x85 (GTH_BUD_SCAN_SEG + 4 * k) < w.toNat → (s.begun t).regN 0x85 GTH_RELAX_REJECT < 2 ^ 32 - 1 →
        s'.dev.regN 0x85 GTH_RELAX_REJECT = (s.begun t).regN 0x85 GTH_RELAX_REJECT + 1))
end

