-- ==== Sys2Proof/Laws/Commands.lean ====
section
/-! SUPPORT. What the shapes of command and the write of a register come to, each said once. -/
namespace Sys2Proof.Machine

@[simp] theorem State.put_dev (s : State) (d : Dev) : (s.put d).dev = d := rfl
@[simp] theorem State.put_mem (s : State) (d : Dev) : (s.put d).mem = s.mem := rfl
@[simp] theorem State.put_pending (s : State) (d : Dev) : (s.put d).pending = s.pending := rfl
@[simp] theorem State.put_put (s : State) (d e : Dev) : (s.put d).put e = s.put e := rfl
@[simp] theorem State.ready_dev (s : State) (t : Nat) : (s.ready t).dev = s.begun t := rfl
@[simp] theorem State.ready_mem (s : State) (t : Nat) : (s.ready t).mem = s.mem := rfl
@[simp] theorem State.ready_pending (s : State) (t : Nat) : (s.ready t).pending = s.pending := rfl

/-- A command that acts in every state answers its change of the device. -/
theorem State.always_eq (s : State) (t : Nat) (f : Dev → Dev) : s.always t f = .next (s.put (f (s.begun t))) := rfl

/-- A command out of RESET answers its change of the device. -/
theorem State.cmd_up {s : State} {t : Nat} (h : s.up t = true) (f : Dev → Dev) :
    s.cmd t true f = .next (s.put (f (s.begun t))) := by
  simp only [State.up, State.begun] at h
  simp [State.cmd, State.always_eq, State.begun, h]

/-- A command of operands out of range, or in RESET, only passes time. -/
theorem State.cmd_down {s : State} {t : Nat} {ok : Bool} (h : (ok && s.up t) = false) (f : Dev → Dev) :
    s.cmd t ok f = .next (s.ready t) := by
  simp only [State.up, State.begun] at h
  simp only [State.cmd, State.always_eq, State.ready, State.begun, h, Bool.false_eq_true, if_false]

theorem State.cmdM_up {s : State} {t : Nat} (h : s.up t = true) (f : Mem → Dev → Dev) :
    s.cmdM t true f = .next (s.put (f s.mem (s.begun t))) := State.cmd_up h _

theorem State.cmdS_up {s : State} {t : Nat} (h : s.up t = true) (f : State → State) :
    s.cmdS t true f = .next (f (s.ready t)) := by
  simp only [State.up, State.begun] at h
  simp [State.cmdS, State.ready, State.put, State.begun, h]

theorem State.cmdS_down {s : State} {t : Nat} {ok : Bool} (h : (ok && s.up t) = false) (f : State → State) :
    s.cmdS t ok f = .next (s.ready t) := by
  simp only [State.up, State.begun] at h
  simp [State.cmdS, State.ready, State.put, State.begun, h]

theorem State.servedTo_up {s : State} {t : Nat} {ini : Initiator} (h : s.servedTo t ini = true) : s.up t = true := by
  simp only [State.servedTo, Bool.and_eq_true] at h; exact h.1

theorem State.writable_served {s : State} {t : Nat} {ini : Initiator} {p off : Nat} (h : s.writable t ini p off = true) :
    s.servedTo t ini = true := by
  simp only [State.writable, Bool.and_eq_true] at h; exact h.1

/-- A register-write row reaches its page. -/
theorem State.rowWrite_served {s : State} {t : Nat} {ini : Initiator} (h : s.servedTo t ini = true) (p off : Nat) (w : Word) :
    s.rowWrite t true ini p off w = .next (s.put ((s.begun t).pageWrite s.mem ini p off w)) := by
  have hu := State.servedTo_up h
  simp only [State.servedTo, Bool.and_eq_true] at h
  simp [State.rowWrite, State.cmdS_up hu, State.portWrite, State.regWrite, State.placeWrite, h.2, State.ready, State.put]

/-- A write of a register that answers is the page's own write of it. -/
theorem Dev.pageWrite_own {m : Mem} {ini : Initiator} {p off : Nat} {w : Word} {d : Dev} {r : RegDef}
    (hd : (d.landing p off).dead p off = false) (hc : (d.landing p off).writeCommon m ini p off w = none)
    (hr : regDef p off = some r) : d.pageWrite m ini p off w = (d.landing p off).ownWrite m r p off w := by
  simp [Dev.pageWrite, hd, hc, hr]

/-- An offset that no common register has is the page's own. -/
theorem Dev.writeCommon_none {m : Mem} {ini : Initiator} {p off : Nat} {w : Word} {d : Dev}
    (h : off ≠ EVENT_MASK ∧ off ≠ EVENT_PENDING ∧ off ≠ PAGE_LOCK ∧ off ≠ MBX_SELECT) :
    d.writeCommon m ini p off w = none := by
  simp [Dev.writeCommon, h]

/-- Outside the data plane a write lands without a trace (R35, R353). -/
theorem Dev.landing_out {p off : Nat} (d : Dev) (h : p < 8 ∨ 0x78 ≤ p) : d.landing p off = d := by
  unfold Dev.landing
  split
  · rfl
  · have h1 : isDataPlane p = false := by simp [isDataPlane]; omega
    have h2 : ¬ (8 ≤ p ∧ p ≤ 0x57) := by omega
    simp [h1, h2]

/-- A row that writes a register of its page's own: the page's write on the landed device. -/
theorem State.rowWrite_own {s : State} {t : Nat} {ini : Initiator} {p off : Nat} {r : RegDef}
    (h : s.writable t ini p off = true) (hr : regDef p off = some r)
    (ho : off ≠ EVENT_MASK ∧ off ≠ EVENT_PENDING ∧ off ≠ PAGE_LOCK ∧ off ≠ MBX_SELECT) (w : Word) :
    s.rowWrite t true ini p off w = .next (s.put ((s.landed t p off).ownWrite s.mem r p off w)) := by
  rw [State.rowWrite_served (State.writable_served h)]
  simp only [State.writable, Bool.and_eq_true, Bool.not_eq_true'] at h
  rw [Dev.pageWrite_own h.2 (Dev.writeCommon_none ho) hr]; rfl

/-- The pages of the management plane and below are never dead. -/
theorem Dev.dead_low {p off : Nat} (d : Dev) (h : p < 8 ∨ (0x83 ≤ p ∧ (p < 0xB0 ∨ 0xB3 < p))) : d.dead p off = false := by
  have h1 : d.absent p = false := by simp [Dev.absent]; omega
  have h2 : pageDomain p = none := by
    unfold pageDomain
    rcases h with h | ⟨h, _⟩
    · simp [h]
    · simp [show ¬ p < 8 by omega, show ¬ p < 12 by omega, show ¬ p < 16 by omega, show ¬ p < 0x50 by omega,
        show ¬ p < 0x54 by omega, show ¬ p < 0x58 by omega, show ¬ p < 0x78 by omega, show ¬ p < 0x83 by omega]
  simp [Dev.dead, h1, Dev.powered, h2]

/-- A row that writes a register of a page that is never dead. -/
theorem State.rowWrite_low {s : State} {t : Nat} {ini : Initiator} {p off : Nat} {r : RegDef}
    (h : s.servedTo t ini = true) (hp : p < 8 ∨ (0x83 ≤ p ∧ (p < 0xB0 ∨ 0xB3 < p))) (hr : regDef p off = some r)
    (ho : off ≠ EVENT_MASK ∧ off ≠ EVENT_PENDING ∧ off ≠ PAGE_LOCK ∧ off ≠ MBX_SELECT) (w : Word) :
    s.rowWrite t true ini p off w = .next (s.put ((s.begun t).ownWrite s.mem r p off w)) := by
  have hl : s.landed t p off = s.begun t := Dev.landing_out _ (by omega)
  have hw : s.writable t ini p off = true := by simp [State.writable, h, hl, Dev.dead_low _ hp]
  rw [State.rowWrite_own hw hr ho, hl]

/-- A register that refuses nothing takes the write by its access codes. -/
theorem Dev.mergeAllowed_all {r : RegDef} {p off : Nat} {d : Dev} (h : d.refused p off = 0) (w : Word) :
    d.mergeAllowed r p off w = d.mergeWrite r p off w := by
  have e : (w &&& ~~~(0 : Word)) ||| (d.reg p off &&& 0) = w := by
    rw [show (~~~(0 : Word)) = BitVec.allOnes 32 from rfl, BitVec.and_allOnes]; simp
  simp only [Dev.mergeAllowed, h, e]

theorem Dev.merged_some {p off : Nat} {r : RegDef} (hr : regDef p off = some r) (w : Word) (d : Dev) :
    Dev.merged p off w d = d.mergeWrite r p off w := by simp [Dev.merged, hr]

end Sys2Proof.Machine
end

