-- ==== Sys2Proof/Laws/SMap.lean ====
section
/-! SUPPORT. The laws of sparse maps: what a read gives after a write, and that every operation keeps the canonical form. -/
namespace Sys2Proof.Machine

variable {α : Type}

@[simp] theorem SMap.get_nil (dv : α) (k : Nat) : SMap.get dv [] k = dv := rfl

theorem SMap.get_erase_self (dv : α) (m : SMap α) (k : Nat) : SMap.get dv (SMap.erase m k) k = dv := by
  induction m with
  | nil => rfl
  | cons e m ih =>
    obtain ⟨k', v⟩ := e
    by_cases h : k' = k
    · simp only [SMap.erase, h, if_true]; exact ih
    · simp only [SMap.erase, h, if_false, SMap.get, Ne.symm h]; exact ih

theorem SMap.get_erase_other (dv : α) (m : SMap α) {k j : Nat} (hj : j ≠ k) :
    SMap.get dv (SMap.erase m k) j = SMap.get dv m j := by
  induction m with
  | nil => rfl
  | cons e m ih =>
    obtain ⟨k', v⟩ := e
    by_cases h : k' = k
    · subst h; simp only [SMap.erase, if_true, SMap.get, hj, if_false]; exact ih
    · simp only [SMap.erase, h, if_false, SMap.get, ih]

theorem SMap.get_insert_self (dv : α) (m : SMap α) (k : Nat) (v : α) : SMap.get dv (SMap.insert m k v) k = v := by
  induction m with
  | nil => simp [SMap.insert, SMap.get]
  | cons e m ih =>
    obtain ⟨k', v'⟩ := e
    unfold SMap.insert
    split
    · simp [SMap.get]
    · split
      · simp [SMap.get]
      · next h => simp only [SMap.get, h, if_false]; exact ih

theorem SMap.get_insert_other (dv : α) (m : SMap α) {k j : Nat} (v : α) (hj : j ≠ k) :
    SMap.get dv (SMap.insert m k v) j = SMap.get dv m j := by
  induction m with
  | nil => simp [SMap.insert, SMap.get, hj]
  | cons e m ih =>
    obtain ⟨k', v'⟩ := e
    unfold SMap.insert
    split
    · simp [SMap.get, hj]
    · split
      · next h => subst h; simp [SMap.get, hj]
      · simp only [SMap.get, ih]

/-- A read of the key written gives the value written. -/
@[simp] theorem SMap.get_put_self [DecidableEq α] (dv : α) (m : SMap α) (k : Nat) (v : α) :
    SMap.get dv (SMap.put dv m k v) k = v := by
  unfold SMap.put
  split
  · next h => rw [SMap.get_erase_self, h]
  · exact SMap.get_insert_self dv m k v

/-- A write leaves every other key, whatever an unlisted key reads as. -/
theorem SMap.get_put_other [DecidableEq α] (dv dv' : α) (m : SMap α) {k j : Nat} (v : α) (hj : j ≠ k) :
    SMap.get dv' (SMap.put dv m k v) j = SMap.get dv' m j := by
  unfold SMap.put
  split
  · exact SMap.get_erase_other dv' m hj
  · exact SMap.get_insert_other dv' m v hj

/-! ### The canonical form -/

theorem SMap.above_mono {k j : Nat} (h : j ≤ k) (m : SMap α) (ha : SMap.above k m = true) : SMap.above j m = true := by
  induction m with
  | nil => rfl
  | cons e m ih =>
    obtain ⟨k', v⟩ := e
    simp only [SMap.above, Bool.and_eq_true, decide_eq_true_eq] at ha ⊢
    exact ⟨by omega, ih ha.2⟩

theorem SMap.above_erase {k j : Nat} (m : SMap α) (ha : SMap.above j m = true) : SMap.above j (SMap.erase m k) = true := by
  induction m with
  | nil => rfl
  | cons e m ih =>
    obtain ⟨k', v⟩ := e
    simp only [SMap.above, Bool.and_eq_true, decide_eq_true_eq] at ha
    unfold SMap.erase
    split
    · exact ih ha.2
    · simp only [SMap.above, Bool.and_eq_true, decide_eq_true_eq]; exact ⟨ha.1, ih ha.2⟩

theorem SMap.above_insert {k j : Nat} {v : α} (m : SMap α) (hk : j < k) (ha : SMap.above j m = true) :
    SMap.above j (SMap.insert m k v) = true := by
  induction m with
  | nil => simp [SMap.insert, SMap.above, hk]
  | cons e m ih =>
    obtain ⟨k', v'⟩ := e
    have ha' := ha
    simp only [SMap.above, Bool.and_eq_true, decide_eq_true_eq] at ha
    unfold SMap.insert
    split
    · simp only [SMap.above, Bool.and_eq_true, decide_eq_true_eq]; exact ⟨hk, ha⟩
    · split
      · simp only [SMap.above, Bool.and_eq_true, decide_eq_true_eq]; exact ⟨hk, ha.2⟩
      · simp only [SMap.above, Bool.and_eq_true, decide_eq_true_eq]; exact ⟨ha.1, ih ha.2⟩

theorem SMap.wf_erase [DecidableEq α] {dv : Nat → α} {k : Nat} (m : SMap α) (h : SMap.wf dv m = true) :
    SMap.wf dv (SMap.erase m k) = true := by
  induction m with
  | nil => rfl
  | cons e m ih =>
    obtain ⟨k', v⟩ := e
    simp only [SMap.wf, Bool.and_eq_true] at h
    unfold SMap.erase
    split
    · exact ih h.2
    · simp only [SMap.wf, Bool.and_eq_true]; exact ⟨⟨SMap.above_erase m h.1.1, h.1.2⟩, ih h.2⟩

theorem SMap.wf_insert [DecidableEq α] {dv : Nat → α} {k : Nat} {v : α} (hv : v ≠ dv k) (m : SMap α)
    (h : SMap.wf dv m = true) : SMap.wf dv (SMap.insert m k v) = true := by
  have hv' : (v != dv k) = true := by simpa using hv
  induction m with
  | nil => simp [SMap.insert, SMap.wf, SMap.above, hv']
  | cons e m ih =>
    obtain ⟨k', v'⟩ := e
    have h0 := h
    simp only [SMap.wf, Bool.and_eq_true] at h
    unfold SMap.insert
    split
    · next hk =>
      have : SMap.above k ((k', v') :: m) = true := by
        simp only [SMap.above, Bool.and_eq_true, decide_eq_true_eq]
        exact ⟨hk, SMap.above_mono (by omega) m h.1.1⟩
      rw [SMap.wf, this, hv', h0]; rfl
    · split
      · next hk => subst hk; simp only [SMap.wf, h.1.1, hv', h.2, Bool.and_self]
      · next h1 h2 =>
        have : SMap.above k' (SMap.insert m k v) = true := SMap.above_insert m (by omega) h.1.1
        simp only [SMap.wf, this, h.1.2, ih h.2, Bool.and_self]

/-- A write keeps the canonical form. -/
theorem SMap.wf_put [DecidableEq α] {dv : Nat → α} (m : SMap α) (k : Nat) (v : α) (h : SMap.wf dv m = true) :
    SMap.wf dv (SMap.put (dv k) m k v) = true := by
  unfold SMap.put
  split
  · exact SMap.wf_erase m h
  · next hv => exact SMap.wf_insert hv m h

/-- Dropping a region keeps the canonical form. -/
theorem SMap.wf_drop [DecidableEq α] {dv : Nat → α} (p : Nat → Bool) (m : SMap α) (h : SMap.wf dv m = true) :
    SMap.wf dv (SMap.drop m p) = true := by
  have above_drop : ∀ (m : SMap α) (j : Nat), SMap.above j m = true → SMap.above j (SMap.drop m p) = true := by
    intro m j
    induction m with
    | nil => intro _; rfl
    | cons e m ih =>
      obtain ⟨k', v⟩ := e
      intro ha
      simp only [SMap.above, Bool.and_eq_true] at ha
      unfold SMap.drop
      rw [List.filter_cons]
      split
      · simp only [SMap.above, Bool.and_eq_true]; exact ⟨ha.1, ih ha.2⟩
      · exact ih ha.2
  induction m with
  | nil => rfl
  | cons e m ih =>
    obtain ⟨k', v⟩ := e
    simp only [SMap.wf, Bool.and_eq_true] at h
    unfold SMap.drop
    rw [List.filter_cons]
    split
    · simp only [SMap.wf, Bool.and_eq_true]; exact ⟨⟨above_drop m k' h.1.1, h.1.2⟩, ih h.2⟩
    · exact ih h.2

end Sys2Proof.Machine
end

