-- ==== Sys2Proof/Laws/State.lean ====
section
/-! SUPPORT. What each update of the device leaves of each of its parts. -/
namespace Sys2Proof.Machine

/-! ### Writing a register leaves everything but the register file -/

@[simp] theorem Dev.setReg_variant (d : Dev) (p off : Nat) (w : Word) : (d.setReg p off w).variant = d.variant := rfl
@[simp] theorem Dev.setReg_now (d : Dev) (p off : Nat) (w : Word) : (d.setReg p off w).now = d.now := rfl
@[simp] theorem Dev.setReg_seen (d : Dev) (p off : Nat) (w : Word) : (d.setReg p off w).seen = d.seen := rfl
@[simp] theorem Dev.setReg_freeCtr (d : Dev) (p off : Nat) (w : Word) : (d.setReg p off w).freeCtr = d.freeCtr := rfl
@[simp] theorem Dev.setReg_evm (d : Dev) (p off : Nat) (w : Word) : (d.setReg p off w).evm = d.evm := rfl
@[simp] theorem Dev.setReg_mbx (d : Dev) (p off : Nat) (w : Word) : (d.setReg p off w).mbx = d.mbx := rfl
@[simp] theorem Dev.setReg_ports (d : Dev) (p off : Nat) (w : Word) : (d.setReg p off w).ports = d.ports := rfl
@[simp] theorem Dev.setReg_dtb (d : Dev) (p off : Nat) (w : Word) : (d.setReg p off w).dtb = d.dtb := rfl
@[simp] theorem Dev.setReg_cells (d : Dev) (p off : Nat) (w : Word) : (d.setReg p off w).cells = d.cells := rfl
@[simp] theorem Dev.setReg_pixels (d : Dev) (p off : Nat) (w : Word) : (d.setReg p off w).pixels = d.pixels := rfl
@[simp] theorem Dev.setReg_blankLow (d : Dev) (p off : Nat) (w : Word) : (d.setReg p off w).blankLow = d.blankLow := rfl
@[simp] theorem Dev.setReg_blank (d : Dev) (p off : Nat) (w : Word) : (d.setReg p off w).blank = d.blank := rfl
@[simp] theorem Dev.setReg_hops (d : Dev) (p off : Nat) (w : Word) : (d.setReg p off w).hops = d.hops := rfl
@[simp] theorem Dev.setReg_lag (d : Dev) (p off : Nat) (w : Word) : (d.setReg p off w).lag = d.lag := rfl
@[simp] theorem Dev.setReg_lagDir (d : Dev) (p off : Nat) (w : Word) : (d.setReg p off w).lagDir = d.lagDir := rfl
@[simp] theorem Dev.setReg_hopLog (d : Dev) (p off : Nat) (w : Word) : (d.setReg p off w).hopLog = d.hopLog := rfl
@[simp] theorem Dev.setReg_hopClip (d : Dev) (p off : Nat) (w : Word) : (d.setReg p off w).hopClip = d.hopClip := rfl
@[simp] theorem Dev.setReg_bank (d : Dev) (p off : Nat) (w : Word) : (d.setReg p off w).bank = d.bank := rfl
@[simp] theorem Dev.setReg_chan (d : Dev) (p off : Nat) (w : Word) : (d.setReg p off w).chan = d.chan := rfl
@[simp] theorem Dev.setReg_sdl (d : Dev) (p off : Nat) (w : Word) : (d.setReg p off w).sdl = d.sdl := rfl
@[simp] theorem Dev.setReg_org (d : Dev) (p off : Nat) (w : Word) : (d.setReg p off w).org = d.org := rfl
@[simp] theorem Dev.setReg_bins (d : Dev) (p off : Nat) (w : Word) : (d.setReg p off w).bins = d.bins := rfl
@[simp] theorem Dev.setReg_zoom (d : Dev) (p off : Nat) (w : Word) : (d.setReg p off w).zoom = d.zoom := rfl
@[simp] theorem Dev.setReg_blocks (d : Dev) (p off : Nat) (w : Word) : (d.setReg p off w).blocks = d.blocks := rfl
@[simp] theorem Dev.setReg_gzb (d : Dev) (p off : Nat) (w : Word) : (d.setReg p off w).gzb = d.gzb := rfl
@[simp] theorem Dev.setReg_satEchoes (d : Dev) (p off : Nat) (w : Word) : (d.setReg p off w).satEchoes = d.satEchoes := rfl
@[simp] theorem Dev.setReg_seqGen (d : Dev) (p off : Nat) (w : Word) : (d.setReg p off w).seqGen = d.seqGen := rfl
@[simp] theorem Dev.setReg_prm (d : Dev) (p off : Nat) (w : Word) : (d.setReg p off w).prm = d.prm := rfl
@[simp] theorem Dev.setReg_slots (d : Dev) (p off : Nat) (w : Word) : (d.setReg p off w).slots = d.slots := rfl
@[simp] theorem Dev.setReg_frames (d : Dev) (p off : Nat) (w : Word) : (d.setReg p off w).frames = d.frames := rfl
@[simp] theorem Dev.setReg_bnd (d : Dev) (p off : Nat) (w : Word) : (d.setReg p off w).bnd = d.bnd := rfl
@[simp] theorem Dev.setReg_thmAt (d : Dev) (p off : Nat) (w : Word) : (d.setReg p off w).thmAt = d.thmAt := rfl
@[simp] theorem Dev.setReg_gth (d : Dev) (p off : Nat) (w : Word) : (d.setReg p off w).gth = d.gth := rfl
@[simp] theorem Dev.setReg_calShadow (d : Dev) (p off : Nat) (w : Word) : (d.setReg p off w).calShadow = d.calShadow := rfl
@[simp] theorem Dev.setReg_blv (d : Dev) (p off : Nat) (w : Word) : (d.setReg p off w).blv = d.blv := rfl
@[simp] theorem Dev.setReg_pmp (d : Dev) (p off : Nat) (w : Word) : (d.setReg p off w).pmp = d.pmp := rfl
@[simp] theorem Dev.setReg_csc (d : Dev) (p off : Nat) (w : Word) : (d.setReg p off w).csc = d.csc := rfl
@[simp] theorem Dev.setReg_cores (d : Dev) (p off : Nat) (w : Word) : (d.setReg p off w).cores = d.cores := rfl
@[simp] theorem Dev.setReg_code (d : Dev) (p off : Nat) (w : Word) : (d.setReg p off w).code = d.code := rfl
@[simp] theorem Dev.setReg_bedMap (d : Dev) (p off : Nat) (w : Word) : (d.setReg p off w).bedMap = d.bedMap := rfl
@[simp] theorem Dev.setReg_pglLoads (d : Dev) (p off : Nat) (w : Word) : (d.setReg p off w).pglLoads = d.pglLoads := rfl
@[simp] theorem Dev.setReg_ldg (d : Dev) (p off : Nat) (w : Word) : (d.setReg p off w).ldg = d.ldg := rfl
@[simp] theorem Dev.setReg_loops (d : Dev) (p off : Nat) (w : Word) : (d.setReg p off w).loops = d.loops := rfl
@[simp] theorem Dev.setReg_dma (d : Dev) (p off : Nat) (w : Word) : (d.setReg p off w).dma = d.dma := rfl
@[simp] theorem Dev.setReg_otp (d : Dev) (p off : Nat) (w : Word) : (d.setReg p off w).otp = d.otp := rfl
@[simp] theorem Dev.setReg_sec (d : Dev) (p off : Nat) (w : Word) : (d.setReg p off w).sec = d.sec := rfl
@[simp] theorem Dev.setReg_cal (d : Dev) (p off : Nat) (w : Word) : (d.setReg p off w).cal = d.cal := rfl
@[simp] theorem Dev.setReg_pwr (d : Dev) (p off : Nat) (w : Word) : (d.setReg p off w).pwr = d.pwr := rfl
@[simp] theorem Dev.setReg_jtag (d : Dev) (p off : Nat) (w : Word) : (d.setReg p off w).jtag = d.jtag := rfl
@[simp] theorem Dev.setReg_dmaLast (d : Dev) (p off : Nat) (w : Word) : (d.setReg p off w).dmaLast = d.dmaLast := rfl
@[simp] theorem Dev.setReg_dtest (d : Dev) (p off : Nat) (w : Word) : (d.setReg p off w).dtest = d.dtest := rfl

@[simp] theorem Dev.setFld_variant (d : Dev) (p : Nat) (f : Fld) (v : Nat) : (d.setFld p f v).variant = d.variant := rfl
@[simp] theorem Dev.setFld_now (d : Dev) (p : Nat) (f : Fld) (v : Nat) : (d.setFld p f v).now = d.now := rfl
@[simp] theorem Dev.setFld_seen (d : Dev) (p : Nat) (f : Fld) (v : Nat) : (d.setFld p f v).seen = d.seen := rfl
@[simp] theorem Dev.setFld_freeCtr (d : Dev) (p : Nat) (f : Fld) (v : Nat) : (d.setFld p f v).freeCtr = d.freeCtr := rfl
@[simp] theorem Dev.setFld_evm (d : Dev) (p : Nat) (f : Fld) (v : Nat) : (d.setFld p f v).evm = d.evm := rfl
@[simp] theorem Dev.setFld_mbx (d : Dev) (p : Nat) (f : Fld) (v : Nat) : (d.setFld p f v).mbx = d.mbx := rfl
@[simp] theorem Dev.setFld_ports (d : Dev) (p : Nat) (f : Fld) (v : Nat) : (d.setFld p f v).ports = d.ports := rfl
@[simp] theorem Dev.setFld_dtb (d : Dev) (p : Nat) (f : Fld) (v : Nat) : (d.setFld p f v).dtb = d.dtb := rfl
@[simp] theorem Dev.setFld_cells (d : Dev) (p : Nat) (f : Fld) (v : Nat) : (d.setFld p f v).cells = d.cells := rfl
@[simp] theorem Dev.setFld_pixels (d : Dev) (p : Nat) (f : Fld) (v : Nat) : (d.setFld p f v).pixels = d.pixels := rfl
@[simp] theorem Dev.setFld_blankLow (d : Dev) (p : Nat) (f : Fld) (v : Nat) : (d.setFld p f v).blankLow = d.blankLow := rfl
@[simp] theorem Dev.setFld_blank (d : Dev) (p : Nat) (f : Fld) (v : Nat) : (d.setFld p f v).blank = d.blank := rfl
@[simp] theorem Dev.setFld_hops (d : Dev) (p : Nat) (f : Fld) (v : Nat) : (d.setFld p f v).hops = d.hops := rfl
@[simp] theorem Dev.setFld_lag (d : Dev) (p : Nat) (f : Fld) (v : Nat) : (d.setFld p f v).lag = d.lag := rfl
@[simp] theorem Dev.setFld_lagDir (d : Dev) (p : Nat) (f : Fld) (v : Nat) : (d.setFld p f v).lagDir = d.lagDir := rfl
@[simp] theorem Dev.setFld_hopLog (d : Dev) (p : Nat) (f : Fld) (v : Nat) : (d.setFld p f v).hopLog = d.hopLog := rfl
@[simp] theorem Dev.setFld_hopClip (d : Dev) (p : Nat) (f : Fld) (v : Nat) : (d.setFld p f v).hopClip = d.hopClip := rfl
@[simp] theorem Dev.setFld_bank (d : Dev) (p : Nat) (f : Fld) (v : Nat) : (d.setFld p f v).bank = d.bank := rfl
@[simp] theorem Dev.setFld_chan (d : Dev) (p : Nat) (f : Fld) (v : Nat) : (d.setFld p f v).chan = d.chan := rfl
@[simp] theorem Dev.setFld_sdl (d : Dev) (p : Nat) (f : Fld) (v : Nat) : (d.setFld p f v).sdl = d.sdl := rfl
@[simp] theorem Dev.setFld_org (d : Dev) (p : Nat) (f : Fld) (v : Nat) : (d.setFld p f v).org = d.org := rfl
@[simp] theorem Dev.setFld_bins (d : Dev) (p : Nat) (f : Fld) (v : Nat) : (d.setFld p f v).bins = d.bins := rfl
@[simp] theorem Dev.setFld_zoom (d : Dev) (p : Nat) (f : Fld) (v : Nat) : (d.setFld p f v).zoom = d.zoom := rfl
@[simp] theorem Dev.setFld_blocks (d : Dev) (p : Nat) (f : Fld) (v : Nat) : (d.setFld p f v).blocks = d.blocks := rfl
@[simp] theorem Dev.setFld_gzb (d : Dev) (p : Nat) (f : Fld) (v : Nat) : (d.setFld p f v).gzb = d.gzb := rfl
@[simp] theorem Dev.setFld_satEchoes (d : Dev) (p : Nat) (f : Fld) (v : Nat) : (d.setFld p f v).satEchoes = d.satEchoes := rfl
@[simp] theorem Dev.setFld_seqGen (d : Dev) (p : Nat) (f : Fld) (v : Nat) : (d.setFld p f v).seqGen = d.seqGen := rfl
@[simp] theorem Dev.setFld_prm (d : Dev) (p : Nat) (f : Fld) (v : Nat) : (d.setFld p f v).prm = d.prm := rfl
@[simp] theorem Dev.setFld_slots (d : Dev) (p : Nat) (f : Fld) (v : Nat) : (d.setFld p f v).slots = d.slots := rfl
@[simp] theorem Dev.setFld_frames (d : Dev) (p : Nat) (f : Fld) (v : Nat) : (d.setFld p f v).frames = d.frames := rfl
@[simp] theorem Dev.setFld_bnd (d : Dev) (p : Nat) (f : Fld) (v : Nat) : (d.setFld p f v).bnd = d.bnd := rfl
@[simp] theorem Dev.setFld_thmAt (d : Dev) (p : Nat) (f : Fld) (v : Nat) : (d.setFld p f v).thmAt = d.thmAt := rfl
@[simp] theorem Dev.setFld_gth (d : Dev) (p : Nat) (f : Fld) (v : Nat) : (d.setFld p f v).gth = d.gth := rfl
@[simp] theorem Dev.setFld_calShadow (d : Dev) (p : Nat) (f : Fld) (v : Nat) : (d.setFld p f v).calShadow = d.calShadow := rfl
@[simp] theorem Dev.setFld_blv (d : Dev) (p : Nat) (f : Fld) (v : Nat) : (d.setFld p f v).blv = d.blv := rfl
@[simp] theorem Dev.setFld_pmp (d : Dev) (p : Nat) (f : Fld) (v : Nat) : (d.setFld p f v).pmp = d.pmp := rfl
@[simp] theorem Dev.setFld_csc (d : Dev) (p : Nat) (f : Fld) (v : Nat) : (d.setFld p f v).csc = d.csc := rfl
@[simp] theorem Dev.setFld_cores (d : Dev) (p : Nat) (f : Fld) (v : Nat) : (d.setFld p f v).cores = d.cores := rfl
@[simp] theorem Dev.setFld_code (d : Dev) (p : Nat) (f : Fld) (v : Nat) : (d.setFld p f v).code = d.code := rfl
@[simp] theorem Dev.setFld_bedMap (d : Dev) (p : Nat) (f : Fld) (v : Nat) : (d.setFld p f v).bedMap = d.bedMap := rfl
@[simp] theorem Dev.setFld_pglLoads (d : Dev) (p : Nat) (f : Fld) (v : Nat) : (d.setFld p f v).pglLoads = d.pglLoads := rfl
@[simp] theorem Dev.setFld_ldg (d : Dev) (p : Nat) (f : Fld) (v : Nat) : (d.setFld p f v).ldg = d.ldg := rfl
@[simp] theorem Dev.setFld_loops (d : Dev) (p : Nat) (f : Fld) (v : Nat) : (d.setFld p f v).loops = d.loops := rfl
@[simp] theorem Dev.setFld_dma (d : Dev) (p : Nat) (f : Fld) (v : Nat) : (d.setFld p f v).dma = d.dma := rfl
@[simp] theorem Dev.setFld_otp (d : Dev) (p : Nat) (f : Fld) (v : Nat) : (d.setFld p f v).otp = d.otp := rfl
@[simp] theorem Dev.setFld_sec (d : Dev) (p : Nat) (f : Fld) (v : Nat) : (d.setFld p f v).sec = d.sec := rfl
@[simp] theorem Dev.setFld_cal (d : Dev) (p : Nat) (f : Fld) (v : Nat) : (d.setFld p f v).cal = d.cal := rfl
@[simp] theorem Dev.setFld_pwr (d : Dev) (p : Nat) (f : Fld) (v : Nat) : (d.setFld p f v).pwr = d.pwr := rfl
@[simp] theorem Dev.setFld_jtag (d : Dev) (p : Nat) (f : Fld) (v : Nat) : (d.setFld p f v).jtag = d.jtag := rfl
@[simp] theorem Dev.setFld_dmaLast (d : Dev) (p : Nat) (f : Fld) (v : Nat) : (d.setFld p f v).dmaLast = d.dmaLast := rfl
@[simp] theorem Dev.setFld_dtest (d : Dev) (p : Nat) (f : Fld) (v : Nat) : (d.setFld p f v).dtest = d.dtest := rfl

@[simp] theorem Dev.bump_variant (d : Dev) (p off : Nat) : (d.bump p off).variant = d.variant := rfl
@[simp] theorem Dev.bump_now (d : Dev) (p off : Nat) : (d.bump p off).now = d.now := rfl
@[simp] theorem Dev.bump_seen (d : Dev) (p off : Nat) : (d.bump p off).seen = d.seen := rfl
@[simp] theorem Dev.bump_freeCtr (d : Dev) (p off : Nat) : (d.bump p off).freeCtr = d.freeCtr := rfl
@[simp] theorem Dev.bump_evm (d : Dev) (p off : Nat) : (d.bump p off).evm = d.evm := rfl
@[simp] theorem Dev.bump_mbx (d : Dev) (p off : Nat) : (d.bump p off).mbx = d.mbx := rfl
@[simp] theorem Dev.bump_ports (d : Dev) (p off : Nat) : (d.bump p off).ports = d.ports := rfl
@[simp] theorem Dev.bump_dtb (d : Dev) (p off : Nat) : (d.bump p off).dtb = d.dtb := rfl
@[simp] theorem Dev.bump_cells (d : Dev) (p off : Nat) : (d.bump p off).cells = d.cells := rfl
@[simp] theorem Dev.bump_pixels (d : Dev) (p off : Nat) : (d.bump p off).pixels = d.pixels := rfl
@[simp] theorem Dev.bump_blankLow (d : Dev) (p off : Nat) : (d.bump p off).blankLow = d.blankLow := rfl
@[simp] theorem Dev.bump_blank (d : Dev) (p off : Nat) : (d.bump p off).blank = d.blank := rfl
@[simp] theorem Dev.bump_hops (d : Dev) (p off : Nat) : (d.bump p off).hops = d.hops := rfl
@[simp] theorem Dev.bump_lag (d : Dev) (p off : Nat) : (d.bump p off).lag = d.lag := rfl
@[simp] theorem Dev.bump_lagDir (d : Dev) (p off : Nat) : (d.bump p off).lagDir = d.lagDir := rfl
@[simp] theorem Dev.bump_hopLog (d : Dev) (p off : Nat) : (d.bump p off).hopLog = d.hopLog := rfl
@[simp] theorem Dev.bump_hopClip (d : Dev) (p off : Nat) : (d.bump p off).hopClip = d.hopClip := rfl
@[simp] theorem Dev.bump_bank (d : Dev) (p off : Nat) : (d.bump p off).bank = d.bank := rfl
@[simp] theorem Dev.bump_chan (d : Dev) (p off : Nat) : (d.bump p off).chan = d.chan := rfl
@[simp] theorem Dev.bump_sdl (d : Dev) (p off : Nat) : (d.bump p off).sdl = d.sdl := rfl
@[simp] theorem Dev.bump_org (d : Dev) (p off : Nat) : (d.bump p off).org = d.org := rfl
@[simp] theorem Dev.bump_bins (d : Dev) (p off : Nat) : (d.bump p off).bins = d.bins := rfl
@[simp] theorem Dev.bump_zoom (d : Dev) (p off : Nat) : (d.bump p off).zoom = d.zoom := rfl
@[simp] theorem Dev.bump_blocks (d : Dev) (p off : Nat) : (d.bump p off).blocks = d.blocks := rfl
@[simp] theorem Dev.bump_gzb (d : Dev) (p off : Nat) : (d.bump p off).gzb = d.gzb := rfl
@[simp] theorem Dev.bump_satEchoes (d : Dev) (p off : Nat) : (d.bump p off).satEchoes = d.satEchoes := rfl
@[simp] theorem Dev.bump_seqGen (d : Dev) (p off : Nat) : (d.bump p off).seqGen = d.seqGen := rfl
@[simp] theorem Dev.bump_prm (d : Dev) (p off : Nat) : (d.bump p off).prm = d.prm := rfl
@[simp] theorem Dev.bump_slots (d : Dev) (p off : Nat) : (d.bump p off).slots = d.slots := rfl
@[simp] theorem Dev.bump_frames (d : Dev) (p off : Nat) : (d.bump p off).frames = d.frames := rfl
@[simp] theorem Dev.bump_bnd (d : Dev) (p off : Nat) : (d.bump p off).bnd = d.bnd := rfl
@[simp] theorem Dev.bump_thmAt (d : Dev) (p off : Nat) : (d.bump p off).thmAt = d.thmAt := rfl
@[simp] theorem Dev.bump_gth (d : Dev) (p off : Nat) : (d.bump p off).gth = d.gth := rfl
@[simp] theorem Dev.bump_calShadow (d : Dev) (p off : Nat) : (d.bump p off).calShadow = d.calShadow := rfl
@[simp] theorem Dev.bump_blv (d : Dev) (p off : Nat) : (d.bump p off).blv = d.blv := rfl
@[simp] theorem Dev.bump_pmp (d : Dev) (p off : Nat) : (d.bump p off).pmp = d.pmp := rfl
@[simp] theorem Dev.bump_csc (d : Dev) (p off : Nat) : (d.bump p off).csc = d.csc := rfl
@[simp] theorem Dev.bump_cores (d : Dev) (p off : Nat) : (d.bump p off).cores = d.cores := rfl
@[simp] theorem Dev.bump_code (d : Dev) (p off : Nat) : (d.bump p off).code = d.code := rfl
@[simp] theorem Dev.bump_bedMap (d : Dev) (p off : Nat) : (d.bump p off).bedMap = d.bedMap := rfl
@[simp] theorem Dev.bump_pglLoads (d : Dev) (p off : Nat) : (d.bump p off).pglLoads = d.pglLoads := rfl
@[simp] theorem Dev.bump_ldg (d : Dev) (p off : Nat) : (d.bump p off).ldg = d.ldg := rfl
@[simp] theorem Dev.bump_loops (d : Dev) (p off : Nat) : (d.bump p off).loops = d.loops := rfl
@[simp] theorem Dev.bump_dma (d : Dev) (p off : Nat) : (d.bump p off).dma = d.dma := rfl
@[simp] theorem Dev.bump_otp (d : Dev) (p off : Nat) : (d.bump p off).otp = d.otp := rfl
@[simp] theorem Dev.bump_sec (d : Dev) (p off : Nat) : (d.bump p off).sec = d.sec := rfl
@[simp] theorem Dev.bump_cal (d : Dev) (p off : Nat) : (d.bump p off).cal = d.cal := rfl
@[simp] theorem Dev.bump_pwr (d : Dev) (p off : Nat) : (d.bump p off).pwr = d.pwr := rfl
@[simp] theorem Dev.bump_jtag (d : Dev) (p off : Nat) : (d.bump p off).jtag = d.jtag := rfl
@[simp] theorem Dev.bump_dmaLast (d : Dev) (p off : Nat) : (d.bump p off).dmaLast = d.dmaLast := rfl
@[simp] theorem Dev.bump_dtest (d : Dev) (p off : Nat) : (d.bump p off).dtest = d.dtest := rfl

/-! ### Writing one instance's record leaves the register file, the variant and the time -/

@[simp] theorem Dev.setBank_regs (d : Dev) (i : Nat) (x : Bank) : (d.setBank i x).regs = d.regs := rfl
@[simp] theorem Dev.setBank_variant (d : Dev) (i : Nat) (x : Bank) : (d.setBank i x).variant = d.variant := rfl
@[simp] theorem Dev.setBank_now (d : Dev) (i : Nat) (x : Bank) : (d.setBank i x).now = d.now := rfl
@[simp] theorem Dev.setBank_freeCtr (d : Dev) (i : Nat) (x : Bank) : (d.setBank i x).freeCtr = d.freeCtr := rfl
@[simp] theorem Dev.setBank_bins (d : Dev) (i : Nat) (x : Bank) : (d.setBank i x).bins = d.bins := rfl
@[simp] theorem Dev.setBank_cores (d : Dev) (i : Nat) (x : Bank) : (d.setBank i x).cores = d.cores := rfl
@[simp] theorem Dev.setBank_evm (d : Dev) (i : Nat) (x : Bank) : (d.setBank i x).evm = d.evm := rfl
@[simp] theorem Dev.setChan_regs (d : Dev) (i : Nat) (x : Chan) : (d.setChan i x).regs = d.regs := rfl
@[simp] theorem Dev.setChan_variant (d : Dev) (i : Nat) (x : Chan) : (d.setChan i x).variant = d.variant := rfl
@[simp] theorem Dev.setChan_now (d : Dev) (i : Nat) (x : Chan) : (d.setChan i x).now = d.now := rfl
@[simp] theorem Dev.setChan_freeCtr (d : Dev) (i : Nat) (x : Chan) : (d.setChan i x).freeCtr = d.freeCtr := rfl
@[simp] theorem Dev.setChan_bins (d : Dev) (i : Nat) (x : Chan) : (d.setChan i x).bins = d.bins := rfl
@[simp] theorem Dev.setChan_cores (d : Dev) (i : Nat) (x : Chan) : (d.setChan i x).cores = d.cores := rfl
@[simp] theorem Dev.setChan_evm (d : Dev) (i : Nat) (x : Chan) : (d.setChan i x).evm = d.evm := rfl
@[simp] theorem Dev.setSdl_regs (d : Dev) (i : Nat) (x : SdlT) : (d.setSdl i x).regs = d.regs := rfl
@[simp] theorem Dev.setSdl_variant (d : Dev) (i : Nat) (x : SdlT) : (d.setSdl i x).variant = d.variant := rfl
@[simp] theorem Dev.setSdl_now (d : Dev) (i : Nat) (x : SdlT) : (d.setSdl i x).now = d.now := rfl
@[simp] theorem Dev.setSdl_freeCtr (d : Dev) (i : Nat) (x : SdlT) : (d.setSdl i x).freeCtr = d.freeCtr := rfl
@[simp] theorem Dev.setSdl_bins (d : Dev) (i : Nat) (x : SdlT) : (d.setSdl i x).bins = d.bins := rfl
@[simp] theorem Dev.setSdl_cores (d : Dev) (i : Nat) (x : SdlT) : (d.setSdl i x).cores = d.cores := rfl
@[simp] theorem Dev.setSdl_evm (d : Dev) (i : Nat) (x : SdlT) : (d.setSdl i x).evm = d.evm := rfl
@[simp] theorem Dev.setOrg_regs (d : Dev) (i : Nat) (x : OrgT) : (d.setOrg i x).regs = d.regs := rfl
@[simp] theorem Dev.setOrg_variant (d : Dev) (i : Nat) (x : OrgT) : (d.setOrg i x).variant = d.variant := rfl
@[simp] theorem Dev.setOrg_now (d : Dev) (i : Nat) (x : OrgT) : (d.setOrg i x).now = d.now := rfl
@[simp] theorem Dev.setOrg_freeCtr (d : Dev) (i : Nat) (x : OrgT) : (d.setOrg i x).freeCtr = d.freeCtr := rfl
@[simp] theorem Dev.setOrg_bins (d : Dev) (i : Nat) (x : OrgT) : (d.setOrg i x).bins = d.bins := rfl
@[simp] theorem Dev.setOrg_cores (d : Dev) (i : Nat) (x : OrgT) : (d.setOrg i x).cores = d.cores := rfl
@[simp] theorem Dev.setOrg_evm (d : Dev) (i : Nat) (x : OrgT) : (d.setOrg i x).evm = d.evm := rfl
@[simp] theorem Dev.setGzb_regs (d : Dev) (i : Nat) (x : GzbT) : (d.setGzb i x).regs = d.regs := rfl
@[simp] theorem Dev.setGzb_variant (d : Dev) (i : Nat) (x : GzbT) : (d.setGzb i x).variant = d.variant := rfl
@[simp] theorem Dev.setGzb_now (d : Dev) (i : Nat) (x : GzbT) : (d.setGzb i x).now = d.now := rfl
@[simp] theorem Dev.setGzb_freeCtr (d : Dev) (i : Nat) (x : GzbT) : (d.setGzb i x).freeCtr = d.freeCtr := rfl
@[simp] theorem Dev.setGzb_bins (d : Dev) (i : Nat) (x : GzbT) : (d.setGzb i x).bins = d.bins := rfl
@[simp] theorem Dev.setGzb_cores (d : Dev) (i : Nat) (x : GzbT) : (d.setGzb i x).cores = d.cores := rfl
@[simp] theorem Dev.setGzb_evm (d : Dev) (i : Nat) (x : GzbT) : (d.setGzb i x).evm = d.evm := rfl
@[simp] theorem Dev.setBlank_regs (d : Dev) (i : Nat) (x : Blank) : (d.setBlank i x).regs = d.regs := rfl
@[simp] theorem Dev.setBlank_variant (d : Dev) (i : Nat) (x : Blank) : (d.setBlank i x).variant = d.variant := rfl
@[simp] theorem Dev.setBlank_now (d : Dev) (i : Nat) (x : Blank) : (d.setBlank i x).now = d.now := rfl
@[simp] theorem Dev.setBlank_freeCtr (d : Dev) (i : Nat) (x : Blank) : (d.setBlank i x).freeCtr = d.freeCtr := rfl
@[simp] theorem Dev.setBlank_bins (d : Dev) (i : Nat) (x : Blank) : (d.setBlank i x).bins = d.bins := rfl
@[simp] theorem Dev.setBlank_cores (d : Dev) (i : Nat) (x : Blank) : (d.setBlank i x).cores = d.cores := rfl
@[simp] theorem Dev.setBlank_evm (d : Dev) (i : Nat) (x : Blank) : (d.setBlank i x).evm = d.evm := rfl
@[simp] theorem Dev.setHop_regs (d : Dev) (i : Nat) (x : Hop) : (d.setHop i x).regs = d.regs := rfl
@[simp] theorem Dev.setHop_variant (d : Dev) (i : Nat) (x : Hop) : (d.setHop i x).variant = d.variant := rfl
@[simp] theorem Dev.setHop_now (d : Dev) (i : Nat) (x : Hop) : (d.setHop i x).now = d.now := rfl
@[simp] theorem Dev.setHop_freeCtr (d : Dev) (i : Nat) (x : Hop) : (d.setHop i x).freeCtr = d.freeCtr := rfl
@[simp] theorem Dev.setHop_bins (d : Dev) (i : Nat) (x : Hop) : (d.setHop i x).bins = d.bins := rfl
@[simp] theorem Dev.setHop_cores (d : Dev) (i : Nat) (x : Hop) : (d.setHop i x).cores = d.cores := rfl
@[simp] theorem Dev.setHop_evm (d : Dev) (i : Nat) (x : Hop) : (d.setHop i x).evm = d.evm := rfl
@[simp] theorem Dev.setCell_regs (d : Dev) (i : Nat) (x : Cell) : (d.setCell i x).regs = d.regs := rfl
@[simp] theorem Dev.setCell_variant (d : Dev) (i : Nat) (x : Cell) : (d.setCell i x).variant = d.variant := rfl
@[simp] theorem Dev.setCell_now (d : Dev) (i : Nat) (x : Cell) : (d.setCell i x).now = d.now := rfl
@[simp] theorem Dev.setCell_freeCtr (d : Dev) (i : Nat) (x : Cell) : (d.setCell i x).freeCtr = d.freeCtr := rfl
@[simp] theorem Dev.setCell_bins (d : Dev) (i : Nat) (x : Cell) : (d.setCell i x).bins = d.bins := rfl
@[simp] theorem Dev.setCell_cores (d : Dev) (i : Nat) (x : Cell) : (d.setCell i x).cores = d.cores := rfl
@[simp] theorem Dev.setCell_evm (d : Dev) (i : Nat) (x : Cell) : (d.setCell i x).evm = d.evm := rfl
@[simp] theorem Dev.setCore_regs (d : Dev) (i : Nat) (x : Core) : (d.setCore i x).regs = d.regs := rfl
@[simp] theorem Dev.setCore_variant (d : Dev) (i : Nat) (x : Core) : (d.setCore i x).variant = d.variant := rfl
@[simp] theorem Dev.setCore_now (d : Dev) (i : Nat) (x : Core) : (d.setCore i x).now = d.now := rfl
@[simp] theorem Dev.setCore_freeCtr (d : Dev) (i : Nat) (x : Core) : (d.setCore i x).freeCtr = d.freeCtr := rfl
@[simp] theorem Dev.setCore_bins (d : Dev) (i : Nat) (x : Core) : (d.setCore i x).bins = d.bins := rfl
@[simp] theorem Dev.setCore_evm (d : Dev) (i : Nat) (x : Core) : (d.setCore i x).evm = d.evm := rfl

end Sys2Proof.Machine
end

