-- ==== Sys2Proof/Laws/Registers.lean ====
section
/-! SUPPORT. What a register, a field and an instance's record read as after a write. -/
namespace Sys2Proof.Machine

@[simp] theorem Dev.reg_setReg_self (d : Dev) (p off : Nat) (w : Word) : (d.setReg p off w).reg p off = w :=
  SMap.get_put_self _ _ _ _

theorem Dev.reg_setReg_other (d : Dev) {p off p' off' : Nat} (w : Word) (h : regKey p' off' ≠ regKey p off) :
    (d.setReg p off w).reg p' off' = d.reg p' off' := SMap.get_put_other _ _ _ _ h

/-- Registers of one page at different offsets have different keys. -/
theorem regKey_off {p off off' : Nat} (h : off' ≠ off) : regKey p off' ≠ regKey p off := by
  simp only [regKey]; omega

/-- Registers of different pages at offsets inside the page have different keys. -/
theorem regKey_page {p p' off off' : Nat} (hp : p' ≠ p) (h : off < 0x1000) (h' : off' < 0x1000) :
    regKey p' off' ≠ regKey p off := by
  simp only [regKey]; omega

@[simp] theorem Dev.reg_setFld_self (d : Dev) (p : Nat) (f : Fld) (v : Nat) :
    (d.setFld p f v).reg p f.off = setBits (d.reg p f.off) f.hi f.lo v := Dev.reg_setReg_self _ _ _ _

/-- The bits below lo and above hi of a word, put together with the field. -/
theorem setBits_nat (n hi lo v : Nat) (hl : lo ≤ hi) :
    n - (((n >>> lo) % 2 ^ (hi - lo + 1)) <<< lo) + ((v % 2 ^ (hi - lo + 1)) <<< lo)
      = n % 2 ^ lo + 2 ^ lo * (v % 2 ^ (hi - lo + 1)) + 2 ^ (hi + 1) * (n / 2 ^ (hi + 1)) := by
  rw [Nat.shiftRight_eq_div_pow, Nat.shiftLeft_eq, Nat.shiftLeft_eq]
  have e : 2 ^ (hi + 1) = 2 ^ lo * 2 ^ (hi - lo + 1) := by rw [← Nat.pow_add]; congr 1; omega
  rw [e, ← Nat.div_div_eq_div_mul]
  have h1 := Nat.div_add_mod n (2 ^ lo)
  have h2 := Nat.div_add_mod (n / 2 ^ lo) (2 ^ (hi - lo + 1))
  generalize n / 2 ^ lo = q at *
  generalize 2 ^ (hi - lo + 1) = W at *
  generalize 2 ^ lo = L at *
  generalize n % L = r at *
  generalize q / W = u at *
  generalize q % W = x at *
  generalize v % W = y
  subst h2
  subst h1
  have a1 : L * (W * u + x) + r = L * W * u + L * x + r := by rw [Nat.mul_add, Nat.mul_assoc]
  rw [a1, Nat.mul_comm x L, Nat.mul_comm y L, Nat.add_right_comm, Nat.add_sub_cancel]
  omega

/-- A field reads as the low bits of what was written into it. -/
theorem bitsOf_setBits_self (w : Word) {hi lo : Nat} (v : Nat) (hl : lo ≤ hi) (hh : hi < 32) :
    bitsOf (setBits w hi lo v) hi lo = v % 2 ^ (hi - lo + 1) := by
  unfold bitsOf setBits bitsOf
  rw [setBits_nat _ _ _ _ hl, BitVec.toNat_ofNat, Nat.shiftRight_eq_div_pow]
  have e : 2 ^ (hi + 1) = 2 ^ lo * 2 ^ (hi - lo + 1) := by rw [← Nat.pow_add]; congr 1; omega
  have e32 : 2 ^ 32 = 2 ^ (hi + 1) * 2 ^ (31 - hi) := by rw [← Nat.pow_add]; congr 1; omega
  have hL : 0 < 2 ^ lo := Nat.two_pow_pos _
  rw [e32, e]
  generalize 2 ^ (31 - hi) = Z
  generalize w.toNat / (2 ^ lo * 2 ^ (hi - lo + 1)) = u
  have hr : w.toNat % 2 ^ lo < 2 ^ lo := Nat.mod_lt _ hL
  generalize w.toNat % 2 ^ lo = r at *
  have hy : v % 2 ^ (hi - lo + 1) < 2 ^ (hi - lo + 1) := Nat.mod_lt _ (Nat.two_pow_pos _)
  generalize v % 2 ^ (hi - lo + 1) = y at *
  generalize 2 ^ (hi - lo + 1) = W at *
  generalize 2 ^ lo = L at *
  rw [Nat.mul_assoc L W Z, Nat.mod_mul_right_div_self, Nat.mod_mul_right_mod]
  have e2 : r + L * y + L * W * u = r + L * (y + W * u) := by rw [Nat.mul_add, Nat.mul_assoc]; omega
  rw [e2, Nat.add_mul_div_left _ _ hL, Nat.div_eq_of_lt hr, Nat.zero_add, Nat.add_mul_mod_self_left, Nat.mod_eq_of_lt hy]

/-- A field of a device reads as the low bits of what was written into it. -/
theorem Dev.fld_setFld_self (d : Dev) (p : Nat) (f : Fld) (v : Nat) (hl : f.lo ≤ f.hi) (hh : f.hi < 32) :
    (d.setFld p f v).fld p f = v % 2 ^ (f.hi - f.lo + 1) := by
  unfold Dev.fld
  rw [Dev.reg_setFld_self, bitsOf_setBits_self _ _ hl hh]

/-- A field of another register is left. -/
theorem Dev.fld_setFld_other (d : Dev) (p p' : Nat) (f g : Fld) (v : Nat) (h : regKey p' g.off ≠ regKey p f.off) :
    (d.setFld p f v).fld p' g = d.fld p' g := by
  unfold Dev.fld Dev.setFld
  rw [Dev.reg_setReg_other _ _ h]

theorem Dev.fld_setReg_other (d : Dev) (p off p' : Nat) (g : Fld) (w : Word) (h : regKey p' g.off ≠ regKey p off) :
    (d.setReg p off w).fld p' g = d.fld p' g := by
  unfold Dev.fld
  rw [Dev.reg_setReg_other _ _ h]

@[simp] theorem Dev.reg_bump_self (d : Dev) (p off : Nat) : (d.bump p off).reg p off = d.reg p off + 1 := by
  unfold Dev.bump Dev.bumpBy
  rw [Dev.reg_setReg_self]; rfl

theorem Dev.reg_bump_other (d : Dev) {p off p' off' : Nat} (h : regKey p' off' ≠ regKey p off) :
    (d.bump p off).reg p' off' = d.reg p' off' := Dev.reg_setReg_other _ _ h

/-! ### Records -/

@[simp] theorem Dev.getBank_setBank (d : Dev) (i : Nat) (x : Bank) : (d.setBank i x).getBank i = x := SMap.get_put_self _ _ _ _
@[simp] theorem Dev.getChan_setChan (d : Dev) (i : Nat) (x : Chan) : (d.setChan i x).getChan i = x := SMap.get_put_self _ _ _ _
@[simp] theorem Dev.getSdl_setSdl (d : Dev) (i : Nat) (x : SdlT) : (d.setSdl i x).getSdl i = x := SMap.get_put_self _ _ _ _
@[simp] theorem Dev.getOrg_setOrg (d : Dev) (i : Nat) (x : OrgT) : (d.setOrg i x).getOrg i = x := SMap.get_put_self _ _ _ _
@[simp] theorem Dev.getGzb_setGzb (d : Dev) (i : Nat) (x : GzbT) : (d.setGzb i x).getGzb i = x := SMap.get_put_self _ _ _ _
@[simp] theorem Dev.getHop_setHop (d : Dev) (i : Nat) (x : Hop) : (d.setHop i x).getHop i = x := SMap.get_put_self _ _ _ _
@[simp] theorem Dev.getCell_setCell (d : Dev) (i : Nat) (x : Cell) : (d.setCell i x).getCell i = x := SMap.get_put_self _ _ _ _
@[simp] theorem Dev.getCore_setCore (d : Dev) (i : Nat) (x : Core) : (d.setCore i x).getCore i = x := SMap.get_put_self _ _ _ _
theorem Dev.getCore_setCore_other (d : Dev) {i j : Nat} (x : Core) (h : j ≠ i) : (d.setCore i x).getCore j = d.getCore j :=
  SMap.get_put_other _ _ _ _ h
theorem Dev.getBank_setBank_other (d : Dev) {i j : Nat} (x : Bank) (h : j ≠ i) : (d.setBank i x).getBank j = d.getBank j :=
  SMap.get_put_other _ _ _ _ h

end Sys2Proof.Machine
end

