-- ==== Sys2Proof/Laws/Events.lean ====
section
/-! SUPPORT. What raising an event can change: RAW bits, the event matrix, DMA channels' status, Belvedere; nothing else. -/
namespace Sys2Proof.Machine

/-- A register that raising an event cannot change. -/
def isStill (q off : Nat) : Prop := off < 0x1000 ∧ off ≠ EVENT_RAW ∧ q ≠ 0x02 ∧ q ≠ 0x93 ∧ ¬ (0x97 ≤ q ∧ q < 0xAF)

/-- `e` differs from `d` at most as raising events makes it differ. -/
structure Dev.Raised (d e : Dev) : Prop where
  frame : e = { d with regs := e.regs, seen := e.seen, evm := e.evm, dtest := e.dtest, blv := e.blv }
  regs : ∀ q off, isStill q off → e.reg q off = d.reg q off

theorem Dev.Raised.refl (d : Dev) : d.Raised d := ⟨rfl, fun _ _ _ => rfl⟩

theorem Dev.Raised.trans {a b c : Dev} (h : a.Raised b) (g : b.Raised c) : a.Raised c := by
  constructor
  · rw [g.frame, h.frame]
  · intro q off hs; rw [g.regs q off hs, h.regs q off hs]

theorem Dev.raised_setReg (d : Dev) {p off : Nat} (w : Word) (h : ∀ q o, isStill q o → regKey q o ≠ regKey p off) :
    d.Raised (d.setReg p off w) := by
  constructor
  · rfl
  · intro q o hs; exact Dev.reg_setReg_other d w (h q o hs)

theorem still_page {p off : Nat} (hp : p = 0x02 ∨ p = 0x93 ∨ (0x97 ≤ p ∧ p < 0xAF)) (ho : off < 0x1000) :
    ∀ q o, isStill q o → regKey q o ≠ regKey p off := by
  intro q o ⟨h1, _, h3, h4, h5⟩ e
  simp only [regKey] at e; omega

theorem still_raw (p : Nat) : ∀ q o, isStill q o → regKey q o ≠ regKey p EVENT_RAW := by
  intro q o ⟨h1, h2, _⟩ e
  simp only [regKey, EVENT_RAW] at e h2; omega

theorem Dev.raised_foldl {α : Type} (f : Dev → α → Dev) (hf : ∀ d a, Dev.Raised d (f d a)) (l : List α) :
    ∀ d : Dev, d.Raised (l.foldl f d) := by
  induction l with
  | nil => exact fun d => Dev.Raised.refl d
  | cons a l ih => exact fun d => (hf d a).trans (ih _)

theorem Dev.raised_page (d : Dev) {p off : Nat} (w : Word) (hp : p = 0x02 ∨ p = 0x93 ∨ (0x97 ≤ p ∧ p < 0xAF)) (ho : off < 0x1000) :
    d.Raised (d.setReg p off w) := Dev.raised_setReg d w (still_page hp ho)

/-- A change of what no register shows, of the event matrix and Belvedere alone. -/
theorem Dev.raised_rest (d : Dev) (sn : SMap Bool) (ev : Evm) (dt : SMap Nat) (b : Blv) :
    d.Raised { d with seen := sn, evm := ev, dtest := dt, blv := b } := ⟨rfl, fun _ _ _ => rfl⟩

theorem Dev.raised_countPulse (n : Nat) (d : Dev) : d.Raised (d.countPulse n) := by
  have : ∀ (l : List Nat), (∀ k ∈ l, k < 16) → ∀ d : Dev, d.Raised (l.foldl (fun d k =>
      if d.on 0x02 (EVM_CNT_SEL_EN.plus (4 * k)) && d.fld 0x02 (EVM_CNT_SEL_SRC.plus (4 * k)) == n
      then d.bump 0x02 (EVM_CNT + 4 * k) else d) d) := by
    intro l
    induction l with
    | nil => exact fun _ d => Dev.Raised.refl d
    | cons k l ih =>
      intro h d
      refine Dev.Raised.trans ?_ (ih (fun k hk => h k (List.mem_cons_of_mem _ hk)) _)
      have hk := h k List.mem_cons_self
      dsimp only
      split
      · exact Dev.raised_page d _ (by omega) (by simp only [EVM_CNT]; omega)
      · exact Dev.Raised.refl d
  exact this _ (fun k hk => List.mem_range.mp hk) d

theorem Dev.raised_dtestPulse (kind n : Nat) (d : Dev) : d.Raised (d.dtestPulse kind n) := by
  exact Dev.raised_rest d d.seen d.evm _ d.blv

theorem Dev.raised_dmaPulse (n : Nat) (d : Dev) : d.Raised (d.dmaPulse n).1 := by
  have : ∀ (l : List Nat), (∀ c ∈ l, c < 24) → ∀ x : Dev × Nat, x.1.Raised (l.foldl (fun (x : Dev × Nat) c =>
      let d := x.1
      let p := 0x97 + c
      if d.on p DMA_CTRL_EN && d.on 0xAF DMA_COMMON_CTRL_EN && d.fld p DMA_CTRL_TRIG_SEL == n then
        if d.fld p DMA_STATUS_STATE == 3 then (d.setFld p DMA_STATUS_STATE 2, x.2)
        else if d.on p DMA_STATUS_TRIG_PENDING then (d, x.2 + 1) else (d.setFld p DMA_STATUS_TRIG_PENDING 1, x.2)
      else x) x).1 := by
    intro l
    induction l with
    | nil => exact fun _ x => Dev.Raised.refl x.1
    | cons c l ih =>
      intro h x
      refine Dev.Raised.trans ?_ (ih (fun k hk => h k (List.mem_cons_of_mem _ hk)) _)
      have hc := h c List.mem_cons_self
      dsimp only
      split
      · split
        · exact Dev.raised_page x.1 _ (by omega) (by decide)
        · split
          · exact Dev.Raised.refl x.1
          · exact Dev.raised_page x.1 _ (by omega) (by decide)
      · exact Dev.Raised.refl x.1
  exact this _ (fun k hk => List.mem_range.mp hk) (d, 0)

theorem Dev.raised_markPulse (n : Nat) (d : Dev) : d.Raised (d.markPulse n).1 := by
  unfold Dev.markPulse
  dsimp only
  split
  · exact Dev.Raised.refl d
  · split
    · exact Dev.raised_rest d d.seen _ d.dtest d.blv
    · split
      · exact Dev.Raised.refl d
      · exact Dev.raised_rest d d.seen _ d.dtest d.blv

theorem Dev.raised_blvSet (st : Nat) (d : Dev) : d.Raised (d.blvSet st) := Dev.raised_page d _ (by omega) (by decide)

theorem Dev.raised_blvReadyCheck (d : Dev) : d.Raised d.blvReadyCheck := by
  unfold Dev.blvReadyCheck
  split
  · exact (Dev.raised_rest d d.seen d.evm d.dtest _).trans (Dev.raised_blvSet _ _)
  · exact Dev.Raised.refl d

theorem Dev.raised_blvEnterPre (d : Dev) : d.Raised d.blvEnterPre :=
  ((Dev.raised_rest d d.seen d.evm d.dtest _).trans (Dev.raised_blvSet _ _)).trans (Dev.raised_blvReadyCheck _)

theorem Dev.raised_blvFinish (d : Dev) : d.Raised d.blvFinish.1 := by
  unfold Dev.blvFinish
  split
  · exact Dev.raised_blvSet _ d
  · dsimp only
    have h := Dev.raised_blvSet blvDone d
    generalize d.blvSet blvDone = e at *
    split
    · exact h.trans (Dev.raised_blvEnterPre e)
    · exact h

theorem Dev.raised_blvAfterMask (d : Dev) : d.Raised d.blvAfterMask.1 := by
  unfold Dev.blvAfterMask
  dsimp only
  split
  · exact (Dev.raised_rest d d.seen d.evm d.dtest _).trans (Dev.raised_blvSet blvDump _)
  · exact Dev.raised_blvFinish d

theorem Dev.raised_blvEndPost (b : Bool) (d : Dev) : d.Raised (d.blvEndPost b).1 := by
  unfold Dev.blvEndPost
  dsimp only
  have h := (Dev.raised_rest d d.seen d.evm d.dtest { d.blv with
    traces := d.blv.traces.map (fun (x : BlvTrace) => { x with run := none }), timeoutEnd := b
    maskRun := d.on 0x93 BLV_CTRL_MASK_EN, failSeg := 0, segs := d.blvSegs, deadFrom := d.now, missed := 0, deadSeen := false }).trans (Dev.raised_blvSet blvMask _)
  have e : (Dev.blvSet blvMask { d with blv := { d.blv with
    traces := d.blv.traces.map (fun (x : BlvTrace) => { x with run := none }), timeoutEnd := b
    maskRun := d.on 0x93 BLV_CTRL_MASK_EN, failSeg := 0, segs := d.blvSegs, deadFrom := d.now, missed := 0, deadSeen := false } }) =
    (Dev.blvDeadStart { d with blv := { d.blv with
    traces := d.blv.traces.map (fun (x : BlvTrace) => { x with run := none })
    timeoutEnd := b, maskRun := d.on 0x93 BLV_CTRL_MASK_EN, failSeg := 0, segs := d.blvSegs } }).blvSet blvMask := rfl
  rw [← e]
  generalize Dev.blvSet blvMask _ = f at *
  split
  · exact h
  · exact (h.trans (Dev.raised_page f (off := BLV_STATUS) _ (by omega) (by decide))).trans (Dev.raised_blvAfterMask _)

theorem Dev.raised_blvPostCheck (d : Dev) : d.Raised d.blvPostCheck.1 := by
  unfold Dev.blvPostCheck
  split
  · exact Dev.raised_blvEndPost _ d
  · exact Dev.Raised.refl d

theorem Dev.raised_blvTake (r tt : Nat) (d : Dev) : d.Raised (d.blvTake r tt) := Dev.raised_rest d d.seen d.evm d.dtest _

theorem Dev.raised_missed (d : Dev) (x : Blv) : d.Raised { d.bump 0x93 BLV_MISSED_CNT with blv := x } := by
  have h : d.Raised (d.bump 0x93 BLV_MISSED_CNT) := Dev.raised_page d _ (by omega) (by decide)
  exact ⟨rfl, h.regs⟩

theorem Dev.raised_accept (r tt : Nat) (d : Dev) :
    d.Raised (((d.blvSet blvPost).bump 0x93 BLV_CAPTURE_NUM).blvTake r tt).blvPostCheck.1 := by
  have h1 := Dev.raised_blvSet blvPost d
  generalize d.blvSet blvPost = e at *
  have h2 : e.Raised (e.bump 0x93 BLV_CAPTURE_NUM) := Dev.raised_page e _ (by omega) (by decide)
  generalize e.bump 0x93 BLV_CAPTURE_NUM = f at *
  exact ((h1.trans h2).trans (Dev.raised_blvTake r tt f)).trans (Dev.raised_blvPostCheck _)

theorem Dev.raised_blvTrigger (r tt : Nat) (d : Dev) : d.Raised (d.blvTrigger r tt).1 := by
  unfold Dev.blvTrigger
  dsimp only
  have hb : d.Raised (d.bump 0x93 BLV_TRIG_CNT) := Dev.raised_page d _ (by omega) (by decide)
  generalize d.bump 0x93 BLV_TRIG_CNT = e at *
  split
  · exact Dev.Raised.refl d
  · split
    · split
      · have h := hb.trans (Dev.raised_blvTake r tt e)
        generalize e.blvTake r tt = f at *
        split
        · exact h.trans (Dev.raised_blvPostCheck f)
        · exact h
      · exact hb
    · split
      · exact hb.trans (Dev.raised_accept r tt _)
      · split
        · exact hb
        · exact hb.trans (Dev.raised_missed _ _)

theorem Dev.raised_deliver (n : Nat) (d : Dev) : d.Raised (d.deliver n).1 := by
  unfold Dev.deliver
  dsimp only
  split
  · exact Dev.Raised.refl d
  · have h : d.Raised (((Dev.countPulse n { d with evm := { d.evm with pulsed := n :: d.evm.pulsed } }).dtestPulse 0 n).dmaPulse n |>.1.markPulse n).1 :=
      ((((Dev.raised_rest d d.seen _ d.dtest d.blv).trans (Dev.raised_countPulse n _)).trans (Dev.raised_dtestPulse 0 n _)).trans
        (Dev.raised_dmaPulse n _)).trans (Dev.raised_markPulse n _)
    split
    · exact h.trans (Dev.raised_blvTrigger _ _ _)
    · exact h

theorem Dev.raised_logRaise (n p b : Nat) (d : Dev) : d.Raised (d.logRaise n p b).1 := by
  unfold Dev.logRaise
  split
  · exact Dev.raised_rest d d.seen _ d.dtest d.blv
  · exact Dev.Raised.refl d

theorem Dev.raised_markSeen (d : Dev) (p off : Nat) : d.Raised (d.markSeen p off) := Dev.raised_rest d _ d.evm d.dtest d.blv

theorem Dev.raised_setRaw (p b : Nat) (d : Dev) : d.Raised (d.setBit p EVENT_RAW b) :=
  Dev.raised_setReg d _ (still_raw p)

/-- What raising an event can change. -/
theorem Dev.raised_raiseN (fuel : Nat) : ∀ (p b : Nat) (d : Dev), d.Raised (Dev.raiseN fuel p b d) := by
  induction fuel with
  | zero => exact fun p b d => Dev.raised_setRaw p b d
  | succ fuel ih =>
    intro p b d
    unfold Dev.raiseN
    dsimp only
    have h0 := Dev.raised_setRaw p b d
    split
    · exact h0
    · rename_i n _
      have h1 := (h0.trans (Dev.raised_logRaise n p b _)).trans (Dev.raised_deliver n _)
      refine Dev.Raised.trans ?_ (Dev.raised_foldl _ (fun d b => ih 0x93 b d) _ _)
      have h2 : ∀ (c : Bool) (d : Dev), d.Raised (if c = true then d.bump 0x02 EVM_LOG_OVF else d) := by
        intro c d; split
        · exact Dev.raised_page d _ (by omega) (by decide)
        · exact Dev.Raised.refl d
      have h3 : ∀ (c : Bool) (off q : Nat) (d : Dev), d.Raised (if c = true then Dev.raiseN fuel 0x02 q (d.markSeen 0x02 off) else d) := by
        intro c off q d; split
        · exact (Dev.raised_markSeen d _ _).trans (ih _ _ _)
        · exact Dev.Raised.refl d
      have h4 : ∀ (m : Nat) (d : Dev), d.Raised (if 0 < m then d.bumpBy 0x02 EVM_PULSE_MERGE m else d) := by
        intro m d; split
        · exact Dev.raised_page d _ (by omega) (by decide)
        · exact Dev.Raised.refl d
      exact (((h1.trans (h2 _ _)).trans (h3 _ _ _ _)).trans (h4 _ _)).trans (h3 _ _ _ _)

theorem Dev.raised_raise (p b : Nat) (d : Dev) : d.Raised (d.raise p b) := Dev.raised_raiseN 5 p b d

theorem Dev.reg_raise_still (d : Dev) (p b : Nat) {q off : Nat} (h : isStill q off) : (d.raise p b).reg q off = d.reg q off :=
  (Dev.raised_raise p b d).regs q off h

theorem Dev.fld_raise_still (d : Dev) (p b : Nat) {q : Nat} {f : Fld} (h : isStill q f.off) : (d.raise p b).fld q f = d.fld q f := by
  simp only [Dev.fld, Dev.reg_raise_still d p b h]

@[simp] theorem Dev.raise_variant (d : Dev) (p b : Nat) : (d.raise p b).variant = d.variant := by rw [(Dev.raised_raise p b d).frame]
@[simp] theorem Dev.raise_now (d : Dev) (p b : Nat) : (d.raise p b).now = d.now := by rw [(Dev.raised_raise p b d).frame]
@[simp] theorem Dev.raise_freeCtr (d : Dev) (p b : Nat) : (d.raise p b).freeCtr = d.freeCtr := by rw [(Dev.raised_raise p b d).frame]
@[simp] theorem Dev.raise_mbx (d : Dev) (p b : Nat) : (d.raise p b).mbx = d.mbx := by rw [(Dev.raised_raise p b d).frame]
@[simp] theorem Dev.raise_ports (d : Dev) (p b : Nat) : (d.raise p b).ports = d.ports := by rw [(Dev.raised_raise p b d).frame]
@[simp] theorem Dev.raise_dtb (d : Dev) (p b : Nat) : (d.raise p b).dtb = d.dtb := by rw [(Dev.raised_raise p b d).frame]
@[simp] theorem Dev.raise_cells (d : Dev) (p b : Nat) : (d.raise p b).cells = d.cells := by rw [(Dev.raised_raise p b d).frame]
@[simp] theorem Dev.raise_pixels (d : Dev) (p b : Nat) : (d.raise p b).pixels = d.pixels := by rw [(Dev.raised_raise p b d).frame]
@[simp] theorem Dev.raise_blankLow (d : Dev) (p b : Nat) : (d.raise p b).blankLow = d.blankLow := by rw [(Dev.raised_raise p b d).frame]
@[simp] theorem Dev.raise_blank (d : Dev) (p b : Nat) : (d.raise p b).blank = d.blank := by rw [(Dev.raised_raise p b d).frame]
@[simp] theorem Dev.raise_hops (d : Dev) (p b : Nat) : (d.raise p b).hops = d.hops := by rw [(Dev.raised_raise p b d).frame]
@[simp] theorem Dev.raise_lag (d : Dev) (p b : Nat) : (d.raise p b).lag = d.lag := by rw [(Dev.raised_raise p b d).frame]
@[simp] theorem Dev.raise_lagDir (d : Dev) (p b : Nat) : (d.raise p b).lagDir = d.lagDir := by rw [(Dev.raised_raise p b d).frame]
@[simp] theorem Dev.raise_hopLog (d : Dev) (p b : Nat) : (d.raise p b).hopLog = d.hopLog := by rw [(Dev.raised_raise p b d).frame]
@[simp] theorem Dev.raise_hopClip (d : Dev) (p b : Nat) : (d.raise p b).hopClip = d.hopClip := by rw [(Dev.raised_raise p b d).frame]
@[simp] theorem Dev.raise_bank (d : Dev) (p b : Nat) : (d.raise p b).bank = d.bank := by rw [(Dev.raised_raise p b d).frame]
@[simp] theorem Dev.raise_chan (d : Dev) (p b : Nat) : (d.raise p b).chan = d.chan := by rw [(Dev.raised_raise p b d).frame]
@[simp] theorem Dev.raise_sdl (d : Dev) (p b : Nat) : (d.raise p b).sdl = d.sdl := by rw [(Dev.raised_raise p b d).frame]
@[simp] theorem Dev.raise_org (d : Dev) (p b : Nat) : (d.raise p b).org = d.org := by rw [(Dev.raised_raise p b d).frame]
@[simp] theorem Dev.raise_bins (d : Dev) (p b : Nat) : (d.raise p b).bins = d.bins := by rw [(Dev.raised_raise p b d).frame]
@[simp] theorem Dev.raise_zoom (d : Dev) (p b : Nat) : (d.raise p b).zoom = d.zoom := by rw [(Dev.raised_raise p b d).frame]
@[simp] theorem Dev.raise_blocks (d : Dev) (p b : Nat) : (d.raise p b).blocks = d.blocks := by rw [(Dev.raised_raise p b d).frame]
@[simp] theorem Dev.raise_gzb (d : Dev) (p b : Nat) : (d.raise p b).gzb = d.gzb := by rw [(Dev.raised_raise p b d).frame]
@[simp] theorem Dev.raise_satEchoes (d : Dev) (p b : Nat) : (d.raise p b).satEchoes = d.satEchoes := by rw [(Dev.raised_raise p b d).frame]
@[simp] theorem Dev.raise_seqGen (d : Dev) (p b : Nat) : (d.raise p b).seqGen = d.seqGen := by rw [(Dev.raised_raise p b d).frame]
@[simp] theorem Dev.raise_prm (d : Dev) (p b : Nat) : (d.raise p b).prm = d.prm := by rw [(Dev.raised_raise p b d).frame]
@[simp] theorem Dev.raise_slots (d : Dev) (p b : Nat) : (d.raise p b).slots = d.slots := by rw [(Dev.raised_raise p b d).frame]
@[simp] theorem Dev.raise_frames (d : Dev) (p b : Nat) : (d.raise p b).frames = d.frames := by rw [(Dev.raised_raise p b d).frame]
@[simp] theorem Dev.raise_bnd (d : Dev) (p b : Nat) : (d.raise p b).bnd = d.bnd := by rw [(Dev.raised_raise p b d).frame]
@[simp] theorem Dev.raise_thmAt (d : Dev) (p b : Nat) : (d.raise p b).thmAt = d.thmAt := by rw [(Dev.raised_raise p b d).frame]
@[simp] theorem Dev.raise_gth (d : Dev) (p b : Nat) : (d.raise p b).gth = d.gth := by rw [(Dev.raised_raise p b d).frame]
@[simp] theorem Dev.raise_calShadow (d : Dev) (p b : Nat) : (d.raise p b).calShadow = d.calShadow := by rw [(Dev.raised_raise p b d).frame]
@[simp] theorem Dev.raise_pmp (d : Dev) (p b : Nat) : (d.raise p b).pmp = d.pmp := by rw [(Dev.raised_raise p b d).frame]
@[simp] theorem Dev.raise_csc (d : Dev) (p b : Nat) : (d.raise p b).csc = d.csc := by rw [(Dev.raised_raise p b d).frame]
@[simp] theorem Dev.raise_cores (d : Dev) (p b : Nat) : (d.raise p b).cores = d.cores := by rw [(Dev.raised_raise p b d).frame]
@[simp] theorem Dev.raise_code (d : Dev) (p b : Nat) : (d.raise p b).code = d.code := by rw [(Dev.raised_raise p b d).frame]
@[simp] theorem Dev.raise_bedMap (d : Dev) (p b : Nat) : (d.raise p b).bedMap = d.bedMap := by rw [(Dev.raised_raise p b d).frame]
@[simp] theorem Dev.raise_pglLoads (d : Dev) (p b : Nat) : (d.raise p b).pglLoads = d.pglLoads := by rw [(Dev.raised_raise p b d).frame]
@[simp] theorem Dev.raise_ldg (d : Dev) (p b : Nat) : (d.raise p b).ldg = d.ldg := by rw [(Dev.raised_raise p b d).frame]
@[simp] theorem Dev.raise_loops (d : Dev) (p b : Nat) : (d.raise p b).loops = d.loops := by rw [(Dev.raised_raise p b d).frame]
@[simp] theorem Dev.raise_dma (d : Dev) (p b : Nat) : (d.raise p b).dma = d.dma := by rw [(Dev.raised_raise p b d).frame]
@[simp] theorem Dev.raise_otp (d : Dev) (p b : Nat) : (d.raise p b).otp = d.otp := by rw [(Dev.raised_raise p b d).frame]
@[simp] theorem Dev.raise_sec (d : Dev) (p b : Nat) : (d.raise p b).sec = d.sec := by rw [(Dev.raised_raise p b d).frame]
@[simp] theorem Dev.raise_cal (d : Dev) (p b : Nat) : (d.raise p b).cal = d.cal := by rw [(Dev.raised_raise p b d).frame]
@[simp] theorem Dev.raise_pwr (d : Dev) (p b : Nat) : (d.raise p b).pwr = d.pwr := by rw [(Dev.raised_raise p b d).frame]
@[simp] theorem Dev.raise_jtag (d : Dev) (p b : Nat) : (d.raise p b).jtag = d.jtag := by rw [(Dev.raised_raise p b d).frame]
@[simp] theorem Dev.raise_dmaLast (d : Dev) (p b : Nat) : (d.raise p b).dmaLast = d.dmaLast := by rw [(Dev.raised_raise p b d).frame]

end Sys2Proof.Machine
end

