-- ==== Sys2Proof/Laws/Memory.lean ====
section
/-! SUPPORT. Shared SRAM: what a byte reads as after each store, and that each store keeps the canonical form. -/
namespace Sys2Proof.Machine

/-- The canonical form of shared SRAM, as the operations see it. -/
abbrev memWf (m : List Host.Cell) : Bool := SMap.wf (fun _ => (0 : Byte)) m

@[simp] theorem memByte_putByte_self (m : List Host.Cell) (a : Nat) (b : Byte) : memByte (memPutByte m a b) a = b :=
  SMap.get_put_self _ _ _ _

theorem memByte_putByte_other (m : List Host.Cell) {a x : Nat} (b : Byte) (h : x ≠ a) :
    memByte (memPutByte m a b) x = memByte m x := SMap.get_put_other _ _ _ _ h

theorem memWf_putByte (m : List Host.Cell) (a : Nat) (b : Byte) (h : memWf m = true) : memWf (memPutByte m a b) = true :=
  SMap.wf_put (dv := fun _ => (0 : Byte)) m a b h

theorem memWf_putWord (m : List Host.Cell) (a : Nat) (w : Word) (h : memWf m = true) : memWf (memPutWord m a w) = true :=
  memWf_putByte _ _ _ (memWf_putByte _ _ _ (memWf_putByte _ _ _ (memWf_putByte _ _ _ h)))

theorem memWf_putBytes (bs : List Nat) : ∀ (m : List Host.Cell) (a : Nat), memWf m = true → memWf (memPutBytes m a bs) = true := by
  induction bs with
  | nil => intro m a h; exact h
  | cons b bs ih => intro m a h; exact ih _ _ (memWf_putByte _ _ _ h)

/-- A word stored leaves every byte outside its four. -/
theorem memByte_putWord_other (m : List Host.Cell) {a x : Nat} (w : Word) (h : x < a ∨ a + 4 ≤ x) :
    memByte (memPutWord m a w) x = memByte m x := by
  unfold memPutWord
  rw [memByte_putByte_other _ _ (by omega), memByte_putByte_other _ _ (by omega), memByte_putByte_other _ _ (by omega),
    memByte_putByte_other _ _ (by omega)]

/-- Byte i of a word stored lies at the address plus i. -/
theorem memByte_putWord_self (m : List Host.Cell) (a i : Nat) (w : Word) (h : i < 4) :
    memByte (memPutWord m a w) (a + i) = w.extractLsb' (8 * i) 8 := by
  unfold memPutWord
  rcases (by omega : i = 0 ∨ i = 1 ∨ i = 2 ∨ i = 3) with h | h | h | h <;> subst h
  · rw [memByte_putByte_other _ _ (by omega), memByte_putByte_other _ _ (by omega), memByte_putByte_other _ _ (by omega)]
    exact memByte_putByte_self _ _ _
  · rw [memByte_putByte_other _ _ (by omega), memByte_putByte_other _ _ (by omega)]
    exact memByte_putByte_self _ _ _
  · rw [memByte_putByte_other _ _ (by omega)]
    exact memByte_putByte_self _ _ _
  · exact memByte_putByte_self _ _ _

/-- A list of bytes stored leaves every byte outside it. -/
theorem memByte_putBytes_other (bs : List Nat) : ∀ (m : List Host.Cell) (a x : Nat), x < a ∨ a + bs.length ≤ x →
    memByte (memPutBytes m a bs) x = memByte m x := by
  induction bs with
  | nil => intro m a x _; rfl
  | cons b bs ih =>
    intro m a x h
    simp only [List.length_cons] at h
    rw [memPutBytes, ih _ _ _ (by omega), memByte_putByte_other _ _ (by omega)]

/-- Byte i of a list stored lies at the address plus i. -/
theorem memByte_putBytes_self (bs : List Nat) : ∀ (m : List Host.Cell) (a i : Nat) (h : i < bs.length),
    memByte (memPutBytes m a bs) (a + i) = BitVec.ofNat 8 bs[i] := by
  induction bs with
  | nil => intro m a i h; cases h
  | cons b bs ih =>
    intro m a i h
    cases i with
    | zero => rw [memPutBytes, memByte_putBytes_other _ _ _ _ (by omega)]; exact memByte_putByte_self _ _ _
    | succ i =>
      simp only [List.length_cons] at h
      have := ih (memPutByte m a (BitVec.ofNat 8 b)) (a + 1) i (by omega)
      rw [show a + 1 + i = a + (i + 1) by omega] at this
      rw [memPutBytes, this]; rfl

end Sys2Proof.Machine
end

