-- ==== Sys2Proof/Laws/Rows.lean ====
section
/-! SUPPORT. What a register-write row comes to on each range of pages: the register's merge and what the block does beside it. -/
namespace Sys2Proof.Machine

/-- The page's own write of the register, as one of its definition exists. -/
def Dev.ownOf (m : Mem) (p off : Nat) (w : Word) (d : Dev) : Dev :=
  match regDef p off with
  | some r => d.ownWrite m r p off w
  | none => d

/-- An offset that is no common register's. -/
def isOwn (off : Nat) : Bool := off != EVENT_MASK && off != EVENT_PENDING && off != PAGE_LOCK && off != MBX_SELECT

theorem State.rowWrite_ownOf {s : State} {t : Nat} {ini : Initiator} {p off : Nat}
    (h : s.writable t ini p off = true) (ho : isOwn off = true) (w : Word) :
    s.rowWrite t true ini p off w = .next (s.put ((s.landed t p off).ownOf s.mem p off w)) := by
  rw [State.rowWrite_served (State.writable_served h)]
  simp only [State.writable, Bool.and_eq_true, Bool.not_eq_true'] at h
  have hc : ∀ d : Dev, d.writeCommon s.mem ini p off w = none := fun d =>
    Dev.writeCommon_none (by simpa [isOwn, and_assoc] using ho)
  simp only [State.landed] at h ⊢
  cases hr : regDef p off <;> simp only [Dev.pageWrite, h.2, hc, Dev.ownOf, hr, Bool.false_eq_true, if_false]

theorem State.rowWrite_lowOf {s : State} {t : Nat} {ini : Initiator} {p off : Nat}
    (h : s.servedTo t ini = true) (hp : p < 8 ∨ (0x83 ≤ p ∧ (p < 0xB0 ∨ 0xB3 < p))) (ho : isOwn off = true) (w : Word) :
    s.rowWrite t true ini p off w = .next (s.put ((s.begun t).ownOf s.mem p off w)) := by
  have hl : s.landed t p off = s.begun t := Dev.landing_out _ (by omega)
  have hw : s.writable t ini p off = true := by simp [State.writable, h, hl, Dev.dead_low _ hp]
  rw [State.rowWrite_ownOf hw ho, hl]

/-- On a page past the data plane the write lands without a trace. -/
theorem State.rowWrite_outOf {s : State} {t : Nat} {ini : Initiator} {p off : Nat}
    (h : s.writable t ini p off = true) (hp : p < 8 ∨ 0x78 ≤ p) (ho : isOwn off = true) (w : Word) :
    s.rowWrite t true ini p off w = .next (s.put ((s.begun t).ownOf s.mem p off w)) := by
  have hl : s.landed t p off = s.begun t := Dev.landing_out _ hp
  rw [State.rowWrite_ownOf h ho, hl]

theorem Dev.ownOf_management {m : Mem} {p off : Nat} {w : Word} {d : Dev} (hp : p < 8) (hs : (regDef p off).isSome = true) (hr : d.refused p off = 0) :
    d.ownOf m p off w = (d.merged p off w).afterManagement m p off (d.reg p off) w := by
  cases h : regDef p off with
  | none => rw [h] at hs; cases hs
  | some r =>
    simp only [Dev.ownOf, h, Dev.ownWrite, Dev.merged, Dev.mergeAllowed_all hr, Bool.and_eq_true, decide_eq_true_eq, beq_iff_eq,
      (show p < 8 by omega), if_true]

theorem Dev.ownOf_data {m : Mem} {p off : Nat} {w : Word} {d : Dev} (hp : (8 ≤ p ∧ p < 0x10) ∨ (0x50 ≤ p ∧ p < 0x58)) (hs : (regDef p off).isSome = true) :
    d.ownOf m p off w = (d.merged p off w).afterData m p off (d.reg p off) w := by
  cases h : regDef p off with
  | none => rw [h] at hs; cases hs
  | some r =>
    simp only [Dev.ownOf, h, Dev.ownWrite, Dev.merged, Bool.and_eq_true, decide_eq_true_eq, beq_iff_eq,
      (show ¬ p < 8 by omega), (show ¬ (16 ≤ p ∧ p < 80) by omega), (show p < 88 by omega), if_true, if_false]

theorem Dev.ownOf_link {m : Mem} {p off : Nat} {w : Word} {d : Dev} (hp : 0x78 ≤ p ∧ p < 0x85 ∧ (p ≠ 0x83 ∨ off ≠ BND_BUF)) (hs : (regDef p off).isSome = true) :
    d.ownOf m p off w = (d.merged p off w).afterLink p off (d.reg p off) := by
  cases h : regDef p off with
  | none => rw [h] at hs; cases hs
  | some r =>
    simp only [Dev.ownOf, h, Dev.ownWrite, Dev.merged, Bool.and_eq_true, decide_eq_true_eq, beq_iff_eq,
      (show ¬ p < 8 by omega), (show ¬ (16 ≤ p ∧ p < 80) by omega), (show ¬ p < 88 by omega), (show ¬ p < 120 by omega), (show p < 133 by omega), (show ¬ (p = 131 ∧ off = BND_BUF) by omega), if_true, if_false]

theorem Dev.ownOf_analog {m : Mem} {p off : Nat} {w : Word} {d : Dev} (hp : 0x8E ≤ p ∧ p < 0x93) (hs : (regDef p off).isSome = true) (hr : d.refused p off = 0) :
    d.ownOf m p off w = (d.merged p off w).afterAnalog p off (d.reg p off) := by
  cases h : regDef p off with
  | none => rw [h] at hs; cases hs
  | some r =>
    simp only [Dev.ownOf, h, Dev.ownWrite, Dev.merged, Dev.mergeAllowed_all hr, Bool.and_eq_true, decide_eq_true_eq, beq_iff_eq,
      (show ¬ p < 8 by omega), (show ¬ (16 ≤ p ∧ p < 80) by omega), (show ¬ p < 88 by omega), (show ¬ p < 120 by omega), (show ¬ p < 133 by omega), (show ¬ p = 133 by omega), (show ¬ p < 142 by omega), (show p < 147 by omega), if_true, if_false]

theorem Dev.ownOf_blv {m : Mem} {p off : Nat} {w : Word} {d : Dev} (hp : 0x93 ≤ p ∧ p < 0x97) (hs : (regDef p off).isSome = true) :
    d.ownOf m p off w = (d.merged p off w).afterBlv p off w := by
  cases h : regDef p off with
  | none => rw [h] at hs; cases hs
  | some r =>
    simp only [Dev.ownOf, h, Dev.ownWrite, Dev.merged, Bool.and_eq_true, decide_eq_true_eq, beq_iff_eq,
      (show ¬ p < 8 by omega), (show ¬ (16 ≤ p ∧ p < 80) by omega), (show ¬ p < 88 by omega), (show ¬ p < 120 by omega), (show ¬ p < 133 by omega), (show ¬ p = 133 by omega), (show ¬ p < 142 by omega), (show ¬ p < 147 by omega), (show p < 151 by omega), if_true, if_false]

end Sys2Proof.Machine
end

