-- ==== Sys2Proof/Tests/Slice0.lean ====
section
/-! SUPPORT. Tests: for every statement a state and operands that meet the hypotheses of each of its clauses, a refusal by every check
of WellFormed, and single steps with the results that the spec gives. -/
namespace Sys2Proof.Tests
set_option Elab.async false
open Sys2Proof.Machine

/-- A state one change away from reset. -/
def st (f : Dev → Dev) : State := { State.reset with dev := f State.reset.dev }

/-- The device in a state of Table 21-3. -/
def inState (n : Nat) (d : Dev) : Dev := d.setFld 0x00 DEV_STATE_STATE n

/-- The registers that follow hold these values. -/
def regsAre (rs : List (Nat × Nat × Nat)) (d : Dev) : Dev := rs.foldl (fun d r => d.setRegN r.1 r.2.1 r.2.2) d

/-- A bit of a register holds 1. -/
def flag (p : Nat) (f : Fld) (d : Dev) : Dev := d.setFld p f 1

/-- Core 31 of the AQ variant runs at its last address the instruction of these fields. -/
def coreAt (f : PglFields) (x : Core) (d : Dev) : Dev :=
  { ((d.setFld (pglPage 31) PGL_STATUS_STATE pglRunning).setFld (pglPage 31) PGL_PC_PC 0xFFFF).setCore 31 x with
    variant := .aq, code := [(65536 * 3 + 65535, f.word)] }

/-- The state with it. -/
def pgl (op dd s t m1 m2 : Nat) (x : Core) : State := st (coreAt ⟨op, dd, s, t, m1, m2⟩ x)

/-- Operand values of the witnesses: K0 and K1. -/
def ks : Core := { k := [(0, 0x800000), (1, 0x7FFFFF)] }

/-! ### The machine, the ports and the common registers -/

theorem witness_EmptyQueueIdles : State.reset.pending = [] := by decide +kernel
theorem witness_CommandsKeepTheQueue : ∃ s', exec (.tapReset 5) State.reset = .next s' := ⟨_, rfl⟩
theorem witness_EmptyTransfersMoveNothing : State.reset.up 7 = true := by decide +kernel
theorem witness_IllFormedOperandsOnlyPassTime : (Instr.cellArm 0 8).wf = false := by decide +kernel
theorem witness_ResetOnlyPassesTime :
    (Instr.cellArm 9 7).wf = true ∧ (Instr.cellArm 9 7).actsInReset = false ∧ (st (inState stReset)).up 9 = false := by decide +kernel
theorem witness_EveryStepKeepsSramCanonical :
    let s : State := { State.reset with pending := [.registerWrite 4 .control 0x7FFFFC 0x5A], mem := [(1, 2), (0x7FFFFF, 1)] }
    Memory.wf s.mem = true ∧ step s = exec (.registerWrite 4 .control 0x7FFFFC 0x5A) { s with pending := [] } :=
  ⟨by decide +kernel, rfl⟩
theorem witness_OtherCommandsLeaveSram : (Instr.blvArm 0 .control 0).storesSram = false := by decide +kernel
theorem witness_SramStoreWritesItsFourBytes :
    State.reset.up 7 = true ∧ (State.reset.begun 7).reaches .control = true ∧ 0x7FFFFC % 4 = 0 ∧ 0x7FFFFC < 0x800000 := by decide +kernel
theorem witness_PortTransfersComplete :
    let run := st (coreAt ⟨1, 0, 0, 0, 0, 0⟩ {})
    let a := 0x40000000
    let data := 0x207EFFF8
    State.reset.up 7 = true ∧ (State.reset.begun 7).runningWords .control 1 a = none ∧
    run.up 7 = true ∧ (run.begun 7).runningWords .control 2 data = some (31, 49150) ∧
    State.reset.servedTo 7 .dma = true ∧ (State.reset.begun 7).runningWords .dma 1 a = none ∧ run.servedTo 7 .control = true ∧
    (run.begun 7).runningWords .control 1 data = some (31, 49150) ∧
    0x60000000 ≤ 0x6169FFFC ∧ 0x6169FFFC < 0x616A0000 ∧ 0x6169FFFC % 4 = 0 ∧ (State.reset.begun 7).reaches .jtag = false := by decide +kernel
theorem witness_PortCommandsComplete :
    let seen := st (·.markSeen 0x00 DEV_BAD_CMD)
    ((State.reset.begun 7).bump 0x00 DEV_BAD_CMD).wasSeen 0x00 DEV_BAD_CMD = false ∧ seen.up 7 = true ∧
    ((seen.begun 7).bump 0x00 DEV_BAD_CMD).wasSeen 0x00 DEV_BAD_CMD = true ∧
    (State.reset.begun 7).on 0x00 DEV_PORT_STATUS_I3C = false := by decide +kernel
theorem witness_CommonRegisterCommandsComplete :
    State.reset.writable 7 .control 0xB4 EVENT_PENDING = true ∧ State.reset.writable 7 .management 0xB3 PAGE_LOCK = true ∧
    (State.reset.landed 7 0xB3 PAGE_LOCK).locked 0xB3 = false ∧ State.reset.writable 7 .dma 0x00 MBX_SELECT = true ∧
    (let s := st (fun d => d.setMailbox .control 0xB4 { sel := 3, due := true })
     s.up 7 = true ∧ ((s.begun 7).mailbox .control 0xB4).due = true) ∧ State.reset.servedTo 7 .management = true := by decide +kernel

/-! ### Power and time base -/

theorem witness_ResetCausesComplete :
    let held := st (fun d => { d with pwr := { d.pwr with causes := 4 + 8 + 2 ^ 14 } })
    let waits := st (fun d => inState stReset { d with pwr := { d.pwr with freeAt := 10 } })
    bitAt (State.reset.begun 7).pwr.causes 2 = false ∧ bitAt (State.reset.begun 7).pwr.causes 3 = false ∧
    bitAt (State.reset.begun 7).pwr.causes (8 + 6) = false ∧ bitAt (held.begun 7).pwr.causes 2 = true ∧
    bitAt (held.begun 7).pwr.causes 3 = true ∧ bitAt (held.begun 7).pwr.causes (8 + 6) = true ∧
    (waits.begun 4000010).devState = stReset ∧ (waits.begun 4000010).pwr.causes = 0 ∧
    (waits.begun 4000010).pwr.freeAt + 4000000 ≤ (waits.begun 4000010).now := by decide +kernel
theorem witness_RailOutOfWindowSafesTheDevice :
    (State.reset.begun 80000000).pwr.railAt + 80000000 ≤ (State.reset.begun 80000000).now ∧ State.reset.up 7 = true ∧
    bitAt (State.reset.begun 7).pwr.causes (8 + 6) = false := by decide +kernel
theorem witness_StateRequestsComplete :
    let q (n r : Nat) (f : Dev → Dev) : Dev := Dev.merged 0x01 PWR_STATE_REQ (BitVec.ofNat 32 r) ((st (fun d => f (inState n d))).begun 7)
    let good (d : Dev) : Dev := flag 0x01 PWR_STATUS_SUPPLY_OK (flag 0x01 PWR_STATUS_PLL_LOCKED d)
    let all (d : Dev) : Dev := scanLocks.foldl (fun d p => d.setReg p PAGE_LOCK 1) (good d)
    (st (inState stScanning)).servedTo 7 .control = true ∧ (q stScanning 3 id).requestRefusal stStandby = 0 ∧
    (q stStandby 4 good).requestRefusal stArmed = 0 ∧ (q stArmed 5 all).requestRefusal stScanning = 0 ∧
    (q stArmed 6 id).requestRefusal stSafeHold = 0 := by decide +kernel
theorem witness_RefusedRequestsLeaveTheState :
    let d (n : Nat) : Dev := inState n State.reset.dev
    let good (n : Nat) : Dev := flag 0x01 PWR_STATUS_SUPPLY_OK (flag 0x01 PWR_STATUS_PLL_LOCKED (d n))
    (d stFault).requestRefusal 7 ≠ 0 ∧ (d stStandby).boundary = false ∧ (d stStandby).devState = stStandby ∧ (good stArmed).boundary = false ∧
    (good stArmed).devState = stArmed ∧ (good stArmed).armedRefusal = 0 ∧ (d stBoot).devState ≠ stArmed ∧ (d stFault).devState = stFault := by
  decide +kernel
theorem witness_ClocksAndDomainsComplete :
    let off := st (Dev.setFld · 0x01 PWR_STATUS_PLL_LOCKED 0)
    let ran := st (fun d => { d.setFld 0x01 PWR_STATUS_PLL_LOCKED 0 with dtb := { d.dtb with run := true } })
    let locked := st (flag 0x01 PWR_STATUS_PLL_LOCKED)
    let aux := st (fun d => { d with dtb := { d.dtb with run := true } })
    let switching (k : Nat) (up : Bool) := st (fun d => { d with pwr := { d.pwr with switch := some (k, up, 0) } })
    (off.begun 7).released = true ∧ (off.begun 7).pllLocked = false ∧ (off.begun 7).dtb.run = false ∧
    (ran.begun 7).released = true ∧ (ran.begun 7).pllLocked = false ∧ (ran.begun 7).dtb.run = true ∧
    (locked.begun 7).pllLocked = true ∧ (ran.begun 7).down 8 = false ∧ (ran.begun 7).laneState 9 < 2 ∧
    (aux.begun 7).on 0x01 PWR_STATUS_LANE_PLL_LOCKED = false ∧ (aux.begun 7).dtb.run = true ∧ (aux.begun 7).down 8 = false ∧
    (aux.begun 7).laneState 9 < 2 ∧ ran.servedTo 7 .control = true ∧
    (switching 8 true).up 7 = true ∧ ((switching 8 true).begun 7).pwr.switch = some (8, true, 0) ∧
    ((switching 0 false).begun 7).pwr.switch = some (0, false, 0) ∧
    0 + 80000000 ≤ ((switching 8 true).begun 80000000).now := by decide +kernel
theorem witness_ResetLeavesResetValues :
    State.reset.dev.otp.job = none ∧ (0x07, CAL_CTRL) ∉ [(0x00, DEV_STATE), (0x85, GTH_STATUS)] ∧ 0 < 7 ∧ 7 < 8 := by decide +kernel
theorem witness_TimeBaseCommandsComplete :
    let ctrl (v : Nat) (d : Dev) : Dev := d.setRegN 0x03 DTB_CTRL v
    let leader := st (fun d => flag 0x01 PWR_STATUS_PLL_LOCKED <| flag 0x03 DTB_CTRL_PARK_EN { d with dtb := { d.dtb with run := true } })
    let follower := st (fun d => flag 0x03 DTB_CTRL_PARK_INDEX (flag 0x03 DTB_CTRL_PARK_EN d))
    let loop := st (flag 0x03 DTB_CTRL_LOOP)
    let late := st (fun d => { ctrl 0 d with dtb := { d.dtb with carried := true } })
    leader.up 2 = true ∧ (leader.begun 2).dtb.run = true ∧ (leader.begun 2).isLeader = true ∧
    (leader.begun 2).edgeTime % (leader.begun 2).timePeriod ≤ 2 ∧
    (State.reset.begun 7).isFollower = false ∧ (State.reset.begun 7).inLoop = false ∧ (loop.begun 7).inLoop = true ∧
    (follower.begun 7).isFollower = true ∧
    ((Dev.merged 0x03 DTB_CTRL (forced DTB_CTRL_LOAD 1 0) (State.reset.begun 7)).dtbCtrlWritten ((State.reset.begun 7).reg 0x03 DTB_CTRL)).isFollower
      = false ∧
    ((Dev.merged 0x03 DTB_CTRL (forced DTB_CTRL_RESYNC 1 ((follower.begun 7).reg 0x03 DTB_CTRL)) (follower.begun 7)).dtbCtrlWritten
      ((follower.begun 7).reg 0x03 DTB_CTRL)).isFollower = true ∧
    late.up 0 = true ∧ (late.begun 0).dtb.carried = true ∧ (late.begun 0).on 0x03 DTB_STATUS_TIME_SAT = false := by decide +kernel
theorem witness_DeviceTimeNeverWraps :
    2 ^ 64 - 1 < 2 ^ 64 ∧ timeSaturated (2 ^ 64 - 1) = true ∧ timeSaturated (addTime 5 6) = false ∧ 5 + 6 < 2 ^ 64 := by decide +kernel

/-! ### Detector, histograms and slots -/

theorem witness_CellAndTimingCommandsComplete :
    let g : GateSet := ⟨100, 5000, true, 64⟩
    let arm := st (fun d => d.setBank 7 { gate := some g })
    let cell := st (fun d => flag 0x0B MDW_CTRL_EN ((d.setReg 0x0B (MDW_PIX_EN + 4 * 63) 0x80000000).setBank 7 { gated := false }))
    let stamp := st (fun d => (d.setChan 2047 { align := [⟨5, 700, 64, 1⟩] }).setBank 7 { starts := [(64, 9)] })
    let hop := st (fun d => { d.setBank 7 { gate := some ⟨0, 5000, false, 0⟩, gateOpen := true, fireAt := 1000 } with lag := [(63, [4])] })
    let pulse := st (fun d => d.setBank 6 { winOpen := true, fireDt := 2 ^ 19 - 100 })
    let win := st (fun d => d.setBank 7 { winOpen := true, fireAt := 400, accepted := some 0 })
    (arm.upIn 4999 3 = true ∧ (arm.begun 4999).armingGate 7 = some g ∧ g.gated = true ∧ g.opens < g.closes ∧ (arm.begun 4999).now < g.closes ∧ g.opens ≤ (arm.begun 4999).now + g.lead ∧
      ((arm.begun 4999).getBank 7).armed = none ∧ (arm.begun 36).armingGate 7 = some g ∧ g.opens ≤ (arm.begun 36).now + g.lead) ∧
    (cell.upIn 7 3 = true ∧ ((cell.begun 7).getCell 131071).latched = false ∧ ((cell.begun 7).getCell 131071).deadEnd ≤ (cell.begun 7).now ∧
      (cell.begun 7).pixelArmed (131071 / 16) = true) ∧
    (stamp.upIn 1925 3 = true ∧ ((stamp.begun 1925).getChan 2047).align = [⟨5, 700, 64, 1⟩] ∧
      ((stamp.begun 1925).getBank (2047 / 256)).delayOf 64 = some 9 ∧ 5 + 1920 ≤ (stamp.begun 1925).now) ∧
    (hop.upIn 1040 3 = true ∧ ((hop.begun 1040).getBank (2047 / 256)).gate = some ⟨0, 5000, false, 0⟩ ∧
      ((hop.begun 1040).getBank (2047 / 256)).gateOpen = true ∧
      (SMap.get [] (hop.begun 1040).lag (2047 / 32))[((hop.begun 1040).getHop 2047).done]? = some 4 ∧ (hop.begun 1040).now < 5000 ∧
      ((hop.begun 1040).getBank (2047 / 256)).fireAt + 8 * 4 < 5000 ∧
      ((hop.begun 1040).getBank (2047 / 256)).fireAt + 8 * 4 ≤ (hop.begun 1040).now + 8 ∧
      (hop.begun 1040).now ≤ ((hop.begun 1040).getBank (2047 / 256)).fireAt + 8 * 4 + 8) ∧
    (pulse.upIn 7 3 = true ∧ ((pulse.begun 7).getSdl 3).refDead ≤ (pulse.begun 7).now ∧ (pulse.begun 7).calRef 3 = false ∧
      (let d := (pulse.begun 7).setSdl 3 { (pulse.begun 7).getSdl 3 with refDead := (pulse.begun 7).now + 256 }
       let ts := d.stampNow (widths (d.reg (refPage 3)) SDL_REF_CAL_TAB) 130
       (d.getBank 6).winOpen = true ∧ (d.getBank 6).accepted = none ∧ (ts + 2 ^ 19 - (d.getBank 6).fireDt % 2 ^ 19) % 2 ^ 19 < 1600)) ∧
    (win.upIn 2000 3 = true ∧ ((win.begun 2000).getBank 7).winOpen = true ∧ ((win.begun 2000).getBank 7).fireAt + 1600 ≤ (win.begun 2000).now ∧
      ((win.begun 2000).getBank 7).accepted = some 0 ∧ ((win.begun 2000).getBank 7).gateOpen = false ∧
      ((win.begun 2000).getBank 7).gateDone = false) := by decide +kernel
theorem witness_MeadowAndScaleCommandsComplete :
    let long := st (fun d => ((flag 0x0B MDW_BLANK_CTRL_EN d).setFld 0x0B MDW_BLANK_CTRL_BLANK_MAX 1).setBlank 3 { lowSince := some 0 })
    let pll (n : Nat) := st (fun d => flag (refPage 3) SDL_START_CTRL_LOCK_HOLD <| flag 0x01 PWR_STATUS_PLL_LOCKED <|
      d.setSdl 3 { codes := List.replicate n 64 })
    let q := st (fun d => d.setChan 2047 { queue := [⟨0, false, 5, 1⟩] })
    (State.reset.begun 7).blankLow = false ∧ ((st (fun d => { d with blankLow := true })).begun 7).blankLow = true ∧
    (long.upIn 80001 3 = true ∧ ((long.begun 80001).getBlank 3).lowSince = some 0 ∧ (long.begun 80001).on 0x0B MDW_BLANK_CTRL_EN = true ∧
      0 < (long.begun 80001).fld 0x0B MDW_BLANK_CTRL_BLANK_MAX ∧
      0 + 80000 * (long.begun 80001).fld 0x0B MDW_BLANK_CTRL_BLANK_MAX < (long.begun 80001).now ∧
      ((long.begun 80001).getBlank 3).longRaised = false) ∧
    State.reset.writable 7 .control 0x0B MDW_LATCH_CLR = true ∧ State.reset.writable 7 .control 0x0F (TRL_ROUTE + 4 * 63) = true ∧
    ((pll 254).upIn 7 3 = true ∧ ((pll 254).begun 7).pllLocked = true ∧ (((pll 254).begun 7).getSdl 3).codes.length < 255 ∧
      ((pll 254).begun 7).on (refPage 3) SDL_START_CTRL_LOCK_HOLD = true) ∧
    ((pll 256).upIn 7 3 = true ∧ ((pll 256).begun 7).pllLocked = true ∧ (((pll 256).begun 7).getSdl 3).codes.length = 256 ∧
      ((pll 256).begun 7).on (refPage 3) SDL_START_CTRL_LOCK_HOLD = true ∧ ((pll 256).begun 7).on (refPage 3) SDL_LOCK_STATUS_LOCKED = false ∧
      (128 : Int) = ((((pll 256).begun 7).getSdl 3).codes.drop 1 ++ [96]).foldl (fun (a : Int) (c : Nat) => a + 4 * ((c : Int) - 64)) 0) ∧
    State.reset.writable 7 .dma 0x4F SDL_CAL_COMMIT = true ∧ (State.reset.landed 7 0x4F SDL_CAL_COMMIT).underTest 63 = false ∧
    State.reset.writable 7 .control (refPage 3) SDL_START_CTRL = true ∧
    (Dev.merged (refPage 3) SDL_START_CTRL (setBits 0 31 31 1) (State.reset.landed 7 (refPage 3) SDL_START_CTRL)).terraceTest 3 = false ∧
    (q.upIn 7 3 = true ∧ ((q.begun 7).getChan 2047).queue = [⟨0, false, 5, 1⟩]) := by decide +kernel
theorem witness_BlankedDetectionsAreDiscarded :
    let d := flag 0x0B MDW_BLANK_CTRL_EN (State.reset.dev.setBank 7 { gate := some ⟨0, 1, false, 0⟩, gateOpen := true })
    (d.getBank (8191 / 1024)).gateOpen = true ∧ (d.getBank (8191 / 1024)).gate = some ⟨0, 1, false, 0⟩ ∧ 0 ≤ d.now ∧ d.now < 1 ∧
    d.periodBlanked (8191 / 2048) true = true := by decide +kernel
theorem witness_HistogramCountersSaturate :
    State.reset.dev.bin 2047 1 8191 ≠ 65535 ∧
    ({ State.reset.dev with bins := [(binKey 2047 1 8191, 65535)] } : Dev).bin 2047 1 8191 = 65535 ∧
    binKey 2047 1 8191 = binKey 2047 1 8191 := by decide +kernel

/-- A device that scans over a pattern of two lines at angles 0 and 64. -/
def scanning (d : Dev) : Dev :=
  let pat : SMap Byte := [(524160, 2), (524168, 64)]
  inState stScanning (flag 0x83 BND_BUF_ACTIVE_VALID (flag 0x83 BND_CTRL_EN { d with bnd := { d.bnd with buf0 := pat } }))

/-- The words of an empty shared SRAM are all zero. -/
theorem ztabWords_nil (b : Nat) : ztabWords [] b = [] := by
  have put (a : Nat) : SMap.put 0 [] a (memWord [] (b + 4 * a)).toNat = [] := by
    simp [SMap.put, SMap.erase, memWord, memByte, SMap.get]
  have fold (l : List Nat) : l.foldl (fun z i => SMap.put 0 z i (memWord [] (b + 4 * i)).toNat) [] = [] := by
    induction l with
    | nil => rfl
    | cons a l ih => rw [List.foldl_cons, put, ih]
  exact fold _

/-- Terrace 3 fetches its zoom table, which was this at the start of the fetch. -/
def fetchesFrom (w : SMap Nat) : State := st (fun d => d.setOrg 3 { fetching := true, zwas := w })

theorem witness_SlotTriggersAndFiresComplete_fetch :
    ((fetchesFrom []).upIn 7 3 = true ∧ (((fetchesFrom []).begun 7).getOrg 3).fetching = true ∧
      ztabWords (fetchesFrom []).mem (((fetchesFrom []).begun 7).getOrg 3).zbase = (((fetchesFrom []).begun 7).getOrg 3).zwas) ∧
    ((fetchesFrom [(2047, 1)]).upIn 7 3 = true ∧ (((fetchesFrom [(2047, 1)]).begun 7).getOrg 3).fetching = true ∧
      ztabWords (fetchesFrom [(2047, 1)]).mem (((fetchesFrom [(2047, 1)]).begun 7).getOrg 3).zbase
        ≠ (((fetchesFrom [(2047, 1)]).begun 7).getOrg 3).zwas) :=
  ⟨⟨by decide +kernel, by decide +kernel, (ztabWords_nil _).trans (by decide +kernel)⟩, by decide +kernel, by decide +kernel,
    fun h => absurd ((ztabWords_nil _).symm.trans h) (by decide +kernel)⟩
theorem witness_SlotTriggersAndFiresComplete :
    let trig := st (fun d => { scanning d with
      bnd := { (scanning d).bnd with fresh := some { angle := 5, omega := 1 }, prevAngle := some (-5) } })
    let timed := st (fun d => let e := ((scanning d).setFld 0x83 BND_CTRL_TRIG_MODE 1).setFld 0x83 BND_TIMED_PERIOD_PERIOD 9
      { e with bnd := { e.bnd with timedNext := some 7, samples := [(0, some {})] } })
    let seq := st (fun d => { d with seqGen := { running := some (true, 15, 3, 7) } })
    let long := st (fun d => { d.setOrg 3 { phase := 2 } with slots := [{ num := 4, frame := 0, inFrame := 0, devTime := 0, angle := 0, omega := 0, shots := 1, acquiring := true }] })
    let acq : Acq := { trigAt := 0, num := 4, line := 0, fetched := true, shots := 2, banks := [7], bankShots := [2], grid := 10, lShot := 20 }
    let shot := st (fun d => { d with bnd := { d.bnd with acq := some acq } })
    let fire := st (fun d => { d with bnd := { d.bnd with acq := some { acq with nextShot := 1 } } })
    (trig.up 7 = true ∧ (trig.begun 7).mayTrigger = true ∧ (trig.begun 7).fld 0x83 BND_CTRL_TRIG_MODE ≠ 1 ∧
      (trig.begun 7).bnd.fresh = some { angle := 5, omega := 1 } ∧ (trig.begun 7).crossing = some (0, true, false)) ∧
    (timed.up 7 = true ∧ (timed.begun 7).bnd.timedNext = some 7 ∧ (timed.begun 7).timedPossible = true ∧ 7 ≤ (timed.begun 7).now ∧
      SMap.get none (timed.begun 7).bnd.samples ((timed.begun 7).fld 0x83 BND_CTRL_SRC) = some {}) ∧
    (seq.up 7 = true ∧ (seq.begun 7).seqGen.running = some (true, 15, 3, 7)) ∧
    (long.upIn 7 3 = true ∧ (long.begun 7).openSlot ≠ none ∧ ((long.begun 7).getOrg 3).phase = 2 ∧ (long.begun 7).acqBusy = false ∧
      (long.begun 7).bnd.acq = none ∧ (long.begun 7).scanBusy 3 = false ∧ ∀ e ∈ (long.begun 7).chan, e.1 / 512 = 3 → e.2.align = [] ∧ e.2.queue = []) ∧
    (shot.up 10 = true ∧ (shot.begun 10).bnd.acq = some acq ∧ acq.fetched = true ∧ acq.nextShot < acq.shots ∧ acq.grid + acq.nextShot * acq.lShot ≤ (shot.begun 10).now) ∧
    (fire.up 30 = true ∧ (fire.begun 30).bnd.acq = some { acq with nextShot := 1 } ∧ ({ acq with nextShot := 1 } : Acq).nextPos = some 0 ∧ 0 < ({ acq with nextShot := 1 } : Acq).nextShot ∧
      ({ acq with nextShot := 1 } : Acq).fireAt 0 0 ≤ (fire.begun 30).now) := by decide +kernel
theorem witness_SlotTriggersAndFiresComplete_gates :
    let opening := st (fun d => d.setBank 7 { gate := some ⟨50, 60, false, 0⟩, sched := true })
    let closing := st (fun d => d.setBank 7 { gate := some ⟨50, 60, false, 0⟩, sched := true, gateOpen := true })
    (opening.upIn 50 3 = true ∧ 50 < 60 ∧ ((opening.begun 50).getBank 7).gate = some ⟨50, 60, false, 0⟩ ∧ ((opening.begun 50).getBank 7).sched = true ∧
      ((opening.begun 50).getBank 7).gateOpen = false ∧ ((opening.begun 50).getBank 7).gateDone = false ∧ 50 ≤ (opening.begun 50).now) ∧
    (closing.up 60 = true ∧ ((closing.begun 60).getBank 7).gate = some ⟨50, 60, false, 0⟩ ∧ ((closing.begun 60).getBank 7).gateOpen = true ∧
      ((closing.begun 60).getBank 7).early = none ∧ ((closing.begun 60).getBank 7).delayOf ((closing.begun 60).getBank 7).fireDt = none ∧
      60 ≤ (closing.begun 60).now) := by decide +kernel
theorem witness_GatehouseCommandsComplete :
    let acq : Acq := { trigAt := 0, num := 4, line := 0, fetched := true, shots := 1 }
    let pass := st (fun d => { d with bnd := { d.bnd with acq := some acq } })
    let calm := st (fun d => (flag 0x85 GTH_STATUS_STATIC { d with
      gth := { d.gth with calmSince := some 0 }
      otp := { d.otp with loaded := true } }).setFld 0x85 GTH_STATIC_HOLD_HOLD 10)
    let high := st (fun d => inState stScanning { d with gth := { d.gth with emitEn := true, emitSince := 5 } })
    (pass.up 64000 = true ∧ (pass.begun 64000).bnd.acq = some acq ∧ acq.fetched = true ∧ acq.nextPass < acq.shots ∧ acq.trigAt + 64000 ≤ (pass.begun 64000).now) ∧
    ((State.reset.begun 7).on 0x85 GTH_STATUS_STALE = false ∧
      SMap.get 0 (State.reset.begun 32000000).gth.lastSample ((State.reset.begun 32000000).fld 0x85 GTH_CFG_SRC) +
        32000 * (State.reset.begun 32000000).loopPeriod ((State.reset.begun 32000000).fld 0x85 GTH_CFG_SRC) ≤ (State.reset.begun 32000000).now ∧
      State.reset.up 32000000 = true ∧ (State.reset.begun 32000000).on 0x85 GTH_STATUS_STALE = false) ∧
    ((calm.begun 800000000).gth.calmSince = some 0 ∧ (calm.begun 800000000).isStatic = true ∧ (calm.begun 800000000).staticCond = false ∧
      0 + 80000000 * max 10 ((calm.begun 800000000).fld 0x85 GTH_STATIC_HOLD_HOLD) ≤ (calm.begun 800000000).now) ∧
    ((State.reset.begun 7).edgeTime % 800000 = ((State.reset.begun 7).fld 0x8E PMP_CTRL_GTH_PHASE * 50000) % 800000 ∧
      (State.reset.begun 7).gth.waiting = false ∧ (State.reset.begun 7).fld 0x85 GTH_CFG_VSNS < 4 ∧
      (State.reset.begun 7).fld 0x90 (PMP_SAR_CFG_GTH_IN.plus (4 * (State.reset.begun 7).fld 0x85 GTH_CFG_VSNS)) < 28) ∧
    (State.reset.begun 7).gth.emitEn = false ∧
    (high.up 80005 = true ∧ (high.begun 80005).gth.emitEn = true ∧ (high.begun 80005).gth.emitSince + 80000 ≤ (high.begun 80005).now ∧
      (high.begun 80005).devState = stScanning) ∧
    (State.reset.servedTo 7 .control = true ∧ GTH_BUD_SCAN_SEG ≤ GTH_BUD_STAT_GRP + 16 ∧ (GTH_BUD_STAT_GRP + 16) % 4 = 0) := by decide +kernel
theorem witness_PatternAndProbeCommandsComplete :
    let loading := st (fun d => { d with bnd := { d.bnd with loading := some [] } })
    let valid := st (flag 0x83 BND_BUF_INACTIVE_VALID)
    let swap := st (fun d => { d.setFld 0x83 BND_CTRL_SWAP_MODE 1 with bnd := { d.bnd with swapReqs := [0] }, dtb := { d.dtb with dt := 800000 } })
    let probe := st (fun d => let e := (flag 0x84 BND_PROBE_EN (scanning d)).setBit 0x84 BND_THERM_MAP 24
      { e with bnd := { e.bnd with gapDone := false, interval := 300000, thermMap := 0x1000000 }, gth := { e.gth with emitEn := true } })
    let late := st (fun d => let e := flag 0x84 BND_PROBE_EN (scanning d)
      { e with bnd := { e.bnd with diag := [(63, { at_ := some 0 })] } })
    (State.reset.servedTo 7 .control = true ∧
      ((State.reset.begun 7).readyWrite (bitAt (forced BND_BUF_LOAD 1 0).toNat 2)).on 0x83 BND_BUF_LOADING = false) ∧
    (loading.up 7 = true ∧ (loading.begun 7).bnd.loading = some [] ∧
      imageSlice loading.mem (loading.begun 7).bnd.loadBase = []) ∧
    (valid.servedTo 7 .control = true ∧ bitAt (forced BND_BUF_READY 1 0).toNat 2 = true ∧ bitAt (forced BND_BUF_READY 1 0).toNat 8 = false ∧
      (valid.begun 7).on 0x83 BND_BUF_LOADING = false ∧ (valid.begun 7).on 0x83 BND_BUF_LOAD_ERR = false ∧
      (valid.begun 7).on 0x83 BND_BUF_INACTIVE_VALID = true) ∧
    (swap.up 7 = true ∧ (swap.begun 7).bnd.swapReqs = [0] ∧
      0 + 8000 * max 10 ((swap.begun 7).fld 0x83 BND_SYNC_LATENCY_LAT) ≤ (swap.begun 7).edgeTime ∧
      ({ swap.begun 7 with bnd := { (swap.begun 7).bnd with swapReqs := [] } } : Dev).swapOnSync = true ∧
      (swap.begun 7).on 0x83 BND_BUF_READY = false) ∧
    ((let ready (due : Bool) := st (fun d => { (flag 0x83 BND_BUF_READY d).setFld 0x83 BND_CTRL_SWAP_MODE 1 with
        bnd := { d.bnd with swapReqs := [0], swapDue := due }, dtb := { d.dtb with dt := 800000 } })
      ∀ due, (ready due).up 7 = true ∧ ((ready due).begun 7).bnd.swapReqs = [0] ∧
      0 + 8000 * max 10 (((ready due).begun 7).fld 0x83 BND_SYNC_LATENCY_LAT) ≤ ((ready due).begun 7).edgeTime ∧
      ({ (ready due).begun 7 with bnd := { ((ready due).begun 7).bnd with swapReqs := [] } } : Dev).swapOnSync = true ∧
      ((ready due).begun 7).bnd.swapDue = due ∧ ((ready due).begun 7).on 0x83 BND_BUF_READY = true)) ∧
    (let d := probe.begun 80000
     let e := d.energy 0 (d.fld 0x84 BND_PROBE_AMP * 51 * d.bnd.factors.getD (0 / 8) 256 / 256) 20
     let d0 : Dev := { d with bnd := { d.bnd with gapDone := true } }
     probe.up 80000 = true ∧ d.probeDue = some 0 ∧ d.probeLead ≤ d.now ∧ d.probeGap (d.now - d.probeLead) = true ∧ d.enableCause = none ∧ d.gth.missing = false ∧
     d0.refusedBy 0 d0.edgeTime e false = none ∧
     (Dev.thermalOff (0 / 8) { d0 with gth := d0.gth.debit 0 d0.edgeTime d0.edgeTime e }).bit 0x84 BND_DERATE_STATUS 0
       = false) ∧
    (let d := late.begun 160000000001
     late.up 160000000001 = true ∧ (SMap.get {} d.bnd.diag 63).at_ = some 0 ∧ d.on 0x84 BND_PROBE_EN = true ∧ d.devState = stScanning ∧
     0 + 2 * d.probePeriod < d.now ∧ (SMap.get {} d.bnd.diag 63).lateOnce = false) := by decide +kernel
/-! ### Echoes and the link -/

/-- An open slot of number 4 whose records may be accepted. -/
def slot4 : SlotRec := { num := 4, frame := 2, inFrame := 0, devTime := 64, angle := 3, omega := 1 }

theorem witness_EchoCommandsComplete :
    let r : Release := { info := { geo := ⟨6, 0, 64⟩ } }
    let scan (host : Bool) (c : ChScan) := st (fun d => { (d.setGzb 3 { scan := some r, chans := [(511, c)] }).setOrg 3
      { half0 := { hostWritten := host } } with variant := .aq })
    let full := st (coreAt ⟨1, 0, 0, 0, 0, 0⟩ { queue := List.replicate 64 { words := [] } })
    let open_ := st (fun d => { d.setGzb 3 { busy := true, num := 4, starts := [24, 25], opened := false } with slots := [slot4] })
    let closing := st (fun d => { d.setGzb 3 { busy := true, num := 4, ends := [24, 25], closing := false } with slots := [slot4] })
    let e (only : Bool) : Echo := { ch := 2047, last := true, feedOnly := only }
    let rec_ (v : Variant) (only : Bool) := st (fun d => { d.setGzb 3 { num := 4, echoes := [e only] } with variant := v, slots := [slot4] })
    ((scan true {}).upIn 7 3 = true ∧ ((scan true {}).begun 7).scanCredit 3 = true ∧ (((scan true {}).begun 7).getGzb 3).scan = some r ∧
      0 < r.words ∧ (((scan true {}).begun 7).readWord 2047 r 0).2.twoPass 2047 r = true ∧
      (SMap.get {} (((scan true {}).begun 7).getGzb 3).chans 511).firstDone = false) ∧
    ((scan false { formed := true }).upIn 7 3 = true ∧ ((scan false { formed := true }).begun 7).scanCredit 3 = true ∧
      (((scan false { formed := true }).begun 7).getGzb 3).scan = some r ∧
      (((scan false { formed := true }).begun 7).readWord 2047 r 0).2.twoPass 2047 r = false) ∧
    ((scan false { pos := r.words }).upIn 7 3 = true ∧ ((scan false { pos := r.words }).begun 7).scanCredit 3 = true ∧
      (((scan false { pos := r.words }).begun 7).getGzb 3).scan = some r ∧
      (SMap.get {} (((scan false { pos := r.words }).begun 7).getGzb 3).chans 511).extracted = false ∧
      (SMap.get {} (((scan false { pos := r.words }).begun 7).getGzb 3).chans 511).pos = r.words ∧
      ((scan false { pos := r.words }).begun 7).twoPass 2047 r = false) ∧
    (full.upIn 7 3 = true ∧ (full.begun 7).scanCredit 3 = false) ∧
    (open_.upIn 7 3 = true ∧ ((open_.begun 7).getGzb 3).busy = true ∧ ((open_.begun 7).getGzb 3).starts ≠ []) ∧
    (closing.upIn 7 3 = true ∧ ((closing.begun 7).getGzb 3).busy = true ∧ ((closing.begun 7).getGzb 3).starts = [] ∧
      ((closing.begun 7).getGzb 3).scan = none ∧ ((closing.begun 7).getGzb 3).echoes = []) ∧
    (∀ v ∈ [Variant.is, Variant.aq], ∀ only,
     let d := (rec_ v only).begun 7
     let g := d.getGzb 3
     let b := d.bloom 3 (e only)
     (rec_ v only).up 7 = true ∧ d.variant = v ∧ g.echoes.find? (fun x => x.ch == 2047) = some (e only) ∧ g.starts = [] ∧
      d.bloomReady g.num 2047 = true ∧ d.prm.mid = none ∧ b.2.coreRoom (b.2.bedCore (2047 / 32)) = true ∧
      (b.2.offerRecord g.num (b.1.record g.num)).2 = true) ∧
    State.reset.writable 7 .control (gzbPage 3) GZB_CTRL = true ∧ State.reset.writable 7 .control 0x54 GZB_LISTEN = true ∧
    State.reset.writable 7 .control 0x54 GZB_DITHER_SALT = true ∧ State.reset.writable 7 .control 0x54 GZB_DITHER = true ∧
    State.reset.writable 7 .control (orgPage 3) ORG_CLEAR = true ∧ State.reset.writable 7 .control (orgPage 3) ORG_CTRL = true ∧
    (State.reset.upIn 7 3 = true ∧ (State.reset.begun 7).windowBin 2047 0x7FFC = none ∧ (State.reset.begun 7).windowBin 2047 0x3FFC ≠ none ∧
      (State.reset.begun 7).zoomHalf (0xFFFFC / 512 / 512) ≠ none ∧ 0xFFFFC / 512 / 512 = 3 ∧ 0x7FFC / 16 / 512 = 3) := by decide +kernel

/-- The link's clock runs. -/
def laneClock (d : Dev) : Dev := flag 0x01 PWR_STATUS_LANE_PLL_LOCKED d

theorem witness_LinkReceptionCommandsComplete :
    let on := st laneClock
    let lane (v : Nat) (n : Nat) := st (fun d => (laneClock d).setRegN (lanePage n) PRM_LANE_STATUS v)
    let bits (n : Nat) (fs : List Fld) := st (fun d => fs.foldl (fun d f => flag (lanePage n) f d) (laneClock d))
    let cdr := bits 7 [PRM_LANE_STATUS_CDR_LOCK]
    let blk (n : Nat) := bits n [PRM_LANE_STATUS_CDR_LOCK, PRM_LANE_STATUS_BLOCK_LOCK]
    let am := st (fun d => (flag (lanePage 7) PRM_LANE_STATUS_AM_LOCK (laneClock d)).setLane 7 { amAt := some 0 })
    let mode (v : Nat) := st (fun d => (flag (lanePage 7) PRM_LANE_STATUS_LOS (laneClock d)).setFld 0x82 PRM_LINK_CTRL_LOOPBACK v)
    let link (p : Prm) := st (fun d => { laneClock d with prm := p })
    let warn := st (fun d => { (laneClock d).setFld 0x82 PRM_LINK_CFG_XOFF_WARN 1 with prm := { holdFrom := some 0, holdLimit := 1 } })
    let prbs (n : Nat) := st (fun d => (laneClock d).setFld (lanePage n) PRM_LANE_CTRL_PRBS 2)
    let p : Packet := ⟨1, 0, List.replicate 64 0, none⟩
    let stopped := st (fun d => { laneClock d with prm := { holdFrom := some 5, inFlight := some (p, 9), held := 1 } })
    (on.up 7 = true ∧ (on.begun 7).laneOn 9 = true ∧ ((lane 0 9).begun 7).on (lanePage 9) PRM_LANE_STATUS_LOS = false ∧
      ((mode 2).begun 7).laneOn 7 = true ∧ ((mode 2).begun 7).deaf 7 = true ∧ ((mode 2).begun 7).on (lanePage 7) PRM_LANE_STATUS_LOS = true ∧
      ((mode 2).begun 30000).on (lanePage 7) PRM_LANE_STATUS_BLOCK_LOCK = false ∧ ((mode 2).begun 30000).loopback = 2 ∧
      ((mode 2).begun 30000).headersValid 7 = true) ∧
    ((cdr.begun 30000).laneOn 7 = true ∧ (cdr.begun 30000).on (lanePage 7) PRM_LANE_STATUS_CDR_LOCK = true ∧
      (cdr.begun 30000).on (lanePage 7) PRM_LANE_STATUS_BLOCK_LOCK = false ∧ (cdr.begun 30000).headersValid 7 = true ∧
      (cdr.begun 30000).deaf 7 = false) ∧
    (∀ n ∈ [7, 9], ((blk n).begun 7).laneOn n = true ∧ ((blk n).begun 7).on (lanePage n) PRM_LANE_STATUS_CDR_LOCK = true ∧
      ((blk n).begun 7).on (lanePage n) PRM_LANE_STATUS_BLOCK_LOCK = true ∧ ((blk n).begun 7).deaf n = false) ∧
    (am.up (4 * amPeriod - 4400) = true ∧ (am.begun (4 * amPeriod - 4400)).lanesGated = false ∧
      ((am.begun (4 * amPeriod - 4400)).lane 7).amAt = some 0 ∧ (am.begun (4 * amPeriod - 4400)).on (lanePage 7) PRM_LANE_STATUS_AM_LOCK = true ∧
      4 * amPeriod ≤ (am.begun (4 * amPeriod - 4400)).now - 0 + 4400) ∧
    ((on.begun 7).lanesGated = false ∧ (on.begun 7).laneState 9 < 2 ∧ (on.begun 7).nearEnd = false ∧
      ((lane 0 7).begun 7).on (lanePage 7) PRM_LANE_STATUS_LOS = false) ∧
    (((link { aligned := true }).begun 7).prm.aligned = true ∧ ((link { aligned := true }).begun 7).prm.holdFrom = none ∧
      ((link { aligned := true }).begun 7).prm.inFlight = none ∧ ((link { holdFrom := some 5 }).begun 7).prm.holdFrom = some 5 ∧
      ((link { holdFrom := some 5 }).begun 7).prm.inFlight = none ∧ (stopped.begun 7).prm.holdFrom = some 5 ∧
      (stopped.begun 7).prm.inFlight = some (p, 9)) ∧
    ((warn.begun 80001).prm.holdFrom = some 0 ∧ 0 < (warn.begun 80001).prm.holdLimit ∧
      0 + 80000 * (warn.begun 80001).prm.holdLimit < (warn.begun 80001).now ∧ (warn.begun 80001).prm.warned = false) ∧
    State.reset.writable 7 .control (lanePage 9) PRM_LANE_CTRL = true ∧ State.reset.writable 7 .control 0x82 PRM_LINK_CTRL = true ∧
    (∀ n ∈ [7, 9], (prbs n).up 204 = true ∧ ((prbs n).begun 204).laneOn n = true ∧
      bitAt (((prbs n).begun 204).fld (lanePage n) PRM_LANE_CTRL_PRBS) 1 = true) ∧
    (∀ n ∈ [8, 9], ((blk n).begun 7).variant = .is ∧ ((blk n).begun 7).laneOn n = true ∧
      ((blk n).begun 7).on (lanePage n) PRM_LANE_STATUS_BLOCK_LOCK = true) := by decide +kernel
theorem witness_LinkSendingCommandsComplete :
    let f : FrameRec := { num := 2, buf := 0, entries := 2, firstNum := 4, firstTime := 64, unsync := false, started := true }
    let commit := st (fun d => { d with slots := [slot4], frames := [f], prm := { aligned := true } })
    let p : Packet := ⟨1, 0, List.replicate 64 0, none⟩
    let send := st (fun d => { d with prm := { aligned := true, queue := [p], await := false } })
    let marker := st (fun d => { d with evm := { d.evm with markers := [⟨3, 4, 64⟩] } })
    let on := st laneClock
    (commit.up 7 = true ∧ (commit.begun 7).slots = [slot4] ∧ slot4.acquiring = false ∧ slot4.due = 0 ∧ (commit.begun 7).prm.aligned = true ∧
      (commit.begun 7).lanesGated = false ∧ (commit.begun 7).hasSpace 128 = true ∧
      (commit.begun 7).frames.find? (fun g => g.num == slot4.frame) = some f ∧ f.started = true ∧ slot4.taps = [] ∧ slot4.lost = false ∧
      slot4.touched = false) ∧
    (send.up 7 = true ∧ (send.begun 7).prm.queue = [p] ∧ (send.begun 7).prm.aligned = true ∧ (send.begun 7).prm.inFlight = none ∧
      (send.begun 7).prm.holdFrom = none) ∧
    (marker.up 7 = true ∧ (marker.begun 7).evm.markers = [⟨3, 4, 64⟩] ∧ ((marker.begun 7).offerPayload 5 (Marker.payload ⟨3, 4, 64⟩)).2 = true) ∧
    ((on.begun 7).lanesGated = false ∧ (on.begun 7).on 0x01 PWR_STATUS_LANE_PLL_LOCKED = true ∧
      (on.begun 7).on 0x82 PRM_LINK_CTRL_PSTATE = false ∧ (on.begun 7).loopback ≠ 3 ∧ (on.begun 7).amDue = true) := by decide +kernel
theorem witness_LeavingAlignedDiscardsAndCounts :
    ({ State.reset.dev with prm := { aligned := true } } : Dev).prm.aligned = true ∧ State.reset.dev.prm.aligned = false := by decide +kernel

/-! ### Loops, analog inputs, filters and capture -/

theorem witness_LoopCommandsComplete :
    let start := st (fun d => { d.setLoop 7 { starting := true } with dtb := { d.dtb with dt := 350000 } })
    let ready (fb : Meas) := st (fun d => d.setLoop 7 { samples := [⟨1, 0, fb, none⟩] })
    let pwm := st (fun d => d.setLoop 7 { pwmAt := some 0, pwmPeriod := 2 })
    (start.up 7 = true ∧ ((start.begun 7).getLoop 7).starting = true ∧ ((start.begun 7).getLoop 7).sampledAt ≠ some (start.begun 7).now ∧
      (start.begun 7).edgeTime % (8000 * (start.begun 7).loopPeriod 7) = (50000 * 7) % (8000 * (start.begun 7).loopPeriod 7)) ∧
    ((ready (.code 65535 2)).up 7 = true ∧ ((ready (.code 65535 2)).begun 7).nextServed = some (7, ⟨1, 0, .code 65535 2, none⟩) ∧
      ((ready (.temp (-32768) true)).begun 7).nextServed = some (7, ⟨1, 0, .temp (-32768) true, none⟩) ∧
      ((ready .missing).begun 7).nextServed = some (7, ⟨1, 0, .missing, none⟩)) ∧
    (pwm.up 512 = true ∧ ((pwm.begun 512).getLoop 7).pwmAt = some 0 ∧ 0 + 256 * ((pwm.begun 512).getLoop 7).pwmPeriod ≤ (pwm.begun 512).now) ∧
    State.reset.servedTo 7 .control = true := by decide +kernel
theorem witness_LoopUpdatesFollowThePid : (State.reset.dev.getLoop 7).first = false := by decide +kernel
/-- The device of SEND with one packet of these bytes in the egress buffer. -/
def sendFull (bytes : List Nat) (d : Dev) : Dev :=
  { coreAt ⟨0x2A, 0, 0, 0, 0, 0⟩ {} d with prm := { aligned := true, queue := [⟨1, 0, bytes, none⟩], await := false } }

theorem sendFull_waits (bytes : List Nat) (d : Dev) (h : 524288 ≤ bytes.length) (hg : (sendFull bytes d).lanesGated = false) (p : List Nat)
    (hp : 0 < p.length) : ((sendFull bytes d).offerPayload 5 p).2 = false := by
  have e : 524288 ≤ (sendFull bytes d).egressBytes := by
    simp only [Dev.egressBytes, sendFull, List.map, total, List.foldl]; omega
  have a : (sendFull bytes d).prm.aligned = true := rfl
  simp only [Dev.offerPayload, hg, a, Dev.hasSpace]
  rw [if_neg (by simp), if_pos (by simp; omega)]

theorem witness_SendWaits : ∃ bytes, 524288 ≤ List.length bytes ∧ (st (sendFull bytes)).dev.lanesGated = false :=
  ⟨List.replicate 524288 0, Nat.le_of_eq (List.length_replicate ..).symm, by
    show Dev.lanesGated _ = false
    decide +kernel⟩
theorem witness_ConversionCommandsComplete :
    let job : SarJob := { who := 1, input := 23, start := 0, navg := 2, shift := 1 }
    let sar := st (fun d => d.setSar 3 { job := some job })
    let rout (j : Option SarJob) := st (fun d => ((flag 0x8E PMP_CTRL_EN d).setFld 0x90 (PMP_SAR_ROUTINE_PERIOD.plus 12) 1).setSar 3 { job := j })
    let sd := st (fun d => flag 0x01 PWR_STATUS_AUX_PLL_LOCKED { d with pmp := { d.pmp with sd := [(1, { entry := some 0 })] } })
    let t := sdN 0 * sdPeriod 0
    let w : Word := 0
    let n : Notch := { start := 0, len := 100, sum := 300 }
    let notch := st (fun d => { d with pmp := { d.pmp with sd := [(1, { entry := some w, notch := some n })] } })
    let wire := st (fun d => flag 0x8E PMP_CTRL_WIRE_EN (flag 0x91 (PMP_IN_CFG_WIRE_EN.plus (4 * 27)) { d with dtb := { d.dtb with dt := 50000000 * 27 } }))
    let tone := st (fun d => { d with pmp := { d.pmp with check := some (2 * 27 + 1, 0) } })
    (sar.up 48000 = true ∧ ((sar.begun 48000).getSar 3).job = some job ∧ job.start + Config.ns (200 * (job.navg + 1)) ≤ (sar.begun 48000).now ∧
      [((1000000 : Int), 0), (2000000, 0)].length = job.navg ∧ job.who % 2 = 1 ∧
      bitsOf job.cfg PMP_SAR_CFG_LOG.hi PMP_SAR_CFG_LOG.lo = 0 ∧
      (∀ x ∈ [((1000000 : Int), 0), (2000000, 0)], 0 < ainCode x.1 ∧ ainCode x.1 < 65535) ∧
      spanOverlaps ((sar.begun 48000).clampSpans 23) 0 (Config.ns 400) = false ∧ (sar.begun 48000).bit 0x8E PMP_WIRE_FAULT 23 = false) ∧
    ((rout none).up 7 = true ∧ ((rout none).begun 7).on 0x8E PMP_CTRL_EN = true ∧
      ((rout none).begun 7).fld 0x90 (PMP_SAR_ROUTINE_PERIOD.plus 12) ≠ 0 ∧ ((rout none).begun 7).fld 0x90 (PMP_SAR_ROUTINE_IN.plus 12) < 28 ∧
      ((rout none).begun 7).edgeTime % 80000 = 0 ∧ (((rout none).begun 7).getSar 3).job = none ∧
      (((rout (some job)).begun 7).getSar 3).job ≠ none) ∧
    (sd.up t = true ∧ ((sd.begun t).getSd 1).entry = some w ∧ (sd.begun t).on 0x01 PWR_STATUS_AUX_PLL_LOCKED = true ∧
      ((sd.begun t).getSd 1).release + sdN w * sdPeriod w ≤ (sd.begun t).now ∧ ((sd.begun t).now - ((sd.begun t).getSd 1).release) % sdPeriod w = 0 ∧
      ((sd.begun t).getSd 1).release < (sd.begun t).now ∧ sdCsc w = false ∧ sdF w PMP_SD_LIST_NOTCH = 0 ∧
      spanOverlaps ((sd.begun t).clampSpans (sdF w PMP_SD_LIST_IN)) ((sd.begun t).now - sdN w * sdPeriod w) (sd.begun t).now = false ∧
      spanOverlaps ((sd.begun t).toneSpans (sdF w PMP_SD_LIST_IN)) ((sd.begun t).now - sdN w * sdPeriod w) (sd.begun t).now = false) ∧
    (notch.up 100 = true ∧ ((notch.begun 100).getSd 1).entry = some w ∧ ((notch.begun 100).getSd 1).notch = some n ∧
      ((notch.begun 100).getSd 1).held = none ∧ n.hi = false ∧ n.lo = false ∧ n.start + n.len ≤ (notch.begun 100).now ∧
      n.sum % (n.len : Int) = 0) ∧
    spanIsOpen ((State.reset.begun 7).clampSpans 27) = false ∧
    (wire.up 7 = true ∧ (wire.begun 7).on 0x8E PMP_CTRL_WIRE_EN = true ∧ (wire.begun 7).on 0x91 (PMP_IN_CFG_WIRE_EN.plus (4 * 27)) = true ∧
      (wire.begun 7).pmp.check = none ∧ (wire.begun 7).edgeTime % 1600000000 = 50000000 * 27) ∧
    (tone.up 39062500 = true ∧ (tone.begun 39062500).pmp.check = some (2 * 27 + 1, 0) ∧ 0 + 39062500 ≤ (tone.begun 39062500).now ∧
      10 ≤ 10 ∧ 1000000 ≤ 1000000) ∧ State.reset.servedTo 7 .management = true := by decide +kernel
theorem witness_CascadeAndCaptureCommandsComplete :
    let on (f : Bool) := st (fun d => ((flag 0x92 CSC_CTRL_EN { d with dtb := { d.dtb with dt := 60000 } }).setFld 0x92 (CSC_CH_CFG_EN.plus (32 * 15)) 1).setCsc 15 { flush := f })
    let off := st (fun d => { d with dtb := { d.dtb with dt := 60000 } })
    let o : CscOut := ⟨5, 1, 0, 64, 3, none⟩
    let out := st (fun d => d.setCsc 15 { outs := [o] })
    let cap (n : Nat) (dest : Nat) := st (fun d => { d.setFld 0x93 BLV_STATUS_STATE n with
      blv := { d.blv with dest := dest }, dtb := { d.dtb with dt := 2 ^ 41 } })
    (off.up 7 = true ∧ (off.begun 7).edgeTime % 64000 = 4000 * 15 ∧ (off.begun 7).cscOn 15 = false) ∧
    (((on true).begun 7).edgeTime % 64000 = 4000 * 15 ∧ ((on true).begun 7).cscOn 15 = true ∧ (((on true).begun 7).getCsc 15).flush = true ∧
      ((on false).begun 7).cscOn 15 = true ∧ (((on false).begun 7).getCsc 15).flush = false) ∧
    (out.up 7 = true ∧ ((out.begun 7).getCsc 15).outs = [o] ∧ o.due ≤ (out.begun 7).now) ∧
    (((cap blvPost 0).begun 7).blvState = blvPost ∧ ((cap blvPost 0).begun 7).blv.tTrig + 2 ^ 41 ≤ ((cap blvPost 0).begun 7).edgeTime ∧
      ((cap blvMask 0).begun 7).blvState = blvMask) ∧
    (((cap blvDump 2).begun 7).blvState = blvDump ∧ ((cap blvDump 2).begun 7).blv.dest = 2 ∧
      4096 * ((cap blvDump 2).begun 7).blv.base + ((cap blvDump 2).begun 7).blvImage.length ≤ 0x800000) ∧
    (((cap blvDone 0).begun 7).blvState = blvDone ∧
      4 * ((cap blvDone 0).begun 7).fld 0x93 BLV_RD_ADDR_ADDR < ((cap blvDone 0).begun 7).blvImage.length) := by decide +kernel
theorem witness_CascadeFilterLaws :
    (HalfBand.step { xs := List.replicate 30 (-8388608), n := 1000 } 0 8388607).2.isSome = true ∧
    (HalfBand.step { xs := List.replicate 30 (-8388608), n := 1001 } 0 8388607).2.isSome = false ∧
    ((State.reset.dev.getCsc 15).ms ≤ 8388607 ^ 2 ∧ (State.reset.dev.getCsc 15).env ≤ 256 * 8388607) ∧
    131072 * roundHalfEven17 65536 = 0 ∧ roundHalfEven17 65536 % 2 = 0 := by decide +kernel

/-! ### Pergola, DMA -/

theorem witness_PergolaArithmeticCompletes :
    let s (op : Nat) := pgl op 47 32 33 0 0 ks
    let d := (s 0x0A).pglDev 7 31
    let f := (s 0x0A).pglFlds 7 31
    d.srcS 31 f = .val 0x800000 ∧ d.srcT 31 f = .val 0x7FFFFF ∧ isDest f.d = true ∧
    ([0x0A, 0x0B, 0x0C, 0x0D, 0x0E, 0x0F, 0x10, 0x11, 0x12, 0x13, 0x04, 0x14].all fun op => (s op).runsOp 7 31 op) = true := by decide +kernel
theorem witness_PergolaMovesComplete :
    let s (op m1 m2 : Nat) := pgl op 47 32 33 m1 m2 ks
    let mem : Nat := 2048
    ([0x01, 0x05, 0x09, 0x07].all fun op => (s op 0 0).runsOp 7 31 op) = true ∧ isDest ((s 0x05 0 0).pglFlds 7 31).d = true ∧
    ((s 0x06 mem 0).runsOp 7 31 0x06 = true ∧ memEn ((s 0x06 mem 0).pglFlds 7 31).m1 = true ∧
      (((s 0x06 mem 0).pglDev 7 31).getCore 31).readTrap ((s 0x06 mem 0).pglFlds 7 31).m1 = none) ∧
    ((s 0x07 0 mem).runsOp 7 31 0x07 = true ∧ ((s 0x07 0 mem).pglDev 7 31).srcS 31 ((s 0x07 0 mem).pglFlds 7 31) = .val 0x800000 ∧
      memEn ((s 0x07 0 mem).pglFlds 7 31).m2 = true ∧ (((s 0x07 0 mem).pglDev 7 31).getCore 31).memTrap ((s 0x07 0 mem).pglFlds 7 31).m2 = none ∧
      memEn ((s 0x07 0 0).pglFlds 7 31).m2 = false) ∧
    ((s 0x08 mem mem).runsOp 7 31 0x08 = true ∧
      (((s 0x08 mem mem).pglDev 7 31).getCore 31).readReg (((s 0x08 mem mem).pglDev 7 31).iph 31) ((s 0x08 mem mem).pglFlds 7 31).s = some 0x800000 ∧
      (((s 0x08 mem mem).pglDev 7 31).getCore 31).readTrap ((s 0x08 mem mem).pglFlds 7 31).m1 = none) ∧
    (let e := pgl 0x06 47 32 33 mem 0 { ks with ecc := [(0x0000, 2)], k := [(1, 0x7FFFFF)] }
     let d := (e.begun 7).zldDue 31
     let f := e.pglFlds 7 31
     e.runsOp 7 31 0x06 = true ∧ isDest f.d = true ∧ memEn f.m1 = true ∧ memMode f.m1 ≠ 3 ∧ (d.getCore 31).memAddr f.m1 < 49152 ∧
     2 ≤ SMap.get 0 (d.getCore 31).ecc ((d.getCore 31).memAddr f.m1)) := by decide +kernel
theorem witness_PergolaAccumulatorsComplete :
    let s (op dd src : Nat) := pgl op dd src 33 0 0 ks
    let d := (s 0x18 49 32).pglDev 7 31
    let f := (s 0x18 49 32).pglFlds 7 31
    (d.srcS 31 f = .val 0x800000 ∧ d.srcT 31 f = .val 0x7FFFFF ∧ isAcc f.d = true ∧
      ([0x18, 0x19, 0x1A, 0x1C, 0x1E].all fun op => (s op 49 32).runsOp 7 31 op) = true) ∧
    ((s 0x1B 49 48).runsOp 7 31 0x1B = true ∧ isAcc ((s 0x1B 49 48).pglFlds 7 31).d = true ∧ isAcc ((s 0x1B 49 48).pglFlds 7 31).s = true) ∧
    ((s 0x1D 47 49).runsOp 7 31 0x1D = true ∧ ((s 0x1D 47 49).pglDev 7 31).srcT 31 ((s 0x1D 47 49).pglFlds 7 31) = .val 0x7FFFFF ∧
      isAcc ((s 0x1D 47 49).pglFlds 7 31).s = true ∧ isDest ((s 0x1D 47 49).pglFlds 7 31).d = true) ∧
    (s 0x1F 0 0).runsOp 7 31 0x1F = true := by decide +kernel
theorem witness_PergolaControlCompletes :
    let s (op dd t : Nat) := pgl op dd 0 t 0 0 ks
    let x := ((s 0x20 0 0).pglDev 7 31).getCore 31
    let loops := st (fun d => (coreAt ⟨0x30, 33, 0, 0, 0, 5⟩ ks d).setFld (pglPage 31) PGL_CTRL_MODE modeTest)
    ((s 0x20 0 0).runsOp 7 31 0x20 = true ∧ x.reps = [] ∧ (x.cond false false false 0).isSome = true) ∧
    ((s 0x21 0 0).runsOp 7 31 0x21 = true ∧ (s 0x22 0 0).runsOp 7 31 0x22 = true ∧ (s 0x23 47 0).runsOp 7 31 0x23 = true ∧
      32 ≤ ((s 0x23 47 0).pglFlds 7 31).d ∧ ((s 0x23 47 0).pglFlds 7 31).d < 48) ∧
    (loops.runsOp 7 31 0x30 = true ∧ (loops.pglFlds 7 31).d = 33 ∧ (loops.pglDev 7 31).coreMode 31 ≠ modeNormal ∧
      SMap.get 0 ((loops.pglDev 7 31).getCore 31).k (33 - 32) ≠ 0 ∧ ((loops.pglDev 7 31).getCore 31).reps = []) ∧
    (s 0x24 0 0).runsOp 7 31 0x24 = true ∧ (s 0x02 0 0).runsOp 7 31 0x02 = true ∧ (s 0x03 0 0).runsOp 7 31 0x03 = true ∧
    (pglOpcode ((s 0x3F 0 0).pglFlds 7 31).op = false ∧ (s 0x3F 0 0).runsOp 7 31 0x3F = true) := by decide +kernel
theorem witness_PergolaQueuesComplete :
    let e : PglEntry := ⟨[1, 2, 3, 4, 5, 6], none⟩
    let q : Core := { queue := [e] }
    let s (op dd : Nat) (x : Core) := pgl op dd 32 33 0 0 x
    let waits (op st_ : Nat) (x : Core) := st (fun d => (coreAt ⟨op, 0, 0, 0, 0, 0⟩ x d).setFld (pglPage 31) PGL_STATUS_STATE st_)
    let lsend := st (fun d => { coreAt ⟨0x2B, 0, 32, 0, 0, 0⟩ ks d with variant := .is })
    let zld := st (coreAt ⟨0, 0, 0, 0, 0, 0⟩ { zld := [⟨5, 1, false, 0⟩] })
    ((s 0x28 0 q).runsOp 7 31 0x28 = true ∧ ((s 0x28 0 q).pglDev 7 31).attached 31 = true ∧ (((s 0x28 0 q).pglDev 7 31).getCore 31).queue = [e] ∧
      (s 0x28 0 {}).runsOp 7 31 0x28 = true ∧ (((s 0x28 0 {}).pglDev 7 31).getCore 31).queue = []) ∧
    (let w := waits 0x28 pglInPop q
     let d := (w.begun 7).setCoreState 31 pglRunning
     (w.begun 7).coreState 31 = pglInPop ∧ ((w.begun 7).getCore 31).queue ≠ [] ∧ d.gated 7 = false ∧
      d.codeRangeBad 31 (d.fld (pglPage 31) PGL_PC_PC) = false ∧ (d.pglFront 31).op = 0x28 ∧ (d.zldDue 31).attached 31 = true ∧
      ((d.zldDue 31).getCore 31).queue = [e]) ∧
    ((s 0x29 0 ks).runsOp 7 31 0x29 = true ∧ (((s 0x29 0 ks).pglDev 7 31).getCore 31).out.length < 1024 ∧
      ((s 0x29 0 ks).pglDev 7 31).srcS 31 ((s 0x29 0 ks).pglFlds 7 31) = .val 0x800000) ∧
    (lsend.runsOp 7 31 0x2B = true ∧ (lsend.pglDev 7 31).safetyCore 31 = true ∧ (lsend.pglDev 7 31).srcS 31 (lsend.pglFlds 7 31) = .val 0x800000) ∧
    ((s 0x2C 47 ks).runsOp 7 31 0x2C = true ∧ isDest ((s 0x2C 47 ks).pglFlds 7 31).d = true ∧
      (((s 0x2C 47 ks).pglDev 7 31).getCore 31).zld.length ≤ 3) ∧
    ((s 0x2A 0 {}).runsOp 7 31 0x2A = true ∧
      (((s 0x2A 0 {}).pglDev 7 31).offerPayload 5 (((s 0x2A 0 {}).pglDev 7 31).outPayload 31 0)).2 = true) ∧
    (let w := waits 0x2A pglInSend {}
     let d := (w.begun 7).setCoreState 31 pglRunning
     (w.begun 7).coreState 31 = pglInSend ∧ ((w.begun 7).offerPayload 5 ((w.begun 7).outPayload 31 0)).2 = true ∧ (d.pglFront 31).op = 0x2A ∧
      ((d.zldDue 31).offerPayload 5 ((d.zldDue 31).outPayload 31 (d.pglFront 31).imm)).2 = true) ∧
    ((zld.begun 7).getCore 31).zld = [⟨5, 1, false, 0⟩] := by decide +kernel
theorem witness_PergolaInstructionsKeepTheRest :
    (State.reset.dev.getCore 31).access = [] ∧ pointerClash ⟨0x06, 47, 0, 0, 2048, 0⟩ [2048] = false ∧ pglPage 31 ≠ 0x93 := by decide +kernel
theorem witness_DivisionStepsDivide :
    2 ^ 24 - 1 < 2 ^ 24 ∧ 0 < (1 : W24).toNat ∧
    (let s := pgl 0x1E 48 32 0 0 0 ks
     s.runsOp 7 31 0x1E = true ∧ (s.pglDev 7 31).srcS 31 (s.pglFlds 7 31) = .val 0x800000 ∧ isAcc (s.pglFlds 7 31).d = true) := by decide +kernel
theorem witness_InstructionFieldsRoundTrip :
    let f : PglFields := ⟨63, 63, 63, 63, 4095, 4095⟩
    f.op < 64 ∧ f.d < 64 ∧ f.s < 64 ∧ f.t < 64 ∧ f.m1 < 4096 ∧ f.m2 < 4096 := by decide +kernel
theorem witness_CoreCommandsComplete :
    let l (c : Nat) : PglLoad := ⟨65535, 1, c, 0, 0, 0, [], (0, 0)⟩
    let loading (c : Nat) := st (fun d => { d with variant := .aq, pglLoads := [(3, some (l c))] })
    let run := st (coreAt ⟨1, 0, 0, 0, 0, 0⟩ {})
    let aq := st (fun d => { d with variant := .aq })
    (aq.writable 7 .control (pglPage 31) PGL_CTRL = true ∧ (aq.landed 7 (pglPage 31) PGL_CTRL).safetyCore 31 = false) ∧
    State.reset.writable 7 .control (pglTerrace 24) PGL_LOAD_CTRL = true ∧
    ((loading 0).up 7 = true ∧ SMap.get none ((loading 0).begun 7).pglLoads 3 = some (l 0) ∧ (l 0).code = 0 ∧
      (Dev.setFld { (loading 0).begun 7 with pglLoads := SMap.put none ((loading 0).begun 7).pglLoads 3 none } (pglTerrace 24)
        PGL_LOAD_STATUS_BUSY 0).isSafetyLoad 3 (l 0) = false ∧
      SMap.get none ((loading 5).begun 7).pglLoads 3 = some (l 5) ∧ (l 5).code ≠ 0) ∧
    (run.up 7 = true ∧ (run.begun 7).gated 7 = false ∧ ((run.begun 7).getCore 31).access = [] ∧ (run.begun 7).coreState 31 = pglRunning ∧
      (State.reset.begun 7).coreState 31 ≠ pglRunning ∧ ((State.reset.begun 7).getCore 31).access = []) ∧
    (0x7FFFC < 0x80000 ∧ 0x7FFFC % 4 = 0 ∧ (State.reset.begun 7).down 7 = false) := by decide +kernel
theorem witness_DmaCommandsComplete :
    let p := dmaPage 23
    let fetch (m : List Host.Cell) (n : Nat) : State := { st (fun d => (d.setFld p DMA_STATUS_STATE dmaFetch).setDma 23 { fetchTries := n }) with mem := m }
    let ds : DmaDesc := ⟨0, 0, 0, 16, true, 1, false, false, false, 0, 0, 0, 0, 0, 0, 0⟩
    let beat (e : Bool) : DmaBeat := ⟨1, ds, 0, 0, 0, 16, some [], 0, 0, e⟩
    let o : DmaOpen := ⟨1, 0, false, 0, true, 0⟩
    let resp (n : Nat) (e : Bool) := st (fun d => (d.setFld p DMA_STATUS_STATE n).setDma 23 { beats := [beat e], opens := [o] })
    let words (s : State) (i : Nat) : Word := memWord s.mem (((s.begun 7).getDma 23).fetchAt + 4 * i)
    let good := fetch [(8, 16), (12, 1)] 0
    State.reset.servedTo 7 .control = true ∧ (Dev.merged 0xAF DMA_COMMON_CTRL 0 (State.reset.begun 7)).on 0xAF DMA_COMMON_CTRL_EN = false ∧
    (good.up 7 = true ∧ (good.begun 7).dmaState 23 = dmaFetch ∧ ((good.begun 7).getDma 23).resetDue = false ∧
      ((good.begun 7).getDma 23).pwr = false ∧ ((good.begun 7).getDma 23).desc = none ∧ descReserved (words good) = false ∧
      (parseDesc 0 (words good)).ok = true ∧ descReserved (words (fetch [(28, 1)] 0)) = true ∧ ((good.begun 7).getDma 23).fetchTries < 3) ∧
    (3 ≤ (((fetch [] 3).begun 7).getDma 23).fetchTries ∧ ((fetch [] 3).begun 7).dmaState 23 = dmaFetch) ∧
    ((resp dmaRun false).up 7 = true ∧ (((resp dmaRun false).begun 7).getDma 23).beats = [beat false] ∧
      ((resp dmaDrain true).begun 7).dmaState 23 = dmaDrain ∧ ((resp dmaRun true).begun 7).dmaState 23 ≠ dmaDrain ∧
      (((resp dmaRun true).begun 7).getDma 23).pwr = false ∧ (beat true).desc.retry ≤ (beat true).tries ∧
      (((resp dmaRun true).begun 7).getDma 23).opens.find? (fun x => x.ord == (beat true).ord) = some o) := by decide +kernel
theorem witness_DmaBeatsCopyWhatTheyRead :
    let ds : DmaDesc := ⟨0, 0x7FFFF8, 0x7FFFFF, 1, true, 1, false, false, false, 0, 0, 0, 0, 0, 0, 0⟩
    let s := st (fun d => flag 0xAF DMA_COMMON_CTRL_EN (flag (dmaPage 23) DMA_CTRL_EN (d.setFld (dmaPage 23) DMA_STATUS_STATE dmaRun)) |>.setDma 23 { desc := some ds })
    s.up 7 = true ∧ (s.begun 7).dmaTurn = some 23 ∧ ((s.begun 7).getDma 23).desc = some ds ∧ ds.srcMode = 0 ∧ ds.dstMode = 0 ∧ ds.shuf = 0 ∧
    ((s.begun 7).getDma 23).moved < ds.count ∧ ds.count < 2 ^ 24 ∧ ds.src + ((s.begun 7).getDma 23).moved < 0x800000 ∧
    ds.dst + ((s.begun 7).getDma 23).moved < 0x800000 := by decide +kernel

/-! ### Safety -/

/-- Lodge operates: enabled, with its four pages locked. -/
def lodge (d : Dev) : Dev := [0xB0, 0xB1, 0xB2, 0xB3].foldl (fun d p => d.setReg p PAGE_LOCK 1) (flag 0xB0 LDG_CTRL_EN d)

/-- Lodge's state is this one, and the boot load has been made. -/
def ldg (l : Ldg) (d : Dev) : Dev := { lodge d with ldg := l, otp := { d.otp with loaded := true } }

theorem witness_ProtectiveFieldCommandsComplete :
    let x : LdgSlot := { num := 4, trigAt := 0, frame := 2, sector := some 511 }
    let slot := st (ldg { slots := [x] })
    let done := st (ldg { slots := [{ x with a := some (5, 0) }] })
    let core31 := st (ldg { cores := [(31, { outAt := some 0 })] })
    let active := st (ldg { active := some 31 })
    let prep := st (ldg { prep := some 31 })
    let cover : State := { st (ldg { active := some 0, pairs := [(1, { on := true })] }) with mem := [(4 * 32767, 5)] }
    (slot.up 7 = true ∧ (slot.begun 7).ldg.slots.find? (fun y => y.a.isNone && y.due == 0) = some x) ∧
    (x ∈ (slot.begun 104000001).ldg.slots ∧ x.trigAt + 104000000 < (slot.begun 104000001).now) ∧
    ({ x with a := some (5, 0) } ∈ (done.begun 40000006).ldg.slots ∧ 5 + 40000000 < (done.begun 40000006).now) ∧
    ((SMap.get {} (core31.begun 160000001).ldg.cores 31).outAt = some 0 ∧ 0 + 160000000 < (core31.begun 160000001).now) ∧
    (active.begun 7).ldg.active = some 31 ∧
    (((cover.begun 9000000000).ldgPair 1).on = true ∧ (cover.begun 9000000000).protectedCell cover.mem 32767 = true ∧
      (if SMap.get 0 (cover.begun 9000000000).ldg.lastEval 32767 = 0 then (cover.begun 9000000000).ldg.tookAt
        else SMap.get 0 (cover.begun 9000000000).ldg.lastEval 32767) + (cover.begun 9000000000).scanMax < (cover.begun 9000000000).now) ∧
    ((slot.begun 7).ldgOn = true ∧ (slot.begun 7).manualRestart = false) ∧ ((prep.begun 7).ldg.prep = some 31 ∧ (prep.begun 7).ldgOn = true) := by
  decide +kernel
theorem witness_SafetyPinCommandsComplete :
    let at_ (n : Nat) (l : Ldg) := st (fun d => { ldg l d with dtb := { d.dtb with dt := n } })
    let pulse := st (ldg { outs := [(3, { window := some 0, pulse := true })] })
    let high := st (fun d => (ldg {} d).setReg 0xB3 LDG_OSSD_STATUS 0x88)
    let tpo := st (ldg { tpo := [(3, some 0)] })
    let disc := st (ldg { pins := [(7, { disc := 500 })] })
    ((at_ 6000000000 {}).up 7 = true ∧ ((at_ 6000000000 {}).begun 7).ldgOn = true ∧
      ((at_ 6000000000 {}).begun 7).edgeTime % 8000000000 = 2000000000 * 3) ∧
    (((pulse.begun 24000000).ldgOut 3).window = some 0 ∧ 0 + 24000000 ≤ (pulse.begun 24000000).now) ∧
    ((pulse.begun 8000000).hasLodge = true ∧ ((pulse.begun 8000000).ldgOut 3).pulse = true ∧ ((pulse.begun 8000000).ldgOut 3).dueHigh = none ∧
      ((pulse.begun 8000000).ldgOut 3).dueLow = none ∧ (pulse.begun 8000000).now ≤ 0 + 8000000) ∧
    (((high.begun 7).ldgOut 3).pulse = false ∧ (high.begun 7).bit 0xB3 LDG_OSSD_STATUS (4 + 3) = true ∧
      ((high.begun 7).setFld 0xB3 ⟨LDG_OSSD_STATUS, 7, 7⟩ 0).ossdHigh 3 = true ∧
      (List.range 4).any (fun q => q != 3 && (((high.begun 7).setFld 0xB3 ⟨LDG_OSSD_STATUS, 7, 7⟩ 0).ldgOut q).pulse) = false) ∧
    ((at_ 480000000 {}).begun 7).edgeTime % 640000000 = 160000000 * 3 ∧
    (SMap.get none (tpo.begun 24000000).ldg.tpo 3 = some 0 ∧ 0 + 24000000 ≤ (tpo.begun 24000000).now) ∧
    ((at_ 80000000 {}).begun 7).edgeTime % 80000000 = 0 ∧
    ((disc.begun 7).ldgOn = true ∧ (disc.begun 7).discOf 7 ≤ (SMap.get {} (disc.begun 7).ldg.pins 7).disc) := by decide +kernel
theorem witness_SafetyNetworkCommandsComplete :
    let link (l : Ldg) := st (fun d => flag (lanePage 9) PRM_LANE_STATUS_FAR_ALIGNED (flag 0xB2 LDG_NET_CFG_EN (ldg l d)))
    let d := (link {}).begun 7
    let body : List Nat := [1, 0x20] ++ leBytes 2 (d.fld 0xB2 LDG_NET_CFG_CONN_ID) ++ leBytes 4 5 ++ [0x20] ++ List.replicate 23 0
    let frame : List Nat := ethFrame (d.macBytes LDG_OWN_MAC_LO) (d.macBytes LDG_PEER_MAC_LO) true (pduCopy true body)
    let bad : List Nat := ethFrame (d.macBytes LDG_OWN_MAC_LO) (d.macBytes LDG_PEER_MAC_LO) true (pduCopy false body)
    let raw (f : List Nat) : List Nat := (f.drop 14).take 36
    let ok (f : List Nat) : Prop := f.take 6 = d.macBytes LDG_OWN_MAC_LO ∧ (f.drop 12).take 2 = [0x88, 0xB6] ∧ 64 ≤ f.length ∧
      f.drop (f.length - 4) = leBytes 4 (crc32 (f.take (f.length - 4))).toNat
    let waiting (b : List Nat) := (link { rxA := [(0, b)] }).begun 7
    let other : List Nat := body.set 8 0x21
    let wd := st (fun e => flag 0xB0 LDG_STATUS_NET_OK (ldg { lastAccept := some 0 } e))
    (d.ldgOn = true ∧ d.on 0xB2 LDG_NET_CFG_EN = true ∧ d.edgeTime % 800000000 = 0 ∧ d.safetyLink true = true) ∧
    (ok frame ∧ d.copyOk true (raw frame) = true ∧ (raw frame).take 32 = body.map (fun x => 255 - x % 256)) ∧
    (ok bad ∧ d.copyOk true (raw bad) = false) ∧
    ((waiting body).ldg.rxA.find? (fun x => pduCounter x.2 == pduCounter body && decide ((waiting body).now ≤ x.1 + 1600000000)) = some (0, body) ∧
      (waiting other).ldg.rxA.find? (fun x => pduCounter x.2 == pduCounter body && decide ((waiting other).now ≤ x.1 + 1600000000))
        = some (0, other) ∧ other ≠ body ∧ d.ldg.rxA.find? (fun x => pduCounter x.2 == pduCounter body) = none) ∧
    ((wd.begun 80000000000).ldg.lastAccept = some 0 ∧ (wd.begun 80000000000).netOk = true ∧
      0 + 80000000 * max 20 ((wd.begun 80000000000).fld 0xB2 LDG_NET_CFG_WD_MS) < (wd.begun 80000000000).now) ∧
    (State.reset.servedTo 7 .control = true ∧ (State.reset.begun 7).hasLodge = true) := by decide +kernel
/-! ### Calibration, temperatures, OTP, security, debug -/

theorem witness_CalibrationAndTemperatureCommandsComplete :
    let en := st (fun d => { (flag 0x07 CAL_CTRL_AUTO (flag 0x07 CAL_CTRL_EN d)).setFld 0x07 CAL_SCHED_INTERVAL 1 with
      cal := { d.cal with startAt := some 0 }, otp := { d.otp with loaded := true } })
    let waits := st (fun d => { flag 0x07 CAL_CTRL_EN d with cal := { d.cal with waits := true } })
    let test (n : Nat) := st (fun d => { d.setFld 0x07 CAL_STATUS_STATE n with cal := { d.cal with bed := some 63, hits := 0, tlim := 1 } })
    let stale := st (fun d => { d with thmAt := [(13, 1)], otp := { d.otp with loaded := true } })
    State.reset.servedTo 7 .control = true ∧
    ((en.begun 20000000000).cal.bed = none ∧ (en.begun 20000000000).on 0x07 CAL_CTRL_EN = true ∧ (en.begun 20000000000).on 0x07 CAL_CTRL_AUTO = true ∧
      (en.begun 20000000000).cal.startAt = some 0 ∧
      0 + 800000000 * max 25 ((en.begun 20000000000).fld 0x07 CAL_SCHED_INTERVAL) ≤ (en.begun 20000000000).now) ∧
    ((waits.begun 7).cal.bed = none ∧ (waits.begun 7).cal.waits = true ∧ (waits.begun 7).on 0x07 CAL_CTRL_EN = true ∧ (waits.begun 7).calSpaced = true) ∧
    (((test 1).begun 7).cal.bed = some 63 ∧ ((test 1).begun 7).calState = 1 ∧ ((test 2).begun 7).calState = 2 ∧
      ((test 1).begun 7).cal.chans.all (fun k => decide (((test 1).begun 7).cal.hits ≤ SMap.get 0 ((test 1).begun 7).cal.total k)) = true) ∧
    (let ts (k : Nat) := st (fun d => (flag 0x06 (THM_TS_CFG_EN.plus 28) d).setFld 0x06 (THM_TS_CFG_TYPE.plus 28) k)
     (ts 0).up 7 = true ∧ ((ts 0).begun 7).tsEnabled 7 = true ∧ ((ts 0).begun 7).fld 0x06 (THM_TS_CFG_TYPE.plus 28) = 0 ∧
     (ts 1).up 7 = true ∧ ((ts 1).begun 7).tsEnabled 7 = true ∧ ((ts 1).begun 7).fld 0x06 (THM_TS_CFG_TYPE.plus 28) = 1) ∧
    ((State.reset.begun 7).tsEnabled 13 = true ∧ (stale.begun 1600000001).tsAge 13 = some 1600000001 ∧ stale.up 1600000001 = true) := by
  decide +kernel
theorem witness_OtpAndBootCommandsComplete :
    let job := st (fun d => { d with otp := { d.otp with job := some (1024 + 510, 5, false) } })
    let boot := st (fun d => { d with otp := { d.otp with loaded := true } })
    let runs := st (fun d => { d with sec := { d.sec with booting := true } })
    let kd := st (fun d => { d with sec := { d.sec with kd := some [1] } })
    let cool (d : Dev) : Dev := [8, 9, 10, 11, 12, 13].foldl (fun d n => { d.setFld 0x06 (THM_READ_VALID.plus (4 * n)) 1 with
      thmAt := SMap.put 0 d.thmAt n 1 }) d
    let open_ := st (fun d => { cool d with sec := { d.sec with att := some [1] } })
    let ready := st (fun d => inState stStandby (flag 0x04 SEC_STATUS_ID_READY d))
    let sign := st (fun d => { d with sec := { d.sec with att := some [1], block := some (511, 512) } })
    State.reset.servedTo 7 .management = true ∧
    (job.up 7 = true ∧ (job.begun 7).otp.job = some (1024 + 510, 5, false) ∧ (1024 + 510) % 512 ≠ 511) ∧
    (let d := Dev.merged 0x04 SEC_BOOT_CTRL 1 (boot.begun 7)
     d.devState = stBoot ∧ d.otp.loaded = true ∧ d.sec.booting = false ∧ d.on 0x54 GZB_SEQ_STATUS_KEY_OK = false) ∧
    (boot.begun 7).identityLost = false ∧
    (let d := Dev.merged 0x04 SEC_BOOT_CTRL 1 ((st (fun d => { d with otp := { d.otp with loaded := true, ecc := [(3327, 2)] } })).begun 7)
     d.devState = stBoot ∧ d.otp.loaded = true ∧ d.sec.booting = false ∧ d.on 0x54 GZB_SEQ_STATUS_KEY_OK = false ∧ d.identityLost = true) ∧
    (State.reset.servedTo 7 .jtag = false ∧ (State.reset.begun 7).otpErr ((State.reset.begun 7).fld 0x05 OTP_RD_ADDR_WORD) = 0) ∧
    (runs.up 7 = true ∧ (runs.begun 7).sec.booting = true) ∧
    ((kd.begun 7).sec.kd ≠ none ∧ (kd.begun 7).on 0x04 SEC_STATUS_ID_READY = false ∧ (kd.begun 7).on 0x04 SEC_STATUS_ID_BAD = false) ∧
    (let d := open_.begun 7
     d.sec.att ≠ none ∧ d.sec.block = none ∧ d.otp.job = none ∧ d.otpWindow = true ∧ d.on 0x05 OTP_STATUS_ABORTED = false ∧ d.nextBlock < 65536) ∧
    (let d := Dev.merged 0x04 SEC_ATT_CTRL 1 (ready.begun 7)
     d.on 0x04 SEC_ATT_STATUS_BUSY = false ∧
     (let e := d.setFld 0x04 SEC_ATT_STATUS_VALID 0
      e.on 0x04 SEC_STATUS_ID_BAD = false ∧ e.devState ≠ stReset ∧ e.devState ≠ stBoot ∧ e.on 0x04 SEC_STATUS_ID_READY = true)) ∧
    ((sign.begun 7).sec.att = some [1] ∧ (sign.begun 7).sec.block = some (511, 512)) := by decide +kernel
theorem witness_TokenCommandsComplete :
    State.reset.servedTo 7 .control = true ∧ (State.reset.begun 7).tokenOp [(4, 1)] = 1 ∧ (State.reset.begun 7).tokenOp [(4, 2)] = 2 ∧
    (State.reset.begun 7).tokenOp [(4, 3)] = 3 ∧ (State.reset.begun 7).tokenOp [(4, 4)] = 4 ∧ (State.reset.begun 7).tokenOp [] = 0 ∧
    4 < (State.reset.begun 7).tokenOp [(4, 5)] := by decide +kernel
theorem witness_TestAccessPortCompletes :
    let unlocked := st (fun d => d.setFld 0xB4 DBG_STATUS_UNLOCK 7)
    let scan := st (inState stScanning)
    (State.reset.begun 7).bit 0xB4 DBG_STATUS 0 = false ∧ (scan.begun 7).devState = stScanning ∧
    ((unlocked.begun 7).bit 0xB4 DBG_STATUS 0 = true ∧ ((unlocked.begun 7).tapLoad 0x10).awake = true ∧
      unlocked.servedTo 7 .jtag = true ∧ (unlocked.begun 7).bit 0xB4 DBG_STATUS 2 = true) ∧
    (State.reset.servedTo 7 .control = true ∧ (State.reset.begun 7).bit 0xB4 DBG_STATUS 2 = false) := by decide +kernel
theorem witness_RaisingSetsRawWhateverTheMask :
    31 < 32 ∧ (State.reset.dev.raise 0xB0 31).bit 0xB0 EVENT_RAW 31 = true := by decide +kernel
theorem witness_NoWriteLoosensALimit :
    let s := st (fun d => d.setRegN 0x85 (GTH_BUD_SCAN_SEG + 76) 5)
    4095 < 4096 ∧ s.servedTo 7 .jtag = false ∧ s.servedTo 7 .control = true ∧ 19 < 20 ∧
    (5 : Word).toNat ≤ (s.begun 7).regN 0x85 (GTH_BUD_SCAN_SEG + 76) ∧ (s.begun 7).regN 0x85 (GTH_BUD_SCAN_SEG + 76) < (6 : Word).toNat ∧
    (s.begun 7).regN 0x85 GTH_RELAX_REJECT < 2 ^ 32 - 1 := by decide +kernel

/-! ### Ill-formed terms: every check of WellFormed refuses one -/

theorem test_okTerrace_refuses : (Instr.blankLong 0 4 : Instr).wf = false := by decide
theorem test_okBed_refuses : (Instr.calTableCommit 0 .control 64 0 : Instr).wf = false := by decide
theorem test_okBank_refuses : (Instr.cellArm 0 8 : Instr).wf = false := by decide
theorem test_okChannel_refuses : (Instr.hopExecute 0 2048 : Instr).wf = false := by decide
theorem test_okCell_refuses : (Instr.cellAvalanche 0 131072 0 false : Instr).wf = false := by decide
theorem test_okRoute_refuses : (Instr.routeWrite 0 .control 0 64 0 : Instr).wf = false := by decide
theorem test_okSegment_refuses : (Instr.probeLate 0 64 : Instr).wf = false := by decide
theorem test_okLoop_refuses : (Instr.loopSampleTime 0 8 : Instr).wf = false := by decide
theorem test_okSar_refuses : (Instr.sarRoutineDue 0 4 : Instr).wf = false := by decide
theorem test_okModulator_refuses : (Instr.notchWindowEnd 0 2 : Instr).wf = false := by decide
theorem test_okCascade_refuses : (Instr.cscServicePoint 0 16 : Instr).wf = false := by decide
theorem test_okInput_refuses : (Instr.wireCheckStart 0 28 : Instr).wf = false := by decide
theorem test_okBridge_refuses : (Instr.excWrite 0 .control 4 0 : Instr).wf = false := by decide
theorem test_okUnit_refuses : (Instr.timeoutTrigger 0 4 : Instr).wf = false := by decide
theorem test_okLane_refuses : (Instr.cdrLock 0 10 : Instr).wf = false := by decide
theorem test_okLanePage_refuses : (Instr.pstateWrite 0 .control 11 0 : Instr).wf = false := by decide
theorem test_okDma_refuses : (Instr.dmaDescriptorFetch 0 24 : Instr).wf = false := by decide
theorem test_okCore_refuses : (Instr.pglNop 0 32 : Instr).wf = false := by decide
theorem test_okOutput_refuses : (Instr.ossdTestWindowStart 0 4 : Instr).wf = false := by decide
theorem test_okSin_refuses : (Instr.sinFilterChange 0 16 true : Instr).wf = false := by decide
theorem test_okSinPair_refuses : (Instr.sinDiscFault 0 8 : Instr).wf = false := by decide
theorem test_okFieldCell_refuses : (Instr.coverageExpiry 0 32768 : Instr).wf = false := by decide
theorem test_okMeasured_refuses : (Instr.thermalConversionDone 0 8 (.thermistor 10000) : Instr).wf = false := by decide
theorem test_okSensor_refuses : (Instr.readingStale 0 14 : Instr).wf = false := by decide
theorem test_okRail_refuses : (Instr.brownout 0 8 : Instr).wf = false := by decide
theorem test_okCounter_refuses : (Instr.eventCounterLoad 0 .control 16 0 : Instr).wf = false := by decide
theorem test_okPage_refuses : (Instr.pageLockSet 0 .control 0xB5 : Instr).wf = false := by decide
theorem test_okDynAddr_refuses : (Instr.setdasa 0 128 : Instr).wf = false := by decide
theorem test_okOtherRequest_refuses : (Instr.stateRequestOther 0 .control 3 : Instr).wf = false := by decide
theorem test_okOneWay_refuses : (Instr.gthBudgetWrite 0 .control 0x02C 0 : Instr).wf = false := by decide
theorem test_okAlias_refuses : (Instr.bitAliasWrite 0 .control 0x616A0000 0 : Instr).wf = false := by decide
theorem test_okReadWindow_refuses : (Instr.orgWindowAccess 0 0x14000000 ⟨true, none⟩ : Instr).wf = false := by decide
theorem test_okZoomWindow_refuses : (Instr.zoomWindowAccess 0 0x18208000 ⟨true, none⟩ : Instr).wf = false := by decide
theorem test_okCodeWindow_refuses : (Instr.codeWindowWrite 0 0x20A00000 0 : Instr).wf = false := by decide
theorem test_okFabric_refuses : (Instr.pglMemoryAccess 0 .jtag 0 0 none : Instr).wf = false := by decide
/-! ### Results the spec prints -/

/-- 00_scope.md, R2: the variant and the stepping. -/
theorem test_device_id :
    (State.reset.busRead .control 0x40000020).1 = 0x2048B002 := by decide +kernel
/-- 03_sundial_timing.md, a return from 200 m: N = 71 and N = 83. -/
theorem test_raw_codes : rawFine 71 = 56 ∧ rawFine 83 = 44 := by decide +kernel
/-- 02_meadow_trellis.md, hop times for a fast horizontal scan: an OR route goes on from 5 to 6, t_1 is 1.9099 µs. -/
theorem test_hops : hopRoute 5 true = some 6 ∧ hopTime 1 128 400 (5236 * 32) = 19099 := by decide +kernel
/-- 04_orangery_histograms.md, placing a 200 m return: bin 6,671 and, with OFFSET 100, bin 6,271. -/
theorem test_bin_of_200_m :
    let d := regsAre [] ((State.reset.dev.setFld 0x51 ORG_CTRL_BIN_W 1).setFld 0x51 ORG_GATE_BINS 7000)
    let e := (d.setFld 0x51 ORG_GATE_OFFSET 0).placeEntry 600 0 106740
    let f := (d.setFld 0x51 ORG_GATE_OFFSET 100).placeEntry 600 0 106740
    e.bin 600 0 6671 = 1 ∧ f.bin 600 0 6271 = 1 ∧ f.bin 600 0 6671 = 0 := by decide +kernel
/-- The same example: the zoom window of an echo at 106,737.4 LSB begins at 106,705. -/
theorem test_zoom_window : trackWindow (106737 * 256 + 102 + 1) = 2 ^ 31 + 106705 := by decide +kernel
/-- 05_gazebo_echoes.md, 200 m in 80 klux sun: 106,736.699 LSB are 199,993 mm, the coarse 106,751 LSB are 200,019.6 mm. -/
theorem test_ranges : rangeOf (106736 * 256 + 179) = 199993 ∧ rangeOf (106751 * 256) = 200020 := by decide +kernel
/-- 06_points_time.md, decoding one record. -/
theorem test_echo_record :
    Echo.record ⟨600, 0, true, 199993, 106736 * 256 + 179, 339, 14, 0x21, 421, false⟩ 1234567 =
    [0x58, 0x22, 0x39, 0x0D, 0x73, 0x21, 0x53, 0x01, 0x0E, 0x00, 0xA5, 0x01, 0xB3, 0xF0, 0xA0, 0x01] := by decide +kernel
/-- 08_bandstand_emitter.md, a 25 frames/s sawtooth scan: f = 176 at 95.0 °C. -/
theorem test_derating :
    let d := ((State.reset.dev.setFld 0x84 BND_THERM_LIM_T_DERATE 850).setFld 0x84 BND_DERATE_SLOPE 8).setFld 0x84 BND_DERATE_DERATE_MIN 64
    let d := (flag 0x06 THM_TS_CFG_EN d).setRegN 0x84 BND_THERM_MAP 0
    let d : Dev := { (flag 0x06 THM_READ_VALID d).setFld 0x06 THM_READ_T 950 with thmAt := [(0, d.now + 1)] }
    d.derate 0 = 176 := by decide +kernel
/-- 09_gatehouse.md, a mirror slowing mid-slot: 240.5 nJ. -/
theorem test_energy :
    let d := ((State.reset.dev.setFld 0x85 (GTH_EFF_SE.plus 108) 2500).setFld 0x85 (GTH_EFF_ITH.plus 108) 600)
    let d := (d.setFld 0x85 GTH_PRED_MARGIN 26).setFld 0x85 GTH_PRED_TAIL 5
    d.energy 27 51000 40 = 2405 := by decide +kernel
/-- 10_fountain_loops.md, tuning the sawtooth mirror loop: one update during the sweep. -/
theorem test_loop_update :
    let fs : List (Fld × Nat) := [(FTN_GAIN_PI_KP, 24576), (FTN_GAIN_PI_KI, 655), (FTN_GAIN_D_KD, 16384), (FTN_GAIN_D_DALPHA, 8192),
      (FTN_SHAPE_SH, 2), (FTN_SHAPE_ICLAMP, 24000), (FTN_OUT_LIM_OUT_MIN, 0), (FTN_OUT_LIM_OUT_MAX, 32767), (FTN_RAMP_RAMP_UP, 979),
      (FTN_RAMP_RAMP_DN, 8808), (FTN_SP_TARGET, 30146), (FTN_SP_RAMP_SP_R, 4095121), (FTN_PERIOD_PERIOD, 50), (FTN_ANG_ZERO_ZERO, 32768),
      (FTN_ANG_SCALE_SCALE, 24349), (FTN_OMEGA_CFG_OMEGA_ALPHA, 8192), (FTN_SP_LIM_SP_MIN, 0), (FTN_SP_LIM_SP_MAX, 32767),
      (FTN_STATE_STATE, 2), (FTN_RANGE_RNG_LO, 1000), (FTN_RANGE_RNG_HI, 31800), (FTN_DETECT_RNG_M, 2), (FTN_DETECT_FRZ_M, 200)]
    let s := st (fun d => (fs.foldl (fun d x => d.setFld 0x86 x.1 x.2) (inState stScanning d)).setLoop 0 { d.getLoop 0 with
      i := 130000000, df := 960, yPrev := 15986, omega := 1460, angle := some (-75615, 4), idx := 5,
      samples := [⟨5, 1, .code 31981 0, none⟩] })
    (match exec (.loopUpdate 7) s with
      | .next s' =>
        let x := s'.dev.getLoop 0
        (s'.dev.spR 0, x.df, x.i, x.acc, s'.dev.lf 0 FTN_OUT_U, x.dac) == (4096100, 976, 130006550, 130189846, 15892, 31784)
          && x.omega == 1475 && x.angle == some (-74855, 5)
      | _ => false) = true := by decide +kernel
/-- 12_cascade_filters.md, R272: halves round to the even integer. -/
theorem test_half_even :
    roundHalfEven17 (5 * 65536) = 2 ∧ roundHalfEven17 (7 * 65536) = 4 ∧ roundHalfEven17 (-5 * 65536) = -2 := by decide +kernel
/-- 15_dma.md, SAR results into a ring: 132 records. -/
theorem test_ring_used :
    let d := (State.reset.dev.setRegN 0x9B DMA_RING_CFG 0x1000).setFld 0x9B DMA_RD_PTR_PTR 0xF80
    (d.setDma 4 { d.getDma 4 with ringNext := 0x7C0 }).ringUsed 4 = 0x840 := by decide +kernel
/-- 19_security.md, a reservation across two bottom trees: block 2,047 opens at q = 1,048,064. -/
theorem test_reservation :
    let s := st (fun d => { d with
      otp := { d.otp with words := [(4159, 0x7FFFFFFF)] }
      sec := { d.sec with att := some [1] }
      thmAt := [(8, 1), (9, 1), (10, 1), (11, 1), (12, 1), (13, 1)]
      regs := ([8, 9, 10, 11, 12, 13].foldl (fun d n => d.setFld 0x06 (THM_READ_VALID.plus (4 * n)) 1) d).regs })
    (match exec (.reservationOpen 7) s with
      | .next s' => s'.dev.sec.block == some (1048064, 1048576)
          && s'.dev.otp.words.filter (fun x => x.1 == 4159) == [(4159, 0xFFFFFFFF)]
          && s'.dev.fld 0x04 SEC_ID_BLOCKS_FREE == 65536 - 2048
      | _ => false) = true := by decide +kernel
/-- 20_registers_events.md, the aggregated source of SDL_START_LOST of terrace 2. -/
theorem test_aggregated_source : eventSource 0x30 8 = some 53 := by decide +kernel
/-- 20_registers_events.md, a segment fault and a completion count, steps 4 and 5. -/
theorem test_segment_fault_event :
    let d := (State.reset.dev.setReg 0x84 EVENT_MASK 0xFFFFFFFE).raise 0x84 0
    d.summary 6 = 0x80 ∧ (d.evmSnapshot 0).drop 2 = [0x808400C7, 0] := by decide +kernel
/-- The same example, step 2: the alias word of BND.CTRL.EN. -/
theorem test_alias_enable :
    (match exec (.bitAliasWrite 7 .control 0x61060400 1) State.reset with
      | .next s' => s'.dev.on 0x83 BND_CTRL_EN && !State.reset.dev.on 0x83 BND_CTRL_EN
      | _ => false) = true := by decide +kernel
/-- 21_power_startup.md, a 1,536-row automotive scanner, step 5: GATE_ERR reads 0x13, group 3 is still gated. -/
theorem test_gate_refused_for_loop_5 :
    let s := st (fun d => { inState stArmed ((d.setFld 0x8B FTN_STATE_STATE 2).setFld 0x8B FTN_CTRL_EN 1) with variant := .aq })
    (match exec (.gateCtrlWrite 7 .control 0x808) s with
      | .next s' => s'.dev.reg 0x01 PWR_GATE_ERR == 0x13 && s'.dev.reg 0x01 PWR_GATE_CTRL == 0x800
          && s'.dev.pwr.switch == some (7, true, 7)
      | _ => false) = true := by decide +kernel
/-- 23_debug_test.md, R491: IDCODE. -/
theorem test_idcode :
    (match exec (.jtagIdcode 7) State.reset with | .next s' => s'.dev.jtag.capture == 0x120489CB | _ => false) = true := by decide +kernel
/-- 18_thermal_otp.md, R396: 10 kΩ with RES25 10 kΩ is 25.0 °C; 32,650 Ω at BETA 3,950 is 0.55 °C by hand; open and shorted thermistors. -/
theorem test_thermistor :
    let d := (State.reset.dev.setFld 0x06 (THM_TS_CFG_TYPE.plus 4) 1)
    thermistorTemp 10000000 10000000 3950 = some (250, true) ∧ thermistorTemp 32650000 10000000 3950 = some (5, false) ∧
    d.tsMeasured 1 (.thermistor 19999) = some (none, d) ∧ d.tsMeasured 1 (.thermistor 5000000001) = some (none, d) ∧
    d.tsMeasured 1 (.thermistor 10000000) = some (some 250, d) := by decide +kernel
/-- IEEE 802.3 Clause 36: D21.5 is 1010101010 at either disparity, D0.0 1001110100 and K27.7 1101101000 at negative disparity. -/
theorem test_code_groups :
    codeGroup false 0xB5 false = (0b1010101010, false) ∧ codeGroup false 0xB5 true = (0b1010101010, true) ∧
    (codeGroup false 0 false).1 = 0b1001110100 ∧ (codeGroup true 0xFB false).1 = 0b1101101000 := by decide +kernel
/-- 07_promenade_lanes.md, R154: the alignment marker of lane 5 with status 7. -/
theorem test_am_block : (Block.am 5 7).bytes = [0xAA, 0x05, 0x07, 0x5C, 0xC5, 0x3A, 0xA3, 0x96] := by decide
end Sys2Proof.Tests
end

section
/-! Detections in blanked periods: Meadow counts them and passes nothing on (02_meadow_trellis.md, R45). -/
namespace Sys2Proof.Machine

/-- Counting on a register leaves every timing channel's queues. -/
@[simp] theorem Dev.getChan_bump (d : Dev) (p off ch : Nat) : (d.bump p off).getChan ch = d.getChan ch := rfl

/-- The blanking check comes first of the checks of R54 on a detection inside an open gate: it ends the detection with the count. -/
theorem Dev.detection_of_blanked {d : Dev} {pix : Nat} {endLow : Bool} {g : GateSet} (raw : Nat)
    (hopen : (d.getBank (pix / 1024)).gateOpen = true) (hgate : (d.getBank (pix / 1024)).gate = some g)
    (hfrom : g.opens ≤ d.now) (hto : d.now < g.closes) (hblank : d.periodBlanked (terraceOfPixel pix) endLow = true) :
    d.detection pix raw endLow = d.bump (0x08 + terraceOfPixel pix) MDW_BLANK_DISCARD := by
  simp [Dev.detection, hopen, hgate, hfrom, hto, hblank]

/-- Settles O26: the detection is one count of MDW.BLANK_DISCARD, and a count leaves channels and histograms. -/
theorem blankedDetectionsAreDiscarded : Obligations.BlankedDetectionsAreDiscarded := by
  intro d pix raw endLow g hopen hgate hfrom hto hblank
  have hcount : d.detection pix raw endLow = d.bump (0x08 + pix / 2048) MDW_BLANK_DISCARD :=
    Dev.detection_of_blanked raw hopen hgate hfrom hto hblank
  refine ⟨hcount, fun ch => ?_, ?_⟩
  · rw [hcount, Dev.getChan_bump]
  · rw [hcount, Dev.bump_bins]

end Sys2Proof.Machine
end

section
/-! The arithmetic of DSTEP: steps of restoring division (14_pergola_dsp.md, R306). -/
namespace Sys2Proof.Machine

/-- Doubling frees bit 0, so the quotient bit set there never carries. -/
theorem dstep_toNat (a : W56) (b : W24) :
    (dstep a b).toNat =
      if b.toNat ≤ 2 * a.toNat % 2 ^ 56 / 2 ^ 24
      then (2 * a.toNat % 2 ^ 56 / 2 ^ 24 - b.toNat) * 2 ^ 24 + 2 * a.toNat % 2 ^ 56 % 2 ^ 24 + 1
      else 2 * a.toNat % 2 ^ 56 := by
  have ha := a.isLt
  unfold dstep
  dsimp only
  split
  · rw [BitVec.toNat_ofNat]; omega
  · rw [BitVec.toNat_ofNat]; omega

/-- One step on an accumulator whose double has the upper part `u` and the lower part `l`. -/
theorem dstep_toNat_of_double {a : W56} {u l : Nat} (b : W24) (ha : 2 * a.toNat = u * 2 ^ 24 + l) (hu : u < 2 ^ 32)
    (hl : l < 2 ^ 24) :
    (dstep a b).toNat = if b.toNat ≤ u then (u - b.toNat) * 2 ^ 24 + (l + 1) else u * 2 ^ 24 + l := by
  have hx : 2 * a.toNat % 2 ^ 56 = u * 2 ^ 24 + l := by omega
  have hhi : (u * 2 ^ 24 + l) / 2 ^ 24 = u := by omega
  have hlo : (u * 2 ^ 24 + l) % 2 ^ 24 = l := by omega
  rw [dstep_toNat, hx, hhi, hlo, Nat.add_assoc]

/-- The accumulator after j steps of dividing N by b: the quotient `q` and the remainder `r` of the j upper bits of N, with the bits
of N still to come between them. A divisor of 0 is subtracted every time, so each quotient bit is 1. -/
structure Dividing (n j : Nat) (b : W24) (a : W56) (q r : Nat) : Prop where
  acc : a.toNat = r * 2 ^ 24 + n % 2 ^ (24 - j) * 2 ^ j + q
  division : q * b.toNat + r = n / 2 ^ (24 - j)
  remainder : 0 < b.toNat → r < b.toNat
  quotient : q < 2 ^ j
  ones : b.toNat = 0 → q + 1 = 2 ^ j

/-- Before the first step the accumulator holds the dividend. -/
theorem Dividing.start {n : Nat} (b : W24) (hn : n < 2 ^ 24) : Dividing n 0 b (BitVec.ofNat 56 n) 0 0 where
  acc := by rw [BitVec.toNat_ofNat]; omega
  division := by omega
  remainder := id
  quotient := by decide
  ones := fun _ => rfl

/-- The double of the accumulator: the remainder takes the next bit of N. -/
theorem Dividing.double {n j q r : Nat} {b : W24} {a : W56} (h : Dividing n j b a q r) (hj : j < 24) :
    2 * a.toNat = (2 * r + n / 2 ^ (23 - j) % 2) * 2 ^ 24 + (n % 2 ^ (23 - j) * 2 ^ (j + 1) + 2 * q) ∧
    n % 2 ^ (23 - j) * 2 ^ (j + 1) + 2 * q + 1 < 2 ^ 24 := by
  obtain ⟨hacc, -, -, hq, -⟩ := h
  have hpow : 2 ^ (23 - j) * 2 ^ j = 2 ^ 23 := by rw [← Nat.pow_add]; congr 1; omega
  have hrest : n % 2 ^ (24 - j) = n % 2 ^ (23 - j) + 2 ^ (23 - j) * (n / 2 ^ (23 - j) % 2) := by
    rw [show 24 - j = 23 - j + 1 by omega, Nat.pow_succ, Nat.mod_mul]
  have hlow : (n % 2 ^ (23 - j) + 1) * 2 ^ j ≤ 2 ^ (23 - j) * 2 ^ j :=
    Nat.mul_le_mul_right _ (Nat.mod_lt _ (Nat.two_pow_pos _))
  have hbit : 2 ^ (23 - j) * (n / 2 ^ (23 - j) % 2) * 2 ^ j = n / 2 ^ (23 - j) % 2 * 2 ^ 23 := by
    rw [Nat.mul_right_comm, hpow, Nat.mul_comm]
  rw [hrest, Nat.add_mul, hbit] at hacc
  rw [hpow, Nat.add_mul] at hlow
  rw [Nat.pow_succ 2 j, ← Nat.mul_assoc]
  omega

/-- A step of DSTEP moves the division on by one bit of N. -/
theorem Dividing.step {n j q r : Nat} {b : W24} {a : W56} (hn : n < 2 ^ 24) (hj : j < 24) (h : Dividing n j b a q r) :
    ∃ q' r', Dividing n (j + 1) b (dstep a b) q' r' := by
  obtain ⟨hdouble, hlow⟩ := h.double hj
  obtain ⟨-, hdiv, hrem, hq, hones⟩ := h
  have hnext : n / 2 ^ (23 - j) = 2 * (n / 2 ^ (24 - j)) + n / 2 ^ (23 - j) % 2 := by
    rw [show 24 - j = 23 - j + 1 by omega, Nat.pow_succ, ← Nat.div_div_eq_div_mul]; omega
  have hsmall : n / 2 ^ (24 - j) < 2 ^ 24 := Nat.lt_of_le_of_lt (Nat.div_le_self _ _) hn
  have hstep := dstep_toNat_of_double b hdouble (by omega) (by omega)
  have hpow : 2 ^ (j + 1) = 2 * 2 ^ j := by rw [Nat.pow_succ, Nat.mul_comm]
  have hk : 24 - (j + 1) = 23 - j := by omega
  have hqb : 2 * q * b.toNat = 2 * (q * b.toNat) := Nat.mul_assoc _ _ _
  by_cases hsub : b.toNat ≤ 2 * r + n / 2 ^ (23 - j) % 2
  · rw [if_pos hsub] at hstep
    exact ⟨2 * q + 1, 2 * r + n / 2 ^ (23 - j) % 2 - b.toNat, {
      acc := by rw [hstep, hk]; omega
      division := by rw [hk, Nat.add_mul, hqb]; omega
      remainder := by omega
      quotient := by omega
      ones := by omega }⟩
  · rw [if_neg hsub] at hstep
    exact ⟨2 * q, 2 * r + n / 2 ^ (23 - j) % 2, {
      acc := by rw [hstep, hk]; omega
      division := by rw [hk, hqb]; omega
      remainder := by omega
      quotient := by omega
      ones := by omega }⟩

/-- The accumulator after j steps of DSTEP by b from the dividend n. -/
def dsteps (n j : Nat) (b : W24) : W56 := (List.range j).foldl (fun a _ => dstep a b) (BitVec.ofNat 56 n)

theorem dsteps_succ (n j : Nat) (b : W24) : dsteps n (j + 1) b = dstep (dsteps n j b) b := by
  simp only [dsteps, List.range_succ, List.foldl_append, List.foldl_cons, List.foldl_nil]

/-- The invariant holds after every number of steps up to 24. -/
theorem dividing_dsteps {n : Nat} (b : W24) (hn : n < 2 ^ 24) (j : Nat) (hj : j ≤ 24) :
    ∃ q r, Dividing n j b (dsteps n j b) q r := by
  induction j with
  | zero => exact ⟨0, 0, Dividing.start b hn⟩
  | succ j ih =>
    obtain ⟨q, r, h⟩ := ih (by omega)
    rw [dsteps_succ]
    exact h.step hn hj

/-- The low j bits of the accumulator are the quotient. -/
theorem Dividing.mod_eq {n j q r : Nat} {b : W24} {a : W56} (h : Dividing n j b a q r) (hj : j ≤ 24) : a.toNat % 2 ^ j = q := by
  have hpow : 2 ^ 24 = 2 ^ (24 - j) * 2 ^ j := by rw [← Nat.pow_add]; congr 1; omega
  rw [h.acc, hpow, ← Nat.mul_assoc, ← Nat.add_mul, Nat.mul_add_mod', Nat.mod_eq_of_lt h.quotient]

/-- The bits above 24 of the accumulator are the remainder, once all of N is in. -/
theorem Dividing.div_eq {n q r : Nat} {b : W24} {a : W56} (h : Dividing n 24 b a q r) (hn : n < 2 ^ 24) :
    a.toNat / 2 ^ 24 % 2 ^ 24 = r := by
  obtain ⟨hacc, hdiv, -, hq, -⟩ := h
  omega

theorem Dividing.eq_div_mod {n j q r : Nat} {b : W24} {a : W56} (h : Dividing n j b a q r) (hb : 0 < b.toNat) :
    q = n / 2 ^ (24 - j) / b.toNat ∧ r = n / 2 ^ (24 - j) % b.toNat := by
  have hdiv : r + b.toNat * q = n / 2 ^ (24 - j) := by rw [Nat.add_comm, Nat.mul_comm]; exact h.division
  exact ((Nat.div_mod_unique hb).2 ⟨hdiv, h.remainder hb⟩).imp Eq.symm Eq.symm

/-- By a divisor of 0 every quotient bit is 1 and the remainder is what has come of N. -/
theorem Dividing.eq_of_zero {n j q r : Nat} {a : W56} (h : Dividing n j 0 a q r) :
    q = 2 ^ j - 1 ∧ r = n / 2 ^ (24 - j) := by
  have hones : q + 1 = 2 ^ j := h.ones rfl
  have hdiv : q * 0 + r = n / 2 ^ (24 - j) := h.division
  omega

end Sys2Proof.Machine
end

section
/-! What follows an executed Pergola instruction leaves accumulators and overflow flags; what a step of a running core is
(14_pergola_dsp.md, R302, R308). -/
namespace Sys2Proof.Machine

/-- `e` has the accumulators of core k and its STATUS register, with the overflow flags in it, as `d` has them. -/
structure Dev.KeepsArith (k : Nat) (d e : Dev) : Prop where
  acc : ∀ c, (e.getCore k).readAcc c = (d.getCore k).readAcc c
  status : e.reg (pglPage k) PGL_STATUS = d.reg (pglPage k) PGL_STATUS

theorem Dev.KeepsArith.refl (k : Nat) (d : Dev) : d.KeepsArith k d := ⟨fun _ => rfl, rfl⟩

theorem Dev.KeepsArith.trans {k : Nat} {d e f : Dev} (h : Dev.KeepsArith k d e) (g : Dev.KeepsArith k e f) :
    Dev.KeepsArith k d f :=
  ⟨fun c => (g.acc c).trans (h.acc c), g.status.trans h.status⟩

/-- A change that leaves the cores and the register file. -/
theorem Dev.keepsArith_of_same (k : Nat) {d e : Dev} (hc : e.cores = d.cores)
    (hr : e.reg (pglPage k) PGL_STATUS = d.reg (pglPage k) PGL_STATUS) : Dev.KeepsArith k d e :=
  ⟨fun c => by simp only [Dev.getCore, hc], hr⟩

/-- A new record of the core with the old accumulators. -/
theorem Dev.keepsArith_setCore (k : Nat) (d : Dev) {x : Core} (hx : ∀ c, x.readAcc c = (d.getCore k).readAcc c) :
    Dev.KeepsArith k d (d.setCore k x) :=
  ⟨fun c => by rw [Dev.getCore_setCore, hx], rfl⟩

theorem Dev.keepsArith_setReg (k : Nat) (d : Dev) {off : Nat} (w : Word) (h : PGL_STATUS ≠ off) :
    Dev.KeepsArith k d (d.setReg (pglPage k) off w) :=
  Dev.keepsArith_of_same k rfl (Dev.reg_setReg_other d w (regKey_off h))

/-- STATUS of a core is none of the registers that raising an event changes. -/
theorem isStill_pglStatus {k : Nat} (hk : k < 32) : isStill (pglPage k) PGL_STATUS := by
  refine ⟨by decide, by decide, ?_, ?_, ?_⟩ <;> simp only [pglPage] <;> omega

theorem Dev.keepsArith_corrects {k : Nat} (hk : k < 32) (n : Nat) (d : Dev) : Dev.KeepsArith k d (d.corrects k n) := by
  have hcount (e : Dev) (m : Nat) : Dev.KeepsArith k e (e.bumpBy (pglPage k) PGL_ECC_CORR m) :=
    Dev.keepsArith_setReg k e _ (by decide)
  have hraise (e : Dev) : Dev.KeepsArith k e ((e.markSeen (pglPage k) PGL_ECC_CORR).raise (pglPage k) 4) :=
    Dev.keepsArith_of_same k (Dev.raise_cores _ _ _) (Dev.reg_raise_still _ _ _ (isStill_pglStatus hk))
  unfold Dev.corrects Dev.bumpFirst
  dsimp only
  split
  · exact .refl k d
  · split
    · exact (hcount d 1).trans (hcount _ _)
    · exact ((hcount d 1).trans (hraise _)).trans (hcount _ _)

theorem Dev.keepsArith_readCoreWord {k : Nat} (hk : k < 32) (w : Nat) (d : Dev) :
    Dev.KeepsArith k d (d.readCoreWord k w).2 := by
  unfold Dev.readCoreWord
  split
  · exact .refl k d
  · exact Dev.keepsArith_corrects hk 1 d
  · exact Dev.keepsArith_of_same k rfl rfl

theorem Dev.keepsArith_portAnswer (k : Nat) (ini : Initiator) (ws : List Word) (d : Dev) :
    Dev.KeepsArith k d (d.portAnswer ini ws) := by
  cases ini <;> exact Dev.keepsArith_of_same k rfl rfl

/-- An access to the core's data memory. -/
theorem Dev.keepsArith_accessDo {k : Nat} (hk : k < 32) (d : Dev) (a : PglAccess) : Dev.KeepsArith k d (d.accessDo k a) := by
  unfold Dev.accessDo
  split
  · exact Dev.keepsArith_setCore k d (fun _ => rfl)
  · exact (Dev.keepsArith_readCoreWord hk a.word d).trans (Dev.keepsArith_portAnswer k _ _ _)

theorem Dev.keepsArith_accesses {k : Nat} (hk : k < 32) (l : List PglAccess) (d : Dev) :
    Dev.KeepsArith k d (l.foldl (Dev.accessDo k) d) := by
  induction l generalizing d with
  | nil => exact .refl k d
  | cons a l ih => exact (Dev.keepsArith_accessDo hk d a).trans (ih _)

theorem Dev.keepsArith_accessServe {k : Nat} (hk : k < 32) (n : Nat) (d : Dev) :
    Dev.KeepsArith k d (d.accessServe k n) := by
  refine .trans ?_ (Dev.keepsArith_accesses hk _ _)
  exact Dev.keepsArith_setCore k d (fun _ => rfl)

theorem Dev.keepsArith_accessStep {k : Nat} (hk : k < 32) (used : Nat) (d : Dev) :
    Dev.KeepsArith k d (d.accessStep k used) := by
  unfold Dev.accessStep
  dsimp only
  split
  · exact .refl k d
  · split
    · exact Dev.keepsArith_accessServe hk _ d
    · split
      · exact Dev.keepsArith_setCore k d (fun _ => rfl)
      · exact (Dev.keepsArith_setReg k d _ (by decide)).trans (Dev.keepsArith_accessServe hk 2 _)

theorem Dev.keepsArith_executed {k : Nat} (hk : k < 32) (used : Nat) (d : Dev) :
    Dev.KeepsArith k d (d.executed k used) := by
  refine .trans ?_ (Dev.keepsArith_accessStep hk used _)
  refine .trans ?_ (Dev.keepsArith_setReg k _ _ (by decide))
  exact Dev.keepsArith_setCore k d (fun _ => rfl)

theorem Dev.keepsArith_setPc (k : Nat) (x : Nat × List (Nat × Nat × Nat)) (d : Dev) : Dev.KeepsArith k d (d.setPc k x) := by
  refine .trans ?_ (Dev.keepsArith_setReg k _ _ (by decide))
  exact Dev.keepsArith_setCore k d (fun _ => rfl)

/-- What follows an instruction (its counts, the waiting accesses, the next address) leaves accumulators and flags. -/
theorem Dev.keepsArith_pglAfter {k : Nat} (hk : k < 32) (pc : Nat) (ms : List Nat) (d : Dev) :
    Dev.KeepsArith k d (d.pglAfter k pc ms) :=
  (Dev.keepsArith_executed hk _ d).trans (Dev.keepsArith_setPc k _ _)

/-! ### Accumulators -/

theorem Core.readAcc_writeAcc_self (x : Core) {c : Nat} (a : W56) : (x.writeAcc c a).readAcc c = a := by
  unfold Core.readAcc Core.writeAcc
  split <;> rfl

/-! ### A step of a running core -/

theorem State.runsOp_iff {s : State} {t k op : Nat} : s.runsOp t k op = true ↔
    s.up t = true ∧ k < 32 ∧ (s.begun t).coreState k = pglRunning ∧ (s.begun t).gated (4 + k / 8) = false ∧
    (s.begun t).codeRangeBad k ((s.begun t).fld (pglPage k) PGL_PC_PC) = false ∧ (s.pglFlds t k).op = op := by
  simp only [State.runsOp, State.pglFlds, Bool.and_eq_true, decide_eq_true_eq, beq_iff_eq, Bool.not_eq_eq_eq_not, Bool.not_true,
    and_assoc]

/-- An instruction of a running core that answers `next` is followed by the next address. -/
theorem State.pglStep_next {s : State} {t k op : Nat} {used : PglFields → List Nat} {run : PglFields → Dev → PglRes} {e : Dev}
    (h : s.runsOp t k op = true) (hrun : run (s.pglFlds t k) (s.pglDev t k) = .next e) :
    (s.begun t).pglStep k op used run = e.pglAfter k ((s.begun t).fld (pglPage k) PGL_PC_PC) (used (s.pglFlds t k)) := by
  obtain ⟨-, hk, hstate, hgated, hrange, hop⟩ := State.runsOp_iff.1 h
  simp only [State.pglFlds, Dev.pglFront, State.pglDev] at hop hrun ⊢
  simp only [Dev.pglStep, Dev.pglStepIf, hstate, hgated, hrange, hop, hrun, show ¬ 32 ≤ k by omega, decide_false, bne_self_eq_false,
    Bool.or_self, Bool.not_true, beq_self_eq_true, Bool.false_eq_true, if_false]
  rfl

/-- A command that steps a running core acts. -/
theorem State.cmd_runsOp {s : State} {t k op : Nat} (h : s.runsOp t k op = true) (f : Dev → Dev) :
    s.cmd t (okCore k) f = .next (s.put (f (s.begun t))) := by
  obtain ⟨hup, hk, -⟩ := State.runsOp_iff.1 h
  rw [show okCore k = true from decide_eq_true hk]
  exact State.cmd_up hup f

/-- The device after DSTEP itself, before the counts and the next address: the field M1 post-incremented, then one step put into D. -/
def Dev.dstepped (k : Nat) (f : PglFields) (a : W24) (d : Dev) : Dev :=
  d.setCore k (((d.getCore k).posts [f.m1]).writeAcc f.d (dstep ((d.getCore k).readAcc f.d) a))

/-- DSTEP with readable S and an accumulator as D. -/
theorem exec_pglDstep {s : State} {t k : Nat} {a : W24} (h : s.runsOp t k 0x1E = true)
    (hs : (s.pglDev t k).srcS k (s.pglFlds t k) = .val a) (hd : isAcc (s.pglFlds t k).d = true) :
    exec (.pglDstep t k) s = .next (s.put (Dev.pglAfter k ((s.begun t).fld (pglPage k) PGL_PC_PC) [(s.pglFlds t k).m1]
      ((s.pglDev t k).dstepped k (s.pglFlds t k) a))) := by
  have hexec : exec (.pglDstep t k) s = s.cmd t (okCore k) (fun d => d.pglDstep k) := rfl
  rw [hexec, State.cmd_runsOp h, Dev.pglDstep,
    State.pglStep_next (e := (s.pglDev t k).dstepped k (s.pglFlds t k) a) h (by simp only [hs, hd, if_true, Dev.dstepped]), useM1]

end Sys2Proof.Machine
end

section
/-! Steps of DSTEP divide (14_pergola_dsp.md, R306). -/
namespace Sys2Proof.Machine

/-- The 24 steps leave the quotient in bits 23 to 0 and the remainder in bits 47 to 24. -/
theorem dsteps_24 {n : Nat} (b : W24) (hn : n < 2 ^ 24) :
    (0 < b.toNat → (dsteps n 24 b).toNat % 2 ^ 24 = n / b.toNat ∧ (dsteps n 24 b).toNat / 2 ^ 24 % 2 ^ 24 = n % b.toNat) ∧
    (b = 0 → (dsteps n 24 b).toNat % 2 ^ 24 = 0xFFFFFF ∧ (dsteps n 24 b).toNat / 2 ^ 24 % 2 ^ 24 = n) := by
  obtain ⟨q, r, h⟩ := dividing_dsteps b hn 24 (Nat.le_refl 24)
  have hlow := h.mod_eq (Nat.le_refl 24)
  have hhigh : (dsteps n 24 b).toNat / 2 ^ 24 % 2 ^ 24 = r := h.div_eq hn
  rw [hlow, hhigh]
  constructor
  · intro hb
    simpa only [Nat.sub_self, Nat.pow_zero, Nat.div_one] using h.eq_div_mod hb
  · rintro rfl
    simpa only [Nat.sub_self, Nat.pow_zero, Nat.div_one, Nat.reducePow, Nat.reduceSub] using h.eq_of_zero

/-- An executed DSTEP: one step into the accumulator, and both overflow flags stay. -/
theorem exec_pglDstep_arith {s : State} {t k : Nat} {a : W24} (h : s.runsOp t k 0x1E = true)
    (hs : (s.pglDev t k).srcS k (s.pglFlds t k) = .val a) (hd : isAcc (s.pglFlds t k).d = true) :
    ∃ s', exec (.pglDstep t k) s = .next s' ∧
      (s'.dev.getCore k).readAcc (s.pglFlds t k).d = dstep (((s.pglDev t k).getCore k).readAcc (s.pglFlds t k).d) a ∧
      s'.dev.reg (pglPage k) PGL_STATUS = (s.pglDev t k).reg (pglPage k) PGL_STATUS := by
  obtain ⟨-, hk, -⟩ := State.runsOp_iff.1 h
  have hafter := Dev.keepsArith_pglAfter hk ((s.begun t).fld (pglPage k) PGL_PC_PC) [(s.pglFlds t k).m1]
    ((s.pglDev t k).dstepped k (s.pglFlds t k) a)
  refine ⟨_, exec_pglDstep h hs hd, ?_, hafter.status⟩
  rw [State.put_dev, hafter.acc, Dev.dstepped, Dev.getCore_setCore, Core.readAcc_writeAcc_self]

/-- Settles O47: the j upper bits of N, divided, are what j steps leave (`Dividing`), and nothing that follows an instruction touches
accumulators or flags. -/
theorem divisionStepsDivide : Obligations.DivisionStepsDivide := by
  refine ⟨dstep_toNat, fun n j b hn hj hb => ?_, fun n b hn => dsteps_24 b hn, fun s t k a hrun hs hd => ?_⟩
  · obtain ⟨q, r, h⟩ := dividing_dsteps b hn j hj
    exact (h.mod_eq hj).trans (h.eq_div_mod hb).1
  · obtain ⟨s', hexec, hacc, hstatus⟩ := exec_pglDstep_arith hrun hs hd
    exact ⟨s', hexec, hacc, congrArg (bitsOf · 8 8) hstatus, congrArg (bitsOf · 9 9) hstatus⟩

end Sys2Proof.Machine
end

section
/-! Rails out of their windows: the safe state and the brown-out reset (21_power_startup.md, R456). -/
namespace Sys2Proof.Machine

/-- A rail of Table 21-1 out of its window. -/
theorem Dev.supplyOut_of_rail {r : Nat} (hr : r < 8) (d : Dev) :
    d.supplyOut r =
      let d : Dev := { d with pwr := { d.pwr with railAt := d.now } }
      let d := (((d.setBit 0x01 PWR_SUPPLY_FLAG r).setFld 0x01 PWR_STATUS_SUPPLY_OK 0).bump 0x01 PWR_SUPPLY_CNT).raise 0x01 3
      if d.devState = stArmed ∨ d.devState = stScanning then d.enterState stSafeHold else d := by
  simp only [Dev.supplyOut, Nat.not_le.2 hr, if_false, Bool.or_eq_true, beq_iff_eq]

/-- Config.ms 1 is 80,000,000 LSB. -/
theorem Dev.supplyRestored_of_inside {d : Dev} (h : d.pwr.railAt + 80000000 ≤ d.now) :
    d.supplyRestored = d.setFld 0x01 PWR_STATUS_SUPPLY_OK 1 := if_pos h

theorem hasBrownout_iff {r : Nat} : hasBrownout r = true ↔ r = 0 ∨ r = 1 ∨ r = 6 := by
  simp only [hasBrownout, Bool.or_eq_true, beq_iff_eq, or_assoc]

theorem okRail_of_hasBrownout {r : Nat} (h : hasBrownout r = true) : okRail r = true := by
  have hr := hasBrownout_iff.1 h
  exact decide_eq_true (by omega)

/-! ### Entering RESET -/

/-- The writes that follow the one of DEV.STATE are of other registers. -/
theorem Dev.inReset_devState (cause : Nat) (power : Bool) (d : Dev) : (d.inReset cause power).devState = stReset := by
  simp only [Dev.inReset, Dev.devState]
  iterate 4 rw [Dev.fld_setFld_other _ _ _ _ _ _ (by decide)]
  split
  · exact Dev.fld_setFld_self _ _ _ _ (by decide) (by decide)
  · rw [Dev.fld_setReg_other _ _ _ _ _ _ (by decide)]
    exact Dev.fld_setFld_self _ _ _ _ (by decide) (by decide)

/-- The cause is the last write of a reset. -/
theorem Dev.inReset_cause {cause : Nat} (hc : cause < 16) (power : Bool) (d : Dev) :
    (d.inReset cause power).fld 0x01 PWR_RESET_CAUSE_CAUSE = cause := by
  have hlast : (d.inReset cause power).fld 0x01 PWR_RESET_CAUSE_CAUSE = cause % 16 :=
    Dev.fld_setFld_self _ _ PWR_RESET_CAUSE_CAUSE _ (by decide) (by decide)
  rw [hlast, Nat.mod_eq_of_lt hc]

/-- A cause that was not in force, on a device out of RESET, resets it. -/
theorem Dev.causeBegin_awake {d : Dev} {b : Nat} (hup : d.awake = true) (hb : bitAt d.pwr.causes b = false) (cause : Nat) :
    d.causeBegin b cause = Dev.inReset cause false { d with pwr := { d.pwr with causes := withBit d.pwr.causes b } } := by
  have hout : d.devState ≠ stReset := bne_iff_ne.1 hup
  rw [Dev.causeBegin, hb, if_neg Bool.false_ne_true, Dev.resetBegin, if_neg]
  exact fun h => hout (beq_iff_eq.1 h)

/-! ### The commands -/

theorem exec_supplyOutOfWindow {r : Nat} (hr : okRail r = true) (s : State) (t : Nat) :
    exec (.supplyOutOfWindow t r) s = .next (s.put ((s.begun t).supplyOut r)) := by
  have hexec : exec (.supplyOutOfWindow t r) s = s.always t (fun d => if okRail r then d.supplyOut r else d) := rfl
  rw [hexec, State.always_eq, if_pos hr]

theorem exec_supplyRestored (s : State) (t : Nat) :
    exec (.supplyRestored t) s = .next (s.put (s.begun t).supplyRestored) := rfl

/-- A brown-out that was not in force, on a device out of RESET. -/
theorem exec_brownout {s : State} {t r : Nat} (hup : s.up t = true) (hr : hasBrownout r = true)
    (hb : bitAt (s.begun t).pwr.causes (8 + r) = false) :
    exec (.brownout t r) s = .next (s.put (Dev.inReset 4 false { s.begun t with
      pwr := { (s.begun t).pwr with causes := withBit (s.begun t).pwr.causes (8 + r) } })) := by
  have hexec : exec (.brownout t r) s = s.always t (fun d => if okRail r then d.brownout r else d) := rfl
  rw [hexec, State.always_eq, if_pos (okRail_of_hasBrownout hr), Dev.brownout, if_pos hr, Dev.causeBegin_awake hup hb]

/-- Settles O17: each command acts on the device as the rule of its supply says, and a reset ends with the state RESET and the cause. -/
theorem railOutOfWindowSafesTheDevice : Obligations.RailOutOfWindowSafesTheDevice := by
  refine ⟨fun s t r hr => ?_, fun s t hinside => ?_, fun s t r hup hr hb => ?_⟩
  · rw [exec_supplyOutOfWindow (decide_eq_true hr), Dev.supplyOut_of_rail hr]
  · rw [exec_supplyRestored, Dev.supplyRestored_of_inside hinside]
  · exact ⟨_, exec_brownout hup (hasBrownout_iff.2 hr) hb, Dev.inReset_devState 4 false _, Dev.inReset_cause (by decide) false _⟩

end Sys2Proof.Machine
end

section
/-! The instructions of the test access port and the debug read of the pattern buffers (23_debug_test.md, R490 to R498). -/
namespace Sys2Proof.Machine

/-! ### The test access port -/

@[simp] theorem Dev.tapCapture_jtag_capture (v : Nat) (d : Dev) : (d.tapCapture v).jtag.capture = v := rfl

/-- A code that names no instruction acts as BYPASS, DBG_ACCESS only while it is locked. -/
theorem Dev.actsBypass_of_undefined {code : Nat} {d : Dev} (hcode : code < 256) (hundef : code = 0 ∨ 7 < code)
    (hlock : code ≠ tapAccess ∨ d.bit 0xB4 DBG_STATUS 0 = false) : d.actsBypass code = true := by
  have hnamed : (1 ≤ code && code ≤ 7) = false := by simp only [Bool.and_eq_false_iff, decide_eq_false_iff_not]; omega
  simpa [Dev.actsBypass, hcode, hnamed] using hlock

theorem Dev.tapBypassed_of_ne {code : Nat} (h : code ≠ tapAccess) (d : Dev) :
    d.tapBypassed code = (d.tapLoad tapBypass).tapCapture 0 := if_neg (mt beq_iff_eq.1 h)

theorem Dev.tapBypassed_access (d : Dev) :
    d.tapBypassed tapAccess = ((d.tapLoad tapBypass).tapCapture 0).bump 0xB4 DBG_LOCKED_CNT := rfl

/-- An instruction that drives the pins takes an ARMED or SCANNING device to SAFE_HOLD; the write of DBG.STATUS leaves DEV.STATE. -/
theorem Dev.tapLoad_of_drives {code : Nat} {d : Dev} (hlo : 3 ≤ code) (hhi : code ≤ 7)
    (hstate : d.devState = stArmed ∨ d.devState = stScanning) :
    d.tapLoad code =
      (Dev.setFld { d with jtag := { d.jtag with ir := code } } 0xB4 DBG_STATUS_TAP_RESET 0).enterState stSafeHold := by
  have hkept : (Dev.setFld { d with jtag := { d.jtag with ir := code } } 0xB4 DBG_STATUS_TAP_RESET 0).devState = d.devState :=
    Dev.fld_setFld_other _ _ _ _ _ _ (by decide)
  refine if_pos ?_
  simp [Dev.boundary, hkept, hlo, hhi, hstate]

/-! ### DBG_ACCESS -/

theorem State.dbgAccess_locked {s : State} (h : s.dev.bit 0xB4 DBG_STATUS 0 = false) (a : Nat) (w : Option Word) :
    s.dbgAccess a w = s.put (s.dev.tapBypassed tapAccess) := by
  rw [State.dbgAccess, h]
  rfl

/-- Unlocked and out of RESET it is a write of the fourth initiator. -/
theorem State.dbgAccess_write {s : State} (h : s.dev.bit 0xB4 DBG_STATUS 0 = true) (hup : (s.dev.tapLoad tapAccess).awake = true)
    (a : Nat) (w : Word) :
    s.dbgAccess a (some w) = (s.put (s.dev.tapLoad tapAccess)).busWrite .jtag (a % 2 ^ 32) w := by
  simp only [State.dbgAccess, h, hup, Bool.not_true, Bool.false_eq_true, if_false]
  rfl

/-- Unlocked and out of RESET it is a read of the fourth initiator, whose word is captured in the upper 32 bits. -/
theorem State.dbgAccess_read {s : State} (h : s.dev.bit 0xB4 DBG_STATUS 0 = true) (hup : (s.dev.tapLoad tapAccess).awake = true)
    (a : Nat) :
    s.dbgAccess a none =
      let r := (s.put (s.dev.tapLoad tapAccess)).busRead .jtag (a % 2 ^ 32)
      r.2.put ((r.2.dev.deliver2 .jtag [r.1]).tapCapture (r.1.toNat * 2 ^ 32)) := by
  simp only [State.dbgAccess, h, hup, Bool.not_true, Bool.false_eq_true, if_false]
  rfl

/-! ### DBG.MEM_DATA -/

/-- A port's read of one register, an aligned address of the register pages. -/
theorem State.portRead_reg {s : State} {ini : Initiator} {a p off : Nat} (h : s.dev.reaches ini = true)
    (ha : placeOf ini a = .reg p off) (hlt : a < 2 ^ 32) :
    s.portRead ini 1 a = s.put ((s.dev.pageRead ini p off).2.deliver2 ini [(s.dev.pageRead ini p off).1]) := by
  simp only [State.portRead, h, if_true, Dev.runningWords, ha, State.readWords, State.busRead, Nat.mod_eq_of_lt hlt, State.placeRead]
  rfl

theorem placeOf_dbgMemData (ini : Initiator) : placeOf ini (regAddr 0xB4 DBG_MEM_DATA) = .reg 0xB4 DBG_MEM_DATA := by
  cases ini <;> decide

/-- The page of debug access is never dead, and MEM_DATA is formed when it is read. -/
theorem Dev.pageRead_dbgMemData (ini : Initiator) (d : Dev) : d.pageRead ini 0xB4 DBG_MEM_DATA = d.dbgRead := by
  have halive : d.dead 0xB4 DBG_MEM_DATA = false := Dev.dead_low d (by decide)
  rw [Dev.pageRead, halive]
  rfl

theorem Dev.dbgRead_unlocked {d : Dev} (h : d.bit 0xB4 DBG_STATUS 2 = true) :
    d.dbgRead = (d.patternWord (d.regN 0xB4 DBG_MEM_ADDR), d.setRegN 0xB4 DBG_MEM_ADDR (d.regN 0xB4 DBG_MEM_ADDR + 4)) := if_pos h

theorem Dev.dbgRead_locked {d : Dev} (h : d.bit 0xB4 DBG_STATUS 2 = false) : d.dbgRead = (0, d) := by
  rw [Dev.dbgRead, h]
  rfl

/-! ### The commands -/

theorem exec_tapReset (s : State) (t : Nat) : exec (.tapReset t) s = .next (s.put (s.begun t).tapReset) := rfl

theorem exec_jtagIdcode (s : State) (t : Nat) :
    exec (.jtagIdcode t) s = .next (s.put (((s.begun t).tapLoad tapIdcode).tapCapture idcode)) := rfl

theorem exec_jtagClamp (s : State) (t : Nat) :
    exec (.jtagClamp t) s = .next (s.put (((s.begun t).tapLoad tapClamp).tapCapture 0)) := rfl

theorem exec_jtagHighz (s : State) (t : Nat) :
    exec (.jtagHighz t) s = .next (s.put (((s.begun t).tapLoad tapHighz).tapCapture 0)) := rfl

theorem exec_jtagSamplePreload (s : State) (t pins latches : Nat) :
    exec (.jtagSamplePreload t pins latches) s = .next (s.put (((s.begun t).tapLoad tapSample).tapBoundary pins latches)) := rfl

theorem exec_jtagExtest (s : State) (t pins latches : Nat) :
    exec (.jtagExtest t pins latches) s = .next (s.put (((s.begun t).tapLoad tapExtest).tapBoundary pins latches)) := rfl

theorem exec_jtagExtestPulse (s : State) (t pins latches : Nat) :
    exec (.jtagExtestPulse t pins latches) s = .next (s.put (((s.begun t).tapLoad tapPulse).tapBoundary pins latches)) := rfl

theorem exec_jtagExtestTrain (s : State) (t pins latches : Nat) :
    exec (.jtagExtestTrain t pins latches) s = .next (s.put (((s.begun t).tapLoad tapTrain).tapBoundary pins latches)) := rfl

/-- BYPASS and every undefined code, DBG_ACCESS among them while it is locked. -/
theorem exec_jtagBypass {s : State} {t code : Nat} (h : (s.begun t).actsBypass code = true) :
    exec (.jtagBypass t code) s = .next (s.put ((s.begun t).tapBypassed code)) := by
  have hexec : exec (.jtagBypass t code) s = s.always t (fun d => if d.actsBypass code then d.tapBypassed code else d) := rfl
  rw [hexec, State.always_eq, if_pos h]

theorem exec_jtagDbgAccess (s : State) (t a : Nat) (w : Option Word) :
    exec (.jtagDbgAccess t a w) s = .next ((s.ready t).dbgAccess a w) := rfl

/-- DBG_MEM_READ hands its initiator the word of `Dev.dbgRead`. -/
theorem exec_dbgMemRead {s : State} {t : Nat} {ini : Initiator} (h : s.servedTo t ini = true) :
    exec (.dbgMemRead t ini) s = .next (s.put ((s.begun t).dbgRead.2.deliver2 ini [(s.begun t).dbgRead.1])) := by
  have hexec : exec (.dbgMemRead t ini) s = s.cmdS t true (fun s => s.portRead ini 1 (regAddr 0xB4 DBG_MEM_DATA)) := rfl
  have hreach : (s.ready t).dev.reaches ini = true := by
    simp only [State.servedTo, Bool.and_eq_true] at h
    exact h.2
  rw [hexec, State.cmdS_up (State.servedTo_up h), State.portRead_reg hreach (placeOf_dbgMemData ini) (by decide),
    Dev.pageRead_dbgMemData]
  rfl

/-- IDCODE captures stepping 1, part 0x2048, manufacturer 0x4E5 and the bit 0 that is 1 (R491). -/
theorem exec_jtagIdcode_fields (s : State) (t : Nat) :
    ∃ e : Dev, exec (.jtagIdcode t) s = .next (s.put e) ∧ e.jtag.capture / 2 ^ 28 = 0x1 ∧ e.jtag.capture / 2 ^ 12 % 2 ^ 16 = 0x2048 ∧
      e.jtag.capture / 2 % 2 ^ 11 = 0x4E5 ∧ e.jtag.capture % 2 = 1 := by
  refine ⟨_, exec_jtagIdcode s t, ?_⟩
  rw [Dev.tapCapture_jtag_capture]
  decide

/-- Settles O58: each instruction loads and captures as its row says, DBG_ACCESS and DBG.MEM_DATA by the lock that guards them. -/
theorem testAccessPortCompletes : Obligations.TestAccessPortCompletes := by
  refine ⟨fun s t => ?_, fun s t code hcode hundef => ⟨fun hne => ?_, ?_⟩, fun s t pins latches => ?_,
    fun s t code hlo hhi hstate => Dev.tapLoad_of_drives hlo hhi hstate, fun s t a w hopen hup => ⟨?_, ?_⟩, fun s t a w hlocked => ?_,
    fun s t ini hserved => ⟨fun hopen => ?_, fun hlocked => ?_⟩⟩
  · exact ⟨exec_tapReset s t, exec_jtagIdcode s t, exec_jtagIdcode_fields s t, exec_jtagClamp s t, exec_jtagHighz s t⟩
  · rw [exec_jtagBypass (Dev.actsBypass_of_undefined hcode hundef (.inl hne)), Dev.tapBypassed_of_ne hne]
  · rintro rfl hlocked
    rw [exec_jtagBypass (Dev.actsBypass_of_undefined hcode hundef (.inr hlocked)), Dev.tapBypassed_access]
  · intro loaded
    have hloaded (code : Nat) : loaded code = ((s.begun t).tapLoad code).tapBoundary pins latches := rfl
    simp only [hloaded]
    exact ⟨exec_jtagSamplePreload s t pins latches, exec_jtagExtest s t pins latches, exec_jtagExtestPulse s t pins latches,
      exec_jtagExtestTrain s t pins latches⟩
  · exact congrArg Host.Outcome.next (State.dbgAccess_write (s := s.ready t) hopen hup a w)
  · exact congrArg Host.Outcome.next (State.dbgAccess_read (s := s.ready t) hopen hup a)
  · exact congrArg Host.Outcome.next (State.dbgAccess_locked (s := s.ready t) hlocked a w)
  · rw [exec_dbgMemRead hserved, Dev.dbgRead_unlocked hopen]
  · rw [exec_dbgMemRead hserved, Dev.dbgRead_locked hlocked]

end Sys2Proof.Machine
end

section
/-! What every command does to the queue and to shared SRAM, said once over the shapes of command (01_architecture.md, 20_registers_events.md,
R435 to R437). -/
namespace Sys2Proof.Machine

/-! ### Changes of the state -/

/-- `s'` has the queue of `s`, and its shared SRAM in the canonical form if `s` has. -/
structure State.Stores (s s' : State) : Prop where
  pending : s'.pending = s.pending
  canonical : Memory.wf s.mem = true → Memory.wf s'.mem = true

/-- `s'` has the queue and the shared SRAM of `s`. -/
structure State.Keeps (s s' : State) : Prop where
  pending : s'.pending = s.pending
  mem : s'.mem = s.mem

theorem State.Keeps.stores {s s' : State} (h : s.Keeps s') : s.Stores s' := ⟨h.pending, fun hw => h.mem ▸ hw⟩
theorem State.Keeps.refl (s : State) : s.Keeps s := ⟨rfl, rfl⟩
theorem State.Stores.refl (s : State) : s.Stores s := (State.Keeps.refl s).stores
theorem State.Keeps.trans {a b c : State} (h : a.Keeps b) (g : b.Keeps c) : a.Keeps c :=
  ⟨g.pending.trans h.pending, g.mem.trans h.mem⟩
theorem State.Stores.trans {a b c : State} (h : a.Stores b) (g : b.Stores c) : a.Stores c :=
  ⟨g.pending.trans h.pending, fun hw => g.canonical (h.canonical hw)⟩

/-- A change of the device alone. -/
theorem State.keeps_dev (s : State) (d : Dev) : s.Keeps { s with dev := d } := ⟨rfl, rfl⟩

/-- A store to shared SRAM, and a change of the device. -/
theorem State.stores_mem {s : State} {m : Mem} (d : Dev) (h : Memory.wf s.mem = true → Memory.wf m = true) :
    s.Stores { s with mem := m, dev := d } := ⟨rfl, h⟩

/-! ### The fabric -/

/-- What leads to shared SRAM is an address below 8 MiB of an initiator other than the management port (Table 20-1). -/
theorem placeOf_sram {ini : Initiator} {a b : Nat} (h : placeOf ini a = .sram b) : b = a ∧ a < 0x800000 ∧ ini ≠ .management := by
  unfold placeOf at h
  split at h
  · cases h
  · split at h
    · split at h
      · next hlow hini =>
        cases h
        exact ⟨rfl, hlow, bne_iff_ne.1 hini⟩
      · cases h
    · dsimp only at h
      repeat' split at h
      all_goals cases h

theorem State.keeps_placeRead (ini : Initiator) (x : Place) (s : State) : s.Keeps (s.placeRead ini x).2 := by
  cases x <;> unfold State.placeRead <;> dsimp only <;> repeat' split
  all_goals exact ⟨rfl, rfl⟩

theorem State.keeps_readWords (ini : Initiator) (n : Nat) : ∀ (a : Nat) (s : State), s.Keeps (s.readWords ini n a).2 := by
  induction n with
  | zero => exact fun _ s => .refl s
  | succ n ih => exact fun a s => (s.keeps_placeRead ini _).trans (ih _ _)

/-- A write that leads to no byte of shared SRAM is a change of the device. -/
theorem State.keeps_placeWrite {ini : Initiator} {x : Place} (hx : ∀ a, x ≠ .sram a) (w : Word) (s : State) :
    s.Keeps (s.placeWrite ini x w) := by
  cases x <;> unfold State.placeWrite <;> dsimp only
  case sram a => exact absurd rfl (hx a)
  all_goals repeat' split
  all_goals exact ⟨rfl, rfl⟩

theorem State.stores_placeWrite (ini : Initiator) (x : Place) (w : Word) (s : State) : s.Stores (s.placeWrite ini x w) := by
  by_cases hx : ∃ a, x = .sram a
  · obtain ⟨a, rfl⟩ := hx
    exact State.stores_mem s.dev (memWf_putWord _ _ _)
  · exact (s.keeps_placeWrite (fun a h => hx ⟨a, h⟩) w).stores

theorem State.stores_writeWords (ini : Initiator) (ws : List Word) : ∀ (a : Nat) (s : State), s.Stores (s.writeWords ini ws a) := by
  induction ws with
  | nil => exact fun _ s => .refl s
  | cons w ws ih =>
    intro a s
    have hw : s.Stores (s.busWrite ini (a % 2 ^ 32) w) := s.stores_placeWrite ini _ w
    unfold State.writeWords
    dsimp only
    split
    · exact hw.trans (ih _ _)
    · exact hw

/-- The management port does not reach shared SRAM (R436). -/
theorem State.keeps_writeWords_management (ws : List Word) :
    ∀ (a : Nat) (s : State), s.Keeps (s.writeWords .management ws a) := by
  induction ws with
  | nil => exact fun _ s => .refl s
  | cons w ws ih =>
    intro a s
    have hw : s.Keeps (s.busWrite .management (a % 2 ^ 32) w) :=
      s.keeps_placeWrite (fun b hb => (placeOf_sram hb).2.2 rfl) w
    unfold State.writeWords
    dsimp only
    split
    · exact hw.trans (ih _ _)
    · exact hw

/-! ### Ports -/

theorem State.keeps_portRead (ini : Initiator) (n a : Nat) (s : State) : s.Keeps (s.portRead ini n a) := by
  unfold State.portRead
  split
  · split
    · exact s.keeps_dev _
    · exact (s.keeps_readWords ini n a).trans (State.keeps_dev _ _)
  · exact .refl s

theorem State.stores_portWrites (ini : Initiator) (ws : List Word) (a : Nat) (s : State) : s.Stores (s.portWrites ini ws a) := by
  unfold State.portWrites
  split
  · exact s.stores_writeWords ini ws a
  · exact .refl s

theorem State.keeps_portWrites_management (ws : List Word) (a : Nat) (s : State) : s.Keeps (s.portWrites .management ws a) := by
  unfold State.portWrites
  split
  · exact s.keeps_writeWords_management ws a
  · exact .refl s

/-- A port's write of one word, past shared SRAM. -/
theorem State.keeps_portWrites_high {ini : Initiator} {a : Nat} (hlo : 0x800000 ≤ a) (hhi : a < 2 ^ 32) (w : Word) (s : State) :
    s.Keeps (s.portWrites ini [w] a) := by
  have hw : s.Keeps (s.busWrite ini (a % 2 ^ 32) w) := by
    refine s.keeps_placeWrite (fun b hb => ?_) w
    have hlow := (placeOf_sram hb).2.1
    rw [Nat.mod_eq_of_lt hhi] at hlow
    omega
  unfold State.portWrites State.writeWords
  dsimp only
  split
  · split
    · exact hw
    · exact hw
  · exact .refl s

theorem State.keeps_portWrite (ini : Initiator) (p off : Nat) (w : Word) (s : State) : s.Keeps (s.portWrite ini p off w) := by
  unfold State.portWrite
  split
  · exact s.keeps_placeWrite (fun _ h => Place.noConfusion h) w
  · exact .refl s

theorem State.keeps_tokenRow (ops : Nat → Bool) (ini : Initiator) (s : State) : s.Keeps (s.tokenRow ops ini) := by
  unfold State.tokenRow
  split
  · exact s.keeps_portWrite _ _ _ _
  · exact .refl s

theorem State.keeps_halfRead (a : Nat) (s : State) : s.Keeps (s.halfRead a).2 := by
  unfold State.halfRead
  dsimp only
  generalize (if a % 2 == 0 then placeOf .control (a - a % 4) else .none) = x
  split
  · exact .refl s
  · split <;> exact s.keeps_dev _

theorem State.keeps_halfWrite (a v : Nat) (s : State) : s.Keeps (s.halfWrite a v) := by
  unfold State.halfWrite
  dsimp only
  generalize (if a % 2 == 0 then placeOf .control (a - a % 4) else .none) = x
  split
  · exact .refl s
  · split
    case h_3 => exact .refl s
    all_goals exact s.keeps_dev _

theorem State.keeps_windowAccess {a : Nat} (hlo : 0x800000 ≤ a) (hhi : a < 2 ^ 32) (wide : Bool) (w : Option Word) (s : State) :
    s.Keeps (s.windowAccess a wide w) := by
  cases w <;> cases wide
  · exact (s.keeps_halfRead a).trans (State.keeps_dev _ _)
  · exact s.keeps_portRead _ _ _
  · exact s.keeps_halfWrite _ _
  · exact s.keeps_portWrites_high hlo hhi _

theorem State.stores_windowAccess (a : Nat) (wide : Bool) (w : Option Word) (s : State) : s.Stores (s.windowAccess a wide w) := by
  cases w <;> cases wide
  · exact ((s.keeps_halfRead a).trans (State.keeps_dev _ _)).stores
  · exact (s.keeps_portRead _ _ _).stores
  · exact (s.keeps_halfWrite _ _).stores
  · exact s.stores_portWrites _ _ _

/-! ### Stores that are no port's -/

theorem memWf_foldl {α : Type} {f : Mem → α → Mem} (hf : ∀ m x, Memory.wf m = true → Memory.wf (f m x) = true) (l : List α) :
    ∀ m : Mem, Memory.wf m = true → Memory.wf (l.foldl f m) = true := by
  induction l with
  | nil => exact fun _ h => h
  | cons x l ih => exact fun m h => ih _ (hf m x h)

theorem State.stores_blvCopy (im : List Nat) (s : State) : s.Stores (s.blvCopy im) := by
  unfold State.blvCopy
  dsimp only
  split
  · exact State.stores_mem _ (memWf_putBytes _ _ _)
  · exact (s.keeps_dev _).stores

theorem State.stores_blvDumpDone (s : State) : s.Stores s.blvDumpDone := by
  unfold State.blvDumpDone
  dsimp only
  generalize (if bitAt s.dev.blv.dest 0 then s.dev.offerPayload 4 s.dev.blvImage else (s.dev, true)) = x
  obtain ⟨d, sent⟩ := x
  dsimp only
  split
  · exact .refl s
  · split
    · exact (s.keeps_dev d).stores
    · split
      · exact ((s.keeps_dev d).stores.trans (State.stores_blvCopy _ _)).trans (State.keeps_dev _ _).stores
      · exact (s.keeps_dev _).stores

theorem State.keeps_dmaRead (a n : Nat) (s : State) : s.Keeps (s.dmaRead a n).2 := by
  unfold State.dmaRead
  split
  · exact .refl s
  · split
    · exact .refl s
    · exact s.keeps_readWords .dma _ a

theorem State.stores_dmaPut (b : DmaBeat) (bytes : List Nat) (s : State) : s.Stores (s.dmaPut b bytes).1 := by
  unfold State.dmaPut
  split
  · exact State.stores_mem _ (memWf_foldl (fun m _ => memWf_putByte m _ _) _ _)
  · split
    · exact State.stores_mem _ (memWf_foldl (fun m _ => memWf_putWord m _ _) _ _)
    · split
      · exact .refl s
      · split
        · exact State.stores_mem _ (memWf_putBytes _ _ _)
        · exact s.stores_writeWords .dma _ _

theorem State.stores_dmaTry (b : DmaBeat) (s : State) : s.Stores (State.dmaTry b s).2 := by
  unfold State.dmaTry
  cases b.data with
  | some bytes => exact s.stores_dmaPut b bytes
  | none =>
    have hread := (s.keeps_dmaRead b.src b.n).stores
    dsimp only
    generalize s.dmaRead b.src b.n = r at hread ⊢
    obtain ⟨bytes, s'⟩ := r
    cases bytes with
    | none => exact hread
    | some bytes => exact hread.trans (s'.stores_dmaPut b bytes)

theorem State.stores_dmaIssue (c : Nat) (ds : DmaDesc) (s : State) : s.Stores (State.dmaIssue c ds s) := by
  have htry : ∀ (b : DmaBeat) (d : Dev), s.Stores (State.dmaTry b { s with dev := d }).2 := fun b d =>
    (s.keeps_dev d).stores.trans (State.stores_dmaTry b _)
  unfold State.dmaIssue
  extract_lets d x src dst n ring d₁
  split
  · exact (s.keeps_dev _).stores
  · generalize (if ds.srcMode == 2 then d₁.dmaRecord c n else (none, d₁)) = r
    obtain ⟨bytes, d₂⟩ := r
    dsimp only
    generalize hy : State.dmaTry _ _ = y
    have hs : s.Stores y.2 := hy ▸ htry _ _
    split
    · exact hs
    · exact hs.trans (State.keeps_dev _ _).stores

theorem State.stores_dmaBeat (s : State) : s.Stores s.dmaBeat := by
  unfold State.dmaBeat
  split
  · exact .refl s
  · split
    · exact .refl s
    · exact (s.keeps_dev _).stores.trans (State.stores_dmaIssue _ _ _)

theorem State.stores_dmaBeatFails (c : Nat) (s : State) : s.Stores (s.dmaBeatFails c) := by
  unfold State.dmaBeatFails
  dsimp only
  split
  · exact .refl s
  · split
    · exact (s.keeps_dev _).stores
    · split
      · exact (s.keeps_dev _).stores
      · split
        · exact ((s.keeps_dev _).stores.trans (State.stores_dmaTry _ _)).trans (State.keeps_dev _ _).stores
        · exact (s.keeps_dev _).stores

theorem State.stores_dmaError (c : Nat) (fetch : Bool) (s : State) : s.Stores (s.dmaError c fetch) := by
  unfold State.dmaError
  split
  · exact .refl s
  · split
    · exact (s.keeps_dev _).stores
    · exact s.stores_dmaBeatFails c

theorem State.stores_dbgAccess (a : Nat) (w : Option Word) (s : State) : s.Stores (s.dbgAccess a w) := by
  unfold State.dbgAccess
  dsimp only
  have hload : s.Stores { s with dev := s.dev.tapLoad tapAccess } := (s.keeps_dev _).stores
  split
  · exact (s.keeps_dev _).stores
  · split
    · exact hload
    · split
      · exact hload.trans (State.stores_placeWrite _ _ _ _)
      · exact (hload.trans (State.keeps_placeRead _ _ _).stores).trans (State.keeps_dev _ _).stores

end Sys2Proof.Machine

namespace Sys2Proof
open Machine

/-! ### Every command -/

/-- A command acts: its operands stand for something, and the device is out of RESET unless the command acts there too. -/
def Instr.acts (c : Instr) (s : State) : Bool := c.wf && (c.actsInReset || s.up c.time)

/-- What command `c` leaves of `s` is `s'`. -/
structure Instr.Leaves (c : Instr) (s s' : State) : Prop where
  exec_eq : exec c s = .next s'
  idle : c.acts s = false → s' = s.ready c.time
  stores : (s.ready c.time).Stores s'
  keeps : c.storesSram = false → (s.ready c.time).Keeps s'

section
variable {c : Instr} {s : State} {t : Nat} {ok : Bool} (ht : c.time = t) (hok : c.wf = ok)
include ht hok

/-- A command that acts in every state, on the device. -/
theorem Instr.leaves_always {f : Dev → Dev} (hexec : exec c s = s.always t f) (hreset : c.actsInReset = true)
    (hidle : ok = false → f (s.begun t) = s.begun t) : ∃ s', c.Leaves s s' := by
  subst ht hok
  refine ⟨_, hexec.trans (State.always_eq _ _ _), fun h => ?_, ((s.ready c.time).keeps_dev _).stores,
    fun _ => (s.ready c.time).keeps_dev _⟩
  rw [hidle (by simpa [Instr.acts, hreset] using h)]
  rfl

/-- A command on the device and shared SRAM, out of RESET. -/
theorem Instr.leaves_cmdS {f : State → State} (hexec : exec c s = s.cmdS t ok f) (hreset : c.actsInReset = false)
    (hstores : ∀ s : State, s.Stores (f s)) (hkeeps : ok = true → c.storesSram = false → ∀ s : State, s.Keeps (f s)) :
    ∃ s', c.Leaves s s' := by
  subst ht hok
  have hacts : c.acts s = (c.wf && s.up c.time) := by simp [Instr.acts, hreset]
  by_cases h : (c.wf && s.up c.time) = true
  · obtain ⟨hwf, hup⟩ := Bool.and_eq_true_iff.1 h
    rw [hwf, State.cmdS_up hup] at hexec
    exact ⟨_, hexec, fun hidle => absurd (hacts ▸ hidle) (by simp [hwf, hup]), hstores _, fun hs => hkeeps hwf hs _⟩
  · rw [State.cmdS_down (by simpa using h)] at hexec
    exact ⟨_, hexec, fun _ => rfl, .refl _, fun _ => .refl _⟩

/-- A command on the device, out of RESET. -/
theorem Instr.leaves_cmd {f : Dev → Dev} (hexec : exec c s = s.cmd t ok f) (hreset : c.actsInReset = false) :
    ∃ s', c.Leaves s s' := by
  refine Instr.leaves_cmdS ht hok (f := fun s => { s with dev := f s.dev }) (hexec.trans ?_) hreset
    (fun s => (s.keeps_dev _).stores) (fun _ _ s => s.keeps_dev _)
  simp only [State.cmd, State.always, State.cmdS]
  split <;> rfl

/-- A command on the device that reads shared SRAM. -/
theorem Instr.leaves_cmdM {f : Mem → Dev → Dev} (hexec : exec c s = s.cmdM t ok f) (hreset : c.actsInReset = false) :
    ∃ s', c.Leaves s s' := Instr.leaves_cmd ht hok (f := f s.mem) hexec hreset

/-- A register write of an initiator. -/
theorem Instr.leaves_row {ini : Initiator} {p off : Nat} {w : Word} (hexec : exec c s = s.rowWrite t ok ini p off w)
    (hreset : c.actsInReset = false) : ∃ s', c.Leaves s s' :=
  Instr.leaves_cmdS ht hok hexec hreset (fun s => (s.keeps_portWrite _ _ _ _).stores) (fun _ _ s => s.keeps_portWrite _ _ _ _)

end

/-! Every window lies past shared SRAM (Table 20-1). -/

theorem okAlias_range {a : Nat} (h : okAlias a = true) : 0x800000 ≤ a ∧ a < 2 ^ 32 := by
  simp only [okAlias, Bool.and_eq_true, decide_eq_true_eq] at h
  omega

theorem okCodeWindow_range {a : Nat} (h : okCodeWindow a = true) : 0x800000 ≤ a ∧ a < 2 ^ 32 := by
  simp only [okCodeWindow, Bool.and_eq_true, decide_eq_true_eq] at h
  omega

theorem okReadWindow_range {a : Nat} (h : okReadWindow a = true) : 0x800000 ≤ a ∧ a < 2 ^ 32 := by
  simp only [okReadWindow, Bool.and_eq_true, decide_eq_true_eq] at h
  omega

theorem okZoomWindow_range {a : Nat} (h : okZoomWindow a = true) : 0x800000 ≤ a ∧ a < 2 ^ 32 := by
  simp only [okZoomWindow, Bool.and_eq_true, decide_eq_true_eq] at h
  omega

/-- Every command answers a next state, which is what it leaves. -/
theorem exec_leaves (c : Instr) (s : State) : ∃ s', c.Leaves s s' := by
  cases c with
  | xspiReadStatus | xspiSoftwareReset | xspiBadCommand | setdasa | entdaa | mbxSnapshot | domainSwitchTimeout |
    syncTimeFrameSend | syncInEdge | syncTimeFrameReceive | syncEventFrameReceive | syncFrameMissed | deviceTimeSaturate |
    cellArm | cellAvalanche | timestampRelease | histogramIncrement | blankLong | hopExecute | startPulse | startWindowClose |
    scaleLoopReference | ditherSequenceDone | shotStart | bankFire | rangeGateOpen | rangeGateClose | gthVerdictPass | gthStale
    | gthScanReturn | gthChargeCheck | syncSwap | probeFire | probeLate | loopSampleTime | loopUpdate | pwmPeriodStart |
    sarConversionDone | sarRoutineDue | sincOutput | notchWindowEnd | clampConduction | wireCheckStart | wireCheckDone |
    cscServicePoint | cscOutputRelease | timeoutTrigger | blvTimeoutEnd | blvMaskTestDone | scanWord | channelExtraction |
    slotMarkerDelivery | slotHeaderCommit | packetSend | markerSend | amColumnSend | cdrLock | blockLockAcquire |
    invalidHeaderReceive | amBlockReceive | amLockLoss | losAssert | losClear | lossOfLock | xoffReceive | xonReceive | xoffLong
    | prbsBitError | sgmiiControlWord | dmaWriteResponse | verdictLatencyExpiry | channelBTimeout | outputMessageTimeout |
    ossdTestWindowStart | tpoPulseStart | lodgeKind3Entry | fsOverlapEnd | statusPduSend | commandPairTimeout | calAutoStart |
    calRunEnd | thermalConversionDone | readingStale | otpProgramDone | reservationOpen | attestationDone | pglLoadDone |
    pglMemoryAccess | pglNop | pglHalt | pglTrap | pglMov | pglLdi | pglLd | pglSt | pglLdst | pglGett | pglAdd | pglSub |
    pglAnd | pglOr | pglXor | pglShl | pglShr | pglCmp | pglMax | pglMin | pglAbs | pglMpy | pglMac | pglMsu | pglAadd | pglLda
    | pglSta | pglDstep | pglClrf | pglBr | pglCall | pglRet | pglLbr | pglAdv | pglPop | pglPopResume | pglPusho | pglSend |
    pglSendResume | pglZld | pglZldWriteback | pglBrpt | pglIllegalOpcode | idReady | bedTestStart | unknownControlBlock =>
    exact Instr.leaves_cmd rfl rfl rfl rfl
  | xspiWriteEnable => exact Instr.leaves_cmd (f := fun d => d) rfl rfl rfl rfl
  | rstdaa =>
    exact Instr.leaves_cmd (f := fun d => (d.setFld 0x00 DEV_PORT_STATUS_I3C 0).setFld 0x00 DEV_PORT_STATUS_DYN_ADDR 0) rfl rfl rfl rfl
  | emitEnStable => exact Instr.leaves_cmd (f := fun d => d) rfl rfl rfl rfl
  | domainGated => exact Instr.leaves_cmdM (f := fun m d => d.domainGated m) rfl rfl rfl rfl
  | domainRestored => exact Instr.leaves_cmdM (f := fun m d => d.domainRestored m) rfl rfl rfl rfl
  | slotTrigger _ rbMissing rb => exact Instr.leaves_cmdM (f := fun m d => d.slotTrigger m rbMissing rb) rfl rfl rfl rfl
  | timedTriggerExpiry _ rbMissing rb => exact Instr.leaves_cmdM (f := fun m d => d.timedTrigger m rbMissing rb) rfl rfl rfl rfl
  | ztabFetchDone _ tr => exact Instr.leaves_cmdM (f := fun m d => d.inTerrace tr (Dev.ztabFetched tr m)) rfl rfl rfl rfl
  | longBufferRelease _ tr => exact Instr.leaves_cmdM (f := fun m d => d.inTerrace tr (Dev.longRelease m tr)) rfl rfl rfl rfl
  | patternLoadDone => exact Instr.leaves_cmdM (f := fun m d => d.patternLoaded m) rfl rfl rfl rfl
  | echoRecordDelivery _ ch => exact Instr.leaves_cmdM (f := fun m d => d.recordDelivery m ch) rfl rfl rfl rfl
  | dmaDescriptorFetch _ n => exact Instr.leaves_cmdM (f := fun m d => d.dmaFetchDesc m n) rfl rfl rfl rfl
  | channelAVerdict => exact Instr.leaves_cmdM (f := fun m d => d.channelA m) rfl rfl rfl rfl
  | fsCrcRecheck => exact Instr.leaves_cmdM (f := fun m d => d.fsRecheck m) rfl rfl rfl rfl
  | coverageExpiry _ fcell => exact Instr.leaves_cmdM (f := fun m d => d.coverageExpiry m fcell) rfl rfl rfl rfl
  | ossdTestWindowEnd _ o => exact Instr.leaves_cmdM (f := fun m d => d.windowEnd m o) rfl rfl rfl rfl
  | ossdReadbackChange _ o level => exact Instr.leaves_cmdM (f := fun m d => d.readbackChange m o level) rfl rfl rfl rfl
  | tpoPulseEnd _ o before during after => exact Instr.leaves_cmdM (f := fun m d => d.tpoEnd m o before during after) rfl rfl rfl rfl
  | sinFilterChange _ n level => exact Instr.leaves_cmdM (f := fun m d => d.filterChange m n level) rfl rfl rfl rfl
  | lodgeMsTick => exact Instr.leaves_cmdM (f := fun m d => d.msTick m) rfl rfl rfl rfl
  | sinDiscFault _ n => exact Instr.leaves_cmdM (f := fun m d => d.discFault m n) rfl rfl rfl rfl
  | restartDelayExpiry => exact Instr.leaves_cmdM (f := fun m d => d.restartExpiry m) rfl rfl rfl rfl
  | fsPrepDone => exact Instr.leaves_cmdM (f := fun m d => d.fsPrepared m) rfl rfl rfl rfl
  | commandPduReceive _ b frame => exact Instr.leaves_cmdM (f := fun m d => d.commandReceive m b frame) rfl rfl rfl rfl
  | netWatchdogExpiry => exact Instr.leaves_cmdM (f := fun m d => d.watchdog m) rfl rfl rfl rfl
  | pglLsend _ k => exact Instr.leaves_cmdM (f := fun m d => d.pglLsend m k) rfl rfl rfl rfl
  | imagesVerified => exact Instr.leaves_cmdM (f := fun m d => d.imagesVerified m) rfl rfl rfl rfl
  | eventPendingClear | pageLockSet | mbxSelectWrite | softReset | requestStandby | requestArmed | requestScanning |
    requestSafeHold | stateRequestOther | gateCtrlWrite | dtbLoad | dtbResync | latchClr | routeWrite | calTableCommit |
    refCalCommit | gthBudgetWrite | patternLoad | patternReadyWrite | bndDisable | bndTriggerSourceWrite | segFaultClear |
    ftnEnableWrite | ftnCloseWrite | ftnSpWrite | excWrite | pmpDisable | sdEnableWrite | cscEnableWrite | cscChannelConfigWrite
    | blvArm | blvAbort | blvForce | gzbDisable | gzbListenWrite | ditherWrite | orgClear | orgDisable | orgModeWrite |
    pstateWrite | loopbackWrite | prbsWrite | dmaEnable | dmaDisable | dmaCommonDisable | dmaRingReset | dmaRdPtrWrite |
    ldgFaultClear | calStart | calAbort | otpProgramGo | secBootGo | attestationGo | logPopWrite | logClear | softEvent |
    eventCounterLoad | pglRunStart | pglRunStop | pglModeWrite | pglLoad | bndEnable =>
    exact Instr.leaves_row rfl rfl rfl rfl
  | powerOn | resetLAssert | resetLRelease | pwrgoodFall | pwrgoodRise | supplyRestored | bootEntry | timingPllLock |
    timingPllUnlock | lanePllLock | auxPllLock | blankLFall | emitEnFall | tapReset | blankLRise | emitEnRise =>
    exact Instr.leaves_always rfl rfl rfl rfl (fun h => nomatch h)
  | jtagBypass _ code =>
    exact Instr.leaves_always (f := fun d => if d.actsBypass code then d.tapBypassed code else d) rfl rfl rfl rfl (fun h => nomatch h)
  | jtagIdcode => exact Instr.leaves_always (f := fun d => (d.tapLoad tapIdcode).tapCapture idcode) rfl rfl rfl rfl (fun h => nomatch h)
  | jtagSamplePreload _ sampled latches =>
    exact Instr.leaves_always (f := fun d => (d.tapLoad tapSample).tapBoundary sampled latches) rfl rfl rfl rfl (fun h => nomatch h)
  | jtagExtest _ sampled latches =>
    exact Instr.leaves_always (f := fun d => (d.tapLoad tapExtest).tapBoundary sampled latches) rfl rfl rfl rfl (fun h => nomatch h)
  | jtagExtestPulse _ sampled latches =>
    exact Instr.leaves_always (f := fun d => (d.tapLoad tapPulse).tapBoundary sampled latches) rfl rfl rfl rfl (fun h => nomatch h)
  | jtagExtestTrain _ sampled latches =>
    exact Instr.leaves_always (f := fun d => (d.tapLoad tapTrain).tapBoundary sampled latches) rfl rfl rfl rfl (fun h => nomatch h)
  | jtagClamp => exact Instr.leaves_always (f := fun d => (d.tapLoad tapClamp).tapCapture 0) rfl rfl rfl rfl (fun h => nomatch h)
  | jtagHighz => exact Instr.leaves_always (f := fun d => (d.tapLoad tapHighz).tapCapture 0) rfl rfl rfl rfl (fun h => nomatch h)
  | brownout _ r =>
    exact Instr.leaves_always (ok := okRail r) (f := fun d => if okRail r then d.brownout r else d) rfl rfl rfl rfl
      (fun hr => if_neg (ne_true_of_eq_false hr))
  | supplyOutOfWindow _ r =>
    exact Instr.leaves_always (ok := okRail r) (f := fun d => if okRail r then d.supplyOut r else d) rfl rfl rfl rfl
      (fun hr => if_neg (ne_true_of_eq_false hr))
  | brownoutEnd _ r =>
    exact Instr.leaves_always (ok := okRail r) (f := fun d => if okRail r then d.brownoutEnd r else d) rfl rfl rfl rfl
      (fun hr => if_neg (ne_true_of_eq_false hr))
  | xspiRead | mgmtRead | rcRegisterRead | blvReadData | otpReadData | secReportRead | dbgMemRead =>
    exact Instr.leaves_cmdS rfl rfl rfl rfl (fun s => (s.keeps_portRead _ _ _).stores) (fun _ _ s => s.keeps_portRead _ _ _)
  | xspiPageProgram | registerWrite =>
    exact Instr.leaves_cmdS rfl rfl rfl rfl (fun s => s.stores_portWrites _ _ _) (fun _ h => nomatch h)
  | mgmtWrite =>
    exact Instr.leaves_cmdS rfl rfl rfl rfl (fun s => s.stores_portWrites _ _ _) (fun _ _ s => s.keeps_portWrites_management _ _)
  | bitAliasWrite _ _ a w =>
    exact Instr.leaves_cmdS (ok := okAlias a) rfl rfl rfl rfl (fun s => s.stores_portWrites _ _ _) (fun h _ s =>
      s.keeps_portWrites_high (okAlias_range h).1 (okAlias_range h).2 _)
  | codeWindowWrite _ a w =>
    exact Instr.leaves_cmdS (ok := okCodeWindow a) rfl rfl rfl rfl (fun s => s.stores_portWrites _ _ _) (fun h _ s =>
      s.keeps_portWrites_high (okCodeWindow_range h).1 (okCodeWindow_range h).2 _)
  | orgWindowAccess _ a op =>
    exact Instr.leaves_cmdS (ok := okReadWindow a) rfl rfl rfl rfl (fun s => s.stores_windowAccess a _ _) (fun h _ s =>
      s.keeps_windowAccess (okReadWindow_range h).1 (okReadWindow_range h).2 _ _)
  | zoomWindowAccess _ a op =>
    exact Instr.leaves_cmdS (ok := okZoomWindow a) rfl rfl rfl rfl (fun s => s.stores_windowAccess a _ _) (fun h _ s =>
      s.keeps_windowAccess (okZoomWindow_range h).1 (okZoomWindow_range h).2 _ _)
  | tokenDebugUnlock | tokenInstallCustomer | tokenRevoke | tokenRaiseSvn | tokenUnknownOp =>
    exact Instr.leaves_cmdS rfl rfl rfl rfl (fun s => (s.keeps_tokenRow _ _).stores) (fun _ _ s => s.keeps_tokenRow _ _)
  | blvDumpDone => exact Instr.leaves_cmdS rfl rfl rfl rfl State.stores_blvDumpDone (fun _ h => nomatch h)
  | dmaBeatIssue => exact Instr.leaves_cmdS rfl rfl rfl rfl State.stores_dmaBeat (fun _ h => nomatch h)
  | dmaErrorResponse => exact Instr.leaves_cmdS rfl rfl rfl rfl (State.stores_dmaError _ _) (fun _ h => nomatch h)
  | jtagDbgAccess => exact ⟨_, rfl, fun h => (nomatch h), State.stores_dbgAccess _ _ _, fun h => nomatch h⟩

/-! ### The obligations on every command -/

/-- Settles O4: every command leaves a state. -/
theorem everyCommandAnswersANextState : Obligations.EveryCommandAnswersANextState := by
  intro c s
  obtain ⟨s', h⟩ := exec_leaves c s
  exact ⟨s', h.exec_eq⟩

theorem exec_next {c : Instr} {s s' : State} (h : exec c s = .next s') : c.Leaves s s' := by
  obtain ⟨u, hu⟩ := exec_leaves c s
  cases hu.exec_eq.symm.trans h
  exact hu

/-- Settles O3: neither the moment of a command nor what it does changes the queue. -/
theorem commandsKeepTheQueue : Obligations.CommandsKeepTheQueue :=
  fun _ _ _ h => (exec_next h).stores.pending

theorem exec_of_idle {c : Instr} {s : State} (h : c.acts s = false) : exec c s = .next (s.ready c.time) := by
  obtain ⟨u, hu⟩ := exec_leaves c s
  rw [hu.exec_eq, hu.idle h]

/-- Settles O7: such a command does not act. -/
theorem illFormedOperandsOnlyPassTime : Obligations.IllFormedOperandsOnlyPassTime :=
  fun _ _ hwf => exec_of_idle (by rw [Instr.acts, hwf, Bool.false_and])

/-- Settles O8: in RESET only the commands named by `Instr.actsInReset` act. -/
theorem resetOnlyPassesTime : Obligations.ResetOnlyPassesTime :=
  fun _ _ _ hreset hdown => exec_of_idle (by rw [Instr.acts, hreset, hdown, Bool.false_or, Bool.and_false])

/-- Settles O11: outside the commands that store, shared SRAM is the same list of bytes. -/
theorem otherCommandsLeaveSram : Obligations.OtherCommandsLeaveSram := by
  intro c s s' hstore hexec a
  exact congrArg (memByte · a) ((exec_next hexec).keeps hstore).mem

/-- A step is the front command's, or nothing. -/
theorem step_next {s s' : State} (h : step s = .next s') :
    s' = s ∨ ∃ c cs, s.pending = c :: cs ∧ c.Leaves { s with pending := cs } s' := by
  unfold step at h
  split at h
  · cases h
    exact .inl rfl
  · next c cs hq => exact .inr ⟨c, cs, hq, exec_next h⟩

/-- Settles O9: a step stores bytes of SRAM only one at a time, each keeping the canonical form. -/
theorem everyStepKeepsSramCanonical : Obligations.EveryStepKeepsSramCanonical := by
  intro s s' hwf hstep
  obtain rfl | ⟨c, cs, -, hleaves⟩ := step_next hstep
  · exact hwf
  · exact hleaves.stores.canonical hwf

theorem step_answers (s : State) : ∃ s', step s = .next s' := by
  unfold step
  split
  · exact ⟨s, rfl⟩
  · exact everyCommandAnswersANextState _ _

/-- A run of the machine goes on from what its first step answers. -/
theorem core_run_succ {n : Nat} {s u : State} (h : step s = .next u) : Host.Core.run core (n + 1) s = Host.Core.run core n u := by
  have hcore : core.step s = .next u := h
  simp only [Host.Core.run, hcore]

/-- Settles O6, by induction on the number of steps. -/
theorem runsNeverStop : Obligations.RunsNeverStop := by
  intro n
  induction n with
  | zero => exact fun s => ⟨s, rfl⟩
  | succ n ih =>
    intro s
    obtain ⟨u, hu⟩ := step_answers s
    obtain ⟨s', hs'⟩ := ih u
    exact ⟨s', (core_run_succ hu).trans hs'⟩

/-- Settles O1. -/
theorem stepRunsTheFrontCommand : Obligations.StepRunsTheFrontCommand := fun _ _ _ => rfl

/-- Settles O2. -/
theorem emptyQueueIdles : Obligations.EmptyQueueIdles := by
  intro s h
  rw [step, h]

end Sys2Proof
end

section
/-! Fields that share a register: what a field reads as after a write of another one. -/
namespace Sys2Proof.Machine

/-- Bit i of a word in which bits hi to lo have been replaced. -/
theorem testBit_setBits (w : Word) {hi lo : Nat} (v i : Nat) (hl : lo ≤ hi) (hi32 : i < 32) :
    (setBits w hi lo v).toNat.testBit i =
      if lo ≤ i ∧ i ≤ hi then v.testBit (i - lo) else w.toNat.testBit i := by
  have hlow : w.toNat % 2 ^ lo < 2 ^ lo := Nat.mod_lt _ (Nat.two_pow_pos _)
  have hmid : 2 ^ lo * (v % 2 ^ (hi - lo + 1)) + w.toNat % 2 ^ lo < 2 ^ (hi + 1) := by
    have hv : v % 2 ^ (hi - lo + 1) + 1 ≤ 2 ^ (hi - lo + 1) := Nat.mod_lt _ (Nat.two_pow_pos _)
    have hmul : 2 ^ lo * (v % 2 ^ (hi - lo + 1) + 1) ≤ 2 ^ lo * 2 ^ (hi - lo + 1) := Nat.mul_le_mul_left _ hv
    rw [← Nat.pow_add, show lo + (hi - lo + 1) = hi + 1 by omega] at hmul
    rw [Nat.mul_add] at hmul
    omega
  have hparts : (setBits w hi lo v).toNat =
      (2 ^ (hi + 1) * (w.toNat / 2 ^ (hi + 1)) + (2 ^ lo * (v % 2 ^ (hi - lo + 1)) + w.toNat % 2 ^ lo)) % 2 ^ 32 := by
    rw [setBits, BitVec.toNat_ofNat, bitsOf, setBits_nat _ _ _ _ hl]
    congr 1
    omega
  rw [hparts, Nat.testBit_mod_two_pow, Nat.testBit_two_pow_mul_add _ hmid, Nat.testBit_two_pow_mul_add _ hlow, Nat.testBit_mod_two_pow,
    Nat.testBit_mod_two_pow, ← Nat.shiftRight_eq_div_pow, Nat.testBit_shiftRight]
  simp only [hi32, decide_true, Bool.true_and]
  by_cases h1 : i < hi + 1
  · by_cases h2 : i < lo
    · simp [h1, h2, show ¬ lo ≤ i by omega]
    · simp [h1, h2, show lo ≤ i ∧ i ≤ hi by omega, show i - lo < hi - lo + 1 by omega]
  · simp [h1, show ¬ (lo ≤ i ∧ i ≤ hi) by omega, show hi + 1 + (i - (hi + 1)) = i by omega]

/-- Bit i of a field's value. -/
theorem testBit_bitsOf (w : Word) (hi lo i : Nat) :
    (bitsOf w hi lo).testBit i = (decide (i < hi - lo + 1) && w.toNat.testBit (lo + i)) := by
  rw [bitsOf, Nat.testBit_mod_two_pow, Nat.testBit_shiftRight]

/-- A field reads as before after a write of another field of its register. -/
theorem bitsOf_setBits_other (w : Word) {hi lo hi' lo' : Nat} (v : Nat) (hl : lo ≤ hi) (hl' : lo' ≤ hi') (hh' : hi' < 32)
    (hdisj : hi < lo' ∨ hi' < lo) : bitsOf (setBits w hi lo v) hi' lo' = bitsOf w hi' lo' := by
  refine Nat.eq_of_testBit_eq fun i => ?_
  rw [testBit_bitsOf, testBit_bitsOf]
  by_cases hi' : i < hi' - lo' + 1
  · rw [testBit_setBits _ _ _ hl (by omega), if_neg (by omega)]
  · simp [hi']

/-- A field of a device reads as before after a write of another field of its register. -/
theorem Dev.fld_setFld_disjoint (d : Dev) (p : Nat) (f g : Fld) (v : Nat) (hoff : g.off = f.off) (hf : f.lo ≤ f.hi) (hg : g.lo ≤ g.hi)
    (hg' : g.hi < 32) (hdisj : f.hi < g.lo ∨ g.hi < f.lo) : (d.setFld p f v).fld p g = d.fld p g := by
  rw [Dev.fld, hoff, Dev.reg_setFld_self, bitsOf_setBits_other _ _ hf hg hg' hdisj, Dev.fld, hoff]

end Sys2Proof.Machine
end

section
/-! Gatehouse's one-way limits: what no write of its page moves in the relaxing direction (09_gatehouse.md, R211). -/
namespace Sys2Proof.Machine

/-! ### The limits -/

/-- OMEGA_MIN, VLIM and the twenty budgets, by their offsets in Gatehouse's page. -/
def isLimit (off : Nat) : Prop := off = GTH_OMEGA_MIN ∨ off = GTH_VLIM ∨ (GTH_BUD_SCAN_SEG ≤ off ∧ off < GTH_BUD_STAT_GRP + 20)

theorem isLimit.lt {off : Nat} (h : isLimit off) : off < 0x90 := by
  simp only [isLimit, GTH_OMEGA_MIN, GTH_VLIM, GTH_BUD_SCAN_SEG, GTH_BUD_STAT_GRP] at h
  omega

theorem isLimit.still {off : Nat} (h : isLimit off) : isStill 0x85 off := by
  have hlt := h.lt
  simp only [isLimit, GTH_OMEGA_MIN, GTH_VLIM, GTH_BUD_SCAN_SEG, GTH_BUD_STAT_GRP] at h
  simp only [isStill, EVENT_RAW]
  omega

/-- Every limit reads in `e` as in `d`. -/
def Dev.LimitsKept (d e : Dev) : Prop := ∀ off, isLimit off → e.reg 0x85 off = d.reg 0x85 off

theorem Dev.LimitsKept.refl (d : Dev) : d.LimitsKept d := fun _ _ => rfl
theorem Dev.LimitsKept.trans {a b c : Dev} (h : a.LimitsKept b) (g : b.LimitsKept c) : a.LimitsKept c :=
  fun off ho => (g off ho).trans (h off ho)

/-- A change beside the register file. -/
theorem Dev.limitsKept_of_regs {d e : Dev} (hregs : e.regs = d.regs) (hvar : e.variant = d.variant) : d.LimitsKept e :=
  fun _ _ => by rw [Dev.reg, hregs, hvar, Dev.reg]

theorem Dev.limitsKept_foldl {α : Type} {f : Dev → α → Dev} (hf : ∀ d x, Dev.LimitsKept d (f d x)) (l : List α) :
    ∀ d : Dev, d.LimitsKept (l.foldl f d) := by
  induction l with
  | nil => exact fun d => .refl d
  | cons x l ih => exact fun d => (hf d x).trans (ih _)

theorem Dev.limitsKept_setReg (d : Dev) {p off : Nat} (w : Word) (h : ∀ o, isLimit o → regKey 0x85 o ≠ regKey p off) :
    d.LimitsKept (d.setReg p off w) := fun o ho => Dev.reg_setReg_other d w (h o ho)

/-- A write of a register of Gatehouse's page that is no limit. -/
theorem Dev.limitsKept_setReg_own (d : Dev) {off : Nat} (w : Word) (h : ¬ isLimit off) : d.LimitsKept (d.setReg 0x85 off w) :=
  d.limitsKept_setReg w fun _ ho => regKey_off fun e => h (e ▸ ho)

theorem Dev.limitsKept_setFld_status (d : Dev) {f : Fld} (hf : f.off = GTH_STATUS) (v : Nat) : d.LimitsKept (d.setFld 0x85 f v) :=
  d.limitsKept_setReg_own _ (by simp only [hf, isLimit]; decide)

/-- A write past the limits, of Gatehouse's counters. -/
theorem Dev.limitsKept_setReg_high (d : Dev) {off : Nat} (w : Word) (h : 0x90 ≤ off) : d.LimitsKept (d.setReg 0x85 off w) :=
  d.limitsKept_setReg_own w fun ho => absurd ho.lt (by omega)

theorem Dev.limitsKept_bump_high (d : Dev) {off : Nat} (h : 0x90 ≤ off) : d.LimitsKept (d.bump 0x85 off) :=
  d.limitsKept_setReg_high _ h

theorem Dev.limitsKept_raise (d : Dev) (p b : Nat) : d.LimitsKept (d.raise p b) := fun _ ho => d.reg_raise_still p b ho.still

/-! ### Verdicts and the motion inputs write no limit -/

theorem Dev.limitsKept_inhibit (seg cause window : Nat) (d : Dev) : d.LimitsKept (d.inhibit seg cause window) := by
  unfold Dev.inhibit
  extract_lets d₁ d₂ d₃ d₄ _
  have h₁ : d.LimitsKept d₁ := d.limitsKept_bump_high (by decide)
  have h₂ : d.LimitsKept d₂ := h₁.trans (d₁.limitsKept_setReg_high _ (by decide))
  have h₃ : d.LimitsKept d₃ := by
    refine h₂.trans ?_
    simp only [d₃]
    split
    · exact d₂.limitsKept_bump_high (by simp only [GTH_WIN_HIT]; omega)
    · exact .refl _
  have h₄ : d.LimitsKept d₄ := by
    refine h₃.trans ?_
    simp only [d₄]
    split
    · exact Dev.limitsKept_of_regs rfl rfl
    · exact .refl d₃
  split
  · exact h₄
  · exact (h₄.trans (Dev.limitsKept_of_regs rfl rfl)).trans (Dev.limitsKept_raise _ _ _)

theorem Dev.limitsKept_inhibitShot (seg k cause window : Nat) (d : Dev) : d.LimitsKept (d.inhibitShot seg k cause window) := by
  unfold Dev.inhibitShot
  split
  · exact .refl d
  · exact Dev.limitsKept_inhibit _ _ _ _

theorem Dev.limitsKept_reform (d : Dev) : d.LimitsKept d.reform := by
  unfold Dev.reform
  split
  · exact .refl d
  · refine Dev.limitsKept_foldl (fun d x => Dev.limitsKept_foldl (fun d k => ?_) _ d) _ d
    split
    · split
      · apply Dev.limitsKept_inhibitShot
      · exact .refl d
    · exact .refl d

theorem Dev.limitsKept_staticEnter (d : Dev) : d.LimitsKept d.staticEnter := by
  unfold Dev.staticEnter
  extract_lets _ e
  have he : d.LimitsKept e := Dev.limitsKept_of_regs rfl rfl
  split
  · exact he
  · have hset : d.LimitsKept (e.setFld 0x85 GTH_STATUS_STATIC 1) := he.trans (e.limitsKept_setFld_status rfl 1)
    have hfall : d.LimitsKept (e.setFld 0x85 GTH_STATUS_STATIC 1).outputsFall := hset.trans (Dev.limitsKept_of_regs rfl rfl)
    exact ((hfall.trans (Dev.limitsKept_reform _)).trans (Dev.limitsKept_bump_high _ (by decide))).trans (Dev.limitsKept_raise _ _ _)

theorem Dev.limitsKept_motion (fb hold sample : Bool) (d : Dev) : d.LimitsKept (d.motion fb hold sample) := by
  unfold Dev.motion
  extract_lets d₁ d₂
  have h₁ : d.LimitsKept d₁ := (d.limitsKept_setFld_status rfl _).trans (Dev.limitsKept_setFld_status _ rfl _)
  have h₂ : d.LimitsKept d₂ := by
    refine h₁.trans ?_
    simp only [d₂]
    split
    · exact (d₁.limitsKept_setFld_status rfl _).trans (Dev.limitsKept_setFld_status _ rfl _)
    · exact .refl d₁
  split
  · exact h₂.trans d₂.limitsKept_staticEnter
  · exact h₂.trans (Dev.limitsKept_of_regs rfl rfl)

/-- Of loops 0 and 1, the ones that Gatehouse can select. -/
theorem Dev.limitsKept_loopTell {l : Nat} (hl : l < 2) (d : Dev) : d.LimitsKept (d.loopTell l) := by
  unfold Dev.loopTell
  extract_lets hold fb _ d₁
  have h₁ : d.LimitsKept d₁ := by
    simp only [d₁]
    split
    · exact Dev.limitsKept_of_regs rfl rfl
    · exact .refl d
  rw [if_neg (by simp only [beq_iff_eq]; omega), if_neg (by omega)]
  split
  · exact h₁.trans (Dev.limitsKept_motion _ _ _ d₁)
  · exact h₁

theorem Dev.limitsKept_gthCfgWritten (stood : Bool) (src : Nat) (d : Dev) : d.LimitsKept (d.gthCfgWritten stood src) := by
  unfold Dev.gthCfgWritten
  extract_lets l _ d₁ d₂ d₃ d₄
  have hl : l < 2 := Nat.mod_lt _ (by decide)
  have h₁ : d.LimitsKept d₁ := by
    simp only [d₁]
    split
    · exact .refl d
    · exact Dev.limitsKept_of_regs rfl rfl
  have h₃ : d.LimitsKept d₃ := (h₁.trans (d₁.limitsKept_setFld_status rfl _)).trans (d₂.limitsKept_setFld_status rfl _)
  have h₄ : d.LimitsKept d₄ := (h₃.trans (d₃.limitsKept_loopTell hl)).trans (Dev.limitsKept_setFld_status _ rfl _)
  split
  · exact (h₄.trans (d₄.limitsKept_bump_high (by decide))).trans (Dev.limitsKept_raise _ _ _)
  · exact h₄

/-! ### The one-way order -/

/-- No limit of `e` is laxer than it is in `d`. -/
structure Dev.NotLaxer (d e : Dev) : Prop where
  budget : ∀ k, k < 20 → e.regN 0x85 (GTH_BUD_SCAN_SEG + 4 * k) ≤ d.regN 0x85 (GTH_BUD_SCAN_SEG + 4 * k)
  vlim : e.fld 0x85 GTH_VLIM_VLIM ≤ d.fld 0x85 GTH_VLIM_VLIM
  omega : d.fld 0x85 GTH_OMEGA_MIN_OMEGA_MIN ≤ e.fld 0x85 GTH_OMEGA_MIN_OMEGA_MIN

theorem isLimit_budget {k : Nat} (hk : k < 20) : isLimit (GTH_BUD_SCAN_SEG + 4 * k) := by
  simp only [isLimit, GTH_OMEGA_MIN, GTH_VLIM, GTH_BUD_SCAN_SEG, GTH_BUD_STAT_GRP]
  omega

theorem Dev.LimitsKept.fld {d e : Dev} (h : d.LimitsKept e) {f : Fld} (hf : isLimit f.off) : e.fld 0x85 f = d.fld 0x85 f :=
  congrArg (bitsOf · f.hi f.lo) (h f.off hf)

theorem Dev.LimitsKept.notLaxer {d e : Dev} (h : d.LimitsKept e) : d.NotLaxer e where
  budget k hk := Nat.le_of_eq (congrArg BitVec.toNat (h _ (isLimit_budget hk)))
  vlim := Nat.le_of_eq (h.fld (.inr (.inl rfl)))
  omega := Nat.le_of_eq (h.fld (.inl rfl)).symm

theorem Dev.limitsKept_relaxReject (d : Dev) : d.LimitsKept d.relaxReject :=
  (d.limitsKept_bump_high (by decide)).trans (Dev.limitsKept_raise _ _ _)

/-- A limit that is written moves in its tightening direction, the others stay. -/
theorem Dev.notLaxer_budgetWrite {off : Nat} (hlo : GTH_BUD_SCAN_SEG ≤ off) (w : Word) (d : Dev) : d.NotLaxer (d.budgetWrite off w) := by
  unfold Dev.budgetWrite
  split
  · next hle =>
    simp only [GTH_BUD_SCAN_SEG] at hlo
    refine ⟨fun k _ => ?_, ?_, ?_⟩
    · by_cases hk : GTH_BUD_SCAN_SEG + 4 * k = off
      · rw [hk, Dev.regN, Dev.reg_setReg_self]
        exact hle
      · exact Nat.le_of_eq (congrArg BitVec.toNat (Dev.reg_setReg_other _ _ (regKey_off hk)))
    · exact Nat.le_of_eq (Dev.fld_setReg_other _ _ _ _ _ _ (regKey_off (by simp only; omega)))
    · exact Nat.le_of_eq (Dev.fld_setReg_other _ _ _ _ _ _ (regKey_off (by simp only; omega))).symm
  · exact d.limitsKept_relaxReject.notLaxer

theorem Dev.notLaxer_omegaMinWrite (w : Word) (d : Dev) : d.NotLaxer (d.omegaMinWrite w) := by
  unfold Dev.omegaMinWrite
  extract_lets v
  split
  · next hle =>
    refine ⟨fun k _ => ?_, ?_, ?_⟩
    · exact Nat.le_of_eq (congrArg BitVec.toNat (Dev.reg_setReg_other _ _ (regKey_off (by simp only [GTH_BUD_SCAN_SEG]; omega))))
    · exact Nat.le_of_eq (Dev.fld_setFld_other _ _ _ _ _ _ (by decide))
    · rw [Dev.fld_setFld_self _ _ _ _ (by decide) (by decide)]
      exact Nat.le_trans hle (Nat.le_of_eq (Nat.mod_eq_of_lt (Nat.mod_lt _ (by decide))).symm)
  · exact d.limitsKept_relaxReject.notLaxer

theorem Dev.NotLaxer.trans {a b c : Dev} (h : a.NotLaxer b) (g : b.NotLaxer c) : a.NotLaxer c where
  budget k hk := Nat.le_trans (g.budget k hk) (h.budget k hk)
  vlim := Nat.le_trans g.vlim h.vlim
  omega := Nat.le_trans h.omega g.omega

/-- A write of a field of VLIM's register that does not raise its field VLIM. -/
theorem Dev.notLaxer_setVlim {d : Dev} {f : Fld} {v : Nat} (hf : f.off = GTH_VLIM)
    (hle : (d.setFld 0x85 f v).fld 0x85 GTH_VLIM_VLIM ≤ d.fld 0x85 GTH_VLIM_VLIM) : d.NotLaxer (d.setFld 0x85 f v) := by
  refine ⟨fun k _ => ?_, hle, ?_⟩
  · exact Nat.le_of_eq (congrArg BitVec.toNat (Dev.reg_setReg_other _ _ (regKey_off (by
      rw [hf]; simp only [GTH_BUD_SCAN_SEG, GTH_VLIM]; omega))))
  · exact Nat.le_of_eq (Dev.fld_setFld_other _ _ _ _ _ _ (regKey_off (by rw [hf]; decide))).symm

theorem Dev.notLaxer_vlimWrite (w : Word) (d : Dev) : d.NotLaxer (d.vlimWrite w) := by
  unfold Dev.vlimWrite
  extract_lets v e
  have he : d.NotLaxer e := by
    simp only [e]
    split
    · exact (Dev.LimitsKept.refl d).notLaxer
    · have hkept : (d.setFld 0x85 GTH_VLIM_VHYST (bitsOf w 31 16)).fld 0x85 GTH_VLIM_VLIM = d.fld 0x85 GTH_VLIM_VLIM :=
        d.fld_setFld_disjoint 0x85 _ _ _ rfl (by decide) (by decide) (by decide) (by decide)
      exact Dev.notLaxer_setVlim rfl (Nat.le_of_eq hkept)
  split
  · next hle =>
    have hset : (e.setFld 0x85 GTH_VLIM_VLIM v).fld 0x85 GTH_VLIM_VLIM = v :=
      (e.fld_setFld_self 0x85 GTH_VLIM_VLIM v (by decide) (by decide)).trans (Nat.mod_eq_of_lt (Nat.mod_lt _ (by decide)))
    exact he.trans (Dev.notLaxer_setVlim rfl (Nat.le_trans (Nat.le_of_eq hset) hle))
  · exact he.trans e.limitsKept_relaxReject.notLaxer

/-! ### Writes of Gatehouse's page -/

theorem Dev.notLaxer_gthWrite (r : RegDef) (off : Nat) (w : Word) (d : Dev) : d.NotLaxer (d.gthWrite r off w) := by
  unfold Dev.gthWrite
  split
  · next h =>
    simp only [Bool.and_eq_true, decide_eq_true_eq] at h
    exact d.notLaxer_budgetWrite h.1 w
  · next hbud =>
    split
    · exact d.notLaxer_omegaMinWrite w
    · next homega =>
      split
      · exact d.notLaxer_vlimWrite w
      · next hvlim =>
        simp only [Bool.and_eq_true, decide_eq_true_eq, beq_iff_eq] at hbud homega hvlim
        have hoff : ¬ isLimit off := by simp only [isLimit, not_or]; exact ⟨homega, hvlim, hbud⟩
        have hmerge : d.LimitsKept (d.mergeWrite r 0x85 off w) := d.limitsKept_setReg_own _ hoff
        split
        · exact (hmerge.trans (Dev.limitsKept_gthCfgWritten _ _ _)).notLaxer
        · exact hmerge.notLaxer

theorem Dev.limitsKept_writeCommon {m : Mem} {ini : Initiator} {off : Nat} {w : Word} {d e : Dev}
    (h : d.writeCommon m ini 0x85 off w = some e) : d.LimitsKept e := by
  simp only [Dev.writeCommon] at h
  split at h
  · next ho =>
    cases h
    exact d.limitsKept_setReg_own _ (by rw [beq_iff_eq.1 ho]; simp only [isLimit]; decide)
  · split at h
    · cases h
      exact d.limitsKept_setReg_own _ (by simp only [isLimit]; decide)
    · split at h
      · split at h
        · cases h
          exact d.limitsKept_setReg_own _ (by simp only [isLimit]; decide)
        · cases h
          exact .refl d
      · split at h
        · cases h
          exact Dev.limitsKept_of_regs rfl rfl
        · cases h

theorem Dev.notLaxer_pageWrite (m : Mem) (ini : Initiator) (off : Nat) (w : Word) (d : Dev) : d.NotLaxer (d.pageWrite m ini 0x85 off w) := by
  unfold Dev.pageWrite
  dsimp only
  rw [Dev.landing_out d (.inr (by decide)), Dev.dead_low d (.inr (by decide)), if_neg Bool.false_ne_true]
  split
  · next hc => exact (Dev.limitsKept_writeCommon hc).notLaxer
  · split
    · exact d.notLaxer_gthWrite _ _ _
    · exact (Dev.LimitsKept.refl d).notLaxer

theorem Dev.limitsKept_badAddr (d : Dev) : d.LimitsKept d.badAddr := by
  have hcount : d.LimitsKept (d.bump 0x00 DEV_BAD_ADDR) :=
    d.limitsKept_setReg _ fun o ho => (regKey_page (by decide) (by decide) (Nat.lt_trans ho.lt (by decide)))
  unfold Dev.badAddr Dev.bumpFirst
  dsimp only
  split
  · exact hcount
  · exact (hcount.trans (Dev.limitsKept_of_regs rfl rfl)).trans (Dev.limitsKept_raise _ _ _)

/-- An address of Gatehouse's page leads to its register, or where it is not aligned to nothing. -/
theorem placeOf_gth (ini : Initiator) {off : Nat} (h : off < 4096) :
    placeOf ini (0x40085000 + off) = if off % 4 = 0 then .reg 0x85 off else .none := by
  unfold placeOf
  by_cases ha : off % 4 = 0
  · have hal : (0x40085000 + off) % 4 = 0 := by omega
    have hp : (0x40085000 + off - 0x40000000) / 0x1000 = 0x85 := by omega
    have ho : (0x40085000 + off) % 0x1000 = off := by omega
    simp [ha, hal, hp, ho, show ¬ 0x40085000 + off < 0x800000 by omega, show ¬ 0x40085000 + off < 0x14000000 by omega,
      show ¬ 0x40085000 + off < 0x18100000 by omega, show ¬ 0x40085000 + off < 0x18208000 by omega,
      show ¬ 0x40085000 + off < 0x20800000 by omega, show ¬ 0x40085000 + off < 0x20A00000 by omega,
      show 0x40000000 ≤ 0x40085000 + off by omega, show 0x40085000 + off < 0x400B5000 by omega]
  · have hal : (0x40085000 + off) % 4 ≠ 0 := by omega
    simp [ha, hal]

/-- A write of one word by an initiator that is served. -/
theorem exec_registerWrite_served {s : State} {t : Nat} {ini : Initiator} (h : s.servedTo t ini = true) (a : Nat) (w : Word) :
    exec (.registerWrite t ini a w) s = .next ((s.ready t).placeWrite ini (placeOf ini (a % 2 ^ 32)) w) := by
  have hexec : exec (.registerWrite t ini a w) s = s.cmdS t true (fun s => s.portWrites ini [w] a) := rfl
  have hreach : (s.ready t).dev.reaches ini = true := by
    simp only [State.servedTo, Bool.and_eq_true] at h
    exact h.2
  rw [hexec, State.cmdS_up (State.servedTo_up h), State.portWrites, if_pos hreach, State.writeWords, State.writeWords, ite_self,
    State.busWrite]

theorem State.notLaxer_placeWrite_gth (ini : Initiator) {off : Nat} (hoff : off < 4096) (w : Word) (s : State) :
    s.dev.NotLaxer (s.placeWrite ini (placeOf ini (0x40085000 + off)) w).dev := by
  rw [placeOf_gth ini hoff]
  split
  · exact s.dev.notLaxer_pageWrite s.mem ini off w
  · simp only [State.placeWrite]
    split
    · exact (Dev.LimitsKept.refl _).notLaxer
    · exact s.dev.limitsKept_badAddr.notLaxer

/-- A budget row is Gatehouse's own write of it. -/
theorem exec_gthBudgetWrite {s : State} {t k : Nat} {ini : Initiator} (hk : k < 20) (h : s.servedTo t ini = true) (w : Word) :
    exec (.gthBudgetWrite t ini (GTH_BUD_SCAN_SEG + 4 * k) w) s =
      .next (s.put ((s.begun t).budgetWrite (GTH_BUD_SCAN_SEG + 4 * k) w)) := by
  have hrow : okOneWay (GTH_BUD_SCAN_SEG + 4 * k) = true ∧ (regDef 0x85 (GTH_BUD_SCAN_SEG + 4 * k)).isSome = true ∧
      isOwn (GTH_BUD_SCAN_SEG + 4 * k) = true := by
    revert k
    decide
  obtain ⟨hok, hdef, hown⟩ := hrow
  have hexec : exec (.gthBudgetWrite t ini (GTH_BUD_SCAN_SEG + 4 * k) w) s =
      s.rowWrite t (okOneWay (GTH_BUD_SCAN_SEG + 4 * k)) ini 0x85 (GTH_BUD_SCAN_SEG + 4 * k) w := rfl
  obtain ⟨r, hr⟩ := Option.isSome_iff_exists.1 hdef
  rw [hexec, hok, State.rowWrite_lowOf h (.inr (by decide)) hown, Dev.ownOf, hr]
  have hbud : (s.begun t).gthWrite r (GTH_BUD_SCAN_SEG + 4 * k) w = (s.begun t).budgetWrite (GTH_BUD_SCAN_SEG + 4 * k) w :=
    if_pos (by simp only [Bool.and_eq_true, decide_eq_true_eq, GTH_BUD_SCAN_SEG, GTH_BUD_STAT_GRP]; omega)
  exact congrArg (fun d => Host.Outcome.next (s.put d)) hbud

theorem Dev.budgetWrite_regN {off : Nat} (hoff : isLimit off) (w : Word) (d : Dev) :
    (d.budgetWrite off w).regN 0x85 off = min w.toNat (d.regN 0x85 off) := by
  unfold Dev.budgetWrite
  split
  · next hle => rw [Dev.regN, Dev.reg_setReg_self, Nat.min_eq_left hle]
  · next hgt => rw [Dev.regN, d.limitsKept_relaxReject off hoff, ← Dev.regN, Nat.min_eq_right (by omega)]

theorem Dev.relaxReject_count (d : Dev) : d.relaxReject.reg 0x85 GTH_RELAX_REJECT = d.reg 0x85 GTH_RELAX_REJECT + 1 := by
  rw [Dev.relaxReject, Dev.reg_raise_still _ _ _ (by simp only [isStill]; decide), Dev.reg_bump_self]

/-- Settles O60: a limit is written only toward its tightening direction, and every other register of the page is no limit. -/
theorem noWriteLoosensALimit : Obligations.NoWriteLoosensALimit := by
  refine ⟨fun s t off ini w hoff hserved => ?_, fun s t k ini w hk hserved => ?_⟩
  · have hlt : (0x40085000 + off) % 2 ^ 32 = 0x40085000 + off := Nat.mod_eq_of_lt (by omega)
    obtain ⟨hbudget, hvlim, homega⟩ := (s.ready t).notLaxer_placeWrite_gth ini hoff w
    exact ⟨_, by rw [exec_registerWrite_served hserved, hlt], hbudget, hvlim, homega⟩
  · refine ⟨_, exec_gthBudgetWrite hk hserved w, Dev.budgetWrite_regN (isLimit_budget hk) w _, fun hle => ?_, fun hgt hroom => ?_⟩
    · rw [State.put_dev, Dev.budgetWrite, if_pos hle, Dev.regN, Dev.reg_setReg_other _ _ (regKey_off (by
        simp only [GTH_RELAX_REJECT, GTH_BUD_SCAN_SEG]; omega)), Dev.regN]
    · rw [State.put_dev, Dev.budgetWrite, if_neg (by omega), Dev.regN, Dev.relaxReject_count]
      simp only [Dev.regN] at hroom ⊢
      bv_omega

end Sys2Proof.Machine
end

section
/-! A port's store of a word to shared SRAM (20_registers_events.md, R437). -/
namespace Sys2Proof.Machine

theorem placeOf_low {ini : Initiator} {a : Nat} (hini : ini ≠ .management) (hal : a % 4 = 0) (ha : a < 0x800000) :
    placeOf ini a = .sram a := by
  simp [placeOf, hal, ha, hini]

/-- The management port finds nothing below 8 MiB (R436). -/
theorem placeOf_low_management {a : Nat} (ha : a < 0x800000) : placeOf .management a = .none := by
  simp [placeOf, ha]

theorem State.servedTo_management {s : State} {t : Nat} (h : s.up t = true) : s.servedTo t .management = true := by
  rw [State.servedTo, h]
  rfl

/-- Settles O12: the word's four bytes are stored, and the management port finds no place there. -/
theorem sramStoreWritesItsFourBytes : Obligations.SramStoreWritesItsFourBytes := by
  refine ⟨fun s t a ini w hup hreach hini hal ha => ?_, fun s t a w hup ha => ?_⟩
  · have hserved : s.servedTo t ini = true := by rw [State.servedTo, hup, hreach]; rfl
    refine ⟨_, exec_registerWrite_served hserved a w, ?_⟩
    rw [Nat.mod_eq_of_lt (by omega), placeOf_low hini hal ha]
    exact ⟨rfl, rfl, fun i hi => memByte_putWord_self _ _ _ _ hi, fun x hx => memByte_putWord_other _ _ hx⟩
  · rw [exec_registerWrite_served (State.servedTo_management hup), Nat.mod_eq_of_lt (by omega), placeOf_low_management ha]
    rfl

end Sys2Proof.Machine
end

section
/-! Device time and the gates' span (06_points_time.md, R141; 04_orangery_histograms.md, R60, R84). -/
namespace Sys2Proof.Machine

/-! ### Device time -/

theorem addTime_lt (dt n : Nat) : addTime dt n < 2 ^ 64 := by
  unfold addTime
  split <;> omega

theorem timeSaturated_iff (dt : Nat) : timeSaturated dt = true ↔ dt / 2 ^ 19 = 2 ^ 45 - 1 := beq_iff_eq

/-- Past the carry, and below it, the count stays in the last 2^19 once it is there. -/
theorem addTime_saturated {dt : Nat} (n : Nat) (h : timeSaturated dt = true) :
    timeSaturated (addTime dt n) = true ∧ addTime dt n % 2 ^ 19 = (dt + n) % 2 ^ 19 := by
  rw [timeSaturated_iff] at h ⊢
  unfold addTime
  split <;> omega

/-- Before it is saturated, device time never falls: a step that carries saturates it. -/
theorem le_addTime {dt n : Nat} (h : timeSaturated (addTime dt n) = false) : dt ≤ addTime dt n := by
  by_cases hlt : dt + n < 2 ^ 64
  · rw [addTime, if_pos hlt]
    omega
  · have hsat : timeSaturated (addTime dt n) = true := by
      rw [timeSaturated_iff, addTime, if_neg hlt]
      omega
    rw [hsat] at h
    cases h

/-- Settles O23: the sum's two cases, and the multiple of 64 below the count. -/
theorem deviceTimeNeverWraps : Obligations.DeviceTimeNeverWraps := by
  refine ⟨fun dt n _ => ⟨addTime_lt dt n, fun hlt => if_pos hlt, addTime_saturated n, le_addTime⟩, fun d => ?_⟩
  simp only [Dev.devTime, coarse]
  omega

/-! ### Gates -/

/-- What the offset and the bins of a gate take is at most the span of 2^19 LSB. -/
theorem Dev.beffNow_span (d : Dev) (t : Nat) :
    64 * min (d.fld (0x50 + t) ORG_GATE_OFFSET) 8192 + d.beffNow t * (8 * 2 ^ d.fld (0x50 + t) ORG_CTRL_BIN_W) ≤ 2 ^ 19 := by
  have hbins : d.beffNow t ≤
      (8192 - min (d.fld (0x50 + t) ORG_GATE_OFFSET) 8192) * 64 / (8 * 2 ^ d.fld (0x50 + t) ORG_CTRL_BIN_W) := Nat.min_le_right _ _
  have hlen := Nat.le_trans (Nat.mul_le_mul_right _ hbins) (Nat.div_mul_le_self _ (8 * 2 ^ d.fld (0x50 + t) ORG_CTRL_BIN_W))
  omega

/-- Settles O27: a gate opens after its offset and lasts the effective bins, which the span limits. -/
theorem gatesCloseWithinTheSpan : Obligations.GatesCloseWithinTheSpan := by
  intro d b f
  have hspan := d.beffNow_span (b / 2)
  refine ⟨?_, ?_, ?_, fun t => rfl⟩
  · simp only [Dev.gateFor]
    omega
  · simp only [Dev.gateFor]
    omega
  · simp only [Dev.gateFor]
    omega

/-! ### Counters -/

@[simp] theorem OrgT.half_setHalf (o : OrgT) (h : Nat) (i : HalfInfo) : (o.setHalf h i).half h = i := by
  unfold OrgT.half OrgT.setHalf
  split <;> rfl

/-- A full counter sets the flag of its channel's half and counts nothing. -/
theorem Dev.countBin_full {d : Dev} {ch half b : Nat} (h : d.bin ch half b = 65535) : d.countBin ch half b = d.saturate ch half false := by
  simp only [Dev.countBin, h, beq_self_eq_true, if_true]

/-- A counter that is not full counts one, in its bin and its block. -/
theorem Dev.countBin_bins {d : Dev} {ch half b : Nat} (h : d.bin ch half b ≠ 65535) :
    (d.countBin ch half b).bins = SMap.put 0 d.bins (binKey ch half b) (d.bin ch half b + 1) := by
  simp only [Dev.countBin, beq_iff_eq, h, if_false]

@[simp] theorem Dev.setBit_org (d : Dev) (p off b : Nat) : (d.setBit p off b).org = d.org := rfl

/-- The saturation flag of the half is set in the half's record; the register bit and the event leave it. -/
theorem Dev.saturate_sat (ch half : Nat) (d : Dev) :
    SMap.get false (((d.saturate ch half false).getOrg (ch / 512)).half half).sat (ch % 512) = true := by
  have horg : (d.saturate ch half false).getOrg (ch / 512) = (d.getOrg (ch / 512)).setHalf half
      { (d.getOrg (ch / 512)).half half with sat := SMap.put false ((d.getOrg (ch / 512)).half half).sat (ch % 512) true } := by
    unfold Dev.saturate
    dsimp only
    split
    · rw [Dev.getOrg, Dev.raise_org, Dev.setBit_org, ← Dev.getOrg, Dev.getOrg_setOrg]
      rfl
    · rw [Dev.getOrg, Dev.setBit_org, ← Dev.getOrg, Dev.getOrg_setOrg]
      rfl
  rw [horg, OrgT.half_setHalf, SMap.get_put_self]

theorem Dev.saturate_bins (ch half : Nat) (zoom : Bool) (d : Dev) : (d.saturate ch half zoom).bins = d.bins := by
  unfold Dev.saturate
  dsimp only
  split
  · exact Dev.raise_bins _ _ _
  · rfl

theorem binKey_injective {ch half b ch' half' b' : Nat} (hh : half < 2) (hb : b < 8192) (hh' : half' < 2) (hb' : b' < 8192)
    (h : binKey ch half b = binKey ch' half' b') : ch = ch' ∧ half = half' ∧ b = b' := by
  simp only [binKey] at h
  omega

/-- Settles O28: a counter is one key of the bins, which channel, half and bin determine. -/
theorem histogramCountersSaturate : Obligations.HistogramCountersSaturate := by
  refine ⟨fun d ch half b hroom => ⟨?_, fun k hk => ?_⟩, fun d ch half b hfull => ⟨?_, fun _ => ?_⟩,
    fun ch half b ch' half' b' hh hb hh' hb' => binKey_injective hh hb hh' hb'⟩
  · rw [Dev.bin, Dev.countBin_bins hroom, SMap.get_put_self]
  · rw [Dev.countBin_bins hroom, SMap.get_put_other _ _ _ _ hk]
  · rw [Dev.countBin_full hfull, Dev.saturate_bins]
  · rw [Dev.countBin_full hfull]
    exact Dev.saturate_sat ch half d

end Sys2Proof.Machine
end

section
/-! The link leaves ALIGNED (07_promenade_lanes.md, R158, R160, R166). -/
namespace Sys2Proof.Machine

/-- Columns go to the lanes: lanes and scramblers, a free value; the registers and the slots stay. -/
theorem Dev.putColumns_frame (cs : List (List Block)) (d : Dev) :
    (d.putColumns cs).regs = d.regs ∧ (d.putColumns cs).variant = d.variant ∧ (d.putColumns cs).slots = d.slots := by
  unfold Dev.putColumns
  extract_lets next
  cases next <;> exact ⟨rfl, rfl, rfl⟩

theorem Dev.reg_congr {d e : Dev} (hregs : e.regs = d.regs) (hvar : e.variant = d.variant) (p off : Nat) : e.reg p off = d.reg p off := by
  rw [Dev.reg, hregs, hvar, Dev.reg]

theorem Dev.abortPacket_slots (d : Dev) : d.abortPacket.slots = d.slots := by
  unfold Dev.abortPacket
  split
  · next p _ _ => exact (d.putColumns_frame (columnsOf [p.eop (d.fld 0x03 DTB_CTRL_PARK_INDEX) 1])).2.2
  · rfl

/-- An abort counts when a packet is in transmission. -/
theorem Dev.abortPacket_count (d : Dev) :
    d.abortPacket.reg 0x82 PRM_ABORT_CNT = d.reg 0x82 PRM_ABORT_CNT + (if d.prm.inFlight = none then 0 else 1) := by
  unfold Dev.abortPacket
  split
  · next h =>
    obtain ⟨hregs, hvar, -⟩ := d.putColumns_frame _
    rw [Dev.reg_bump_self, Dev.reg_congr hregs hvar, h, if_neg (by simp)]
  · next h => rw [h, if_pos rfl, show (0 : Word) = 0#32 from rfl, BitVec.add_zero]

theorem Dev.abortPacket_reg_other (d : Dev) {off : Nat} (h : off ≠ PRM_ABORT_CNT) : d.abortPacket.reg 0x82 off = d.reg 0x82 off := by
  unfold Dev.abortPacket
  split
  · obtain ⟨hregs, hvar, -⟩ := d.putColumns_frame _
    rw [Dev.reg_bump_other _ (regKey_off h), Dev.reg_congr hregs hvar]
  · rfl

/-- What is held for transmission, and the records and taps of open slots, are gone. -/
def Dev.linkEmptied (d : Dev) : Dev :=
  { d with
    prm := { d.prm with aligned := false, queue := [], inFlight := none, holdFrom := none, warned := false, held := 0, await := true }
    slots := d.slots.map (fun (s : SlotRec) => { s with lost := s.lost || !s.records.isEmpty, records := [], taps := [] }) }

@[simp] theorem Dev.linkEmptied_reg (d : Dev) (p off : Nat) : d.linkEmptied.reg p off = d.reg p off := rfl

/-- The counts and the number that leaving ALIGNED takes, of n discards among them the staged taps. -/
def Dev.linkCounted (n staged : Nat) (d : Dev) : Dev :=
  (((d.setFld 0x82 PRM_SEQ_NEXT_SEQ (d.fld 0x82 PRM_SEQ_NEXT_SEQ + staged)).bumpBy 0x82 PRM_DISCARD_PKT n).bump
    0x82 PRM_ALIGN_LOSS_CNT).setFld 0x82 PRM_LINK_STATUS_XOFF 0

/-- The taps that wait in open slots. -/
def Dev.stagedTaps (d : Dev) : Nat := (d.slots.map (fun x => x.taps.length)).foldl (fun a b => a + b) 0

theorem Dev.leaveAligned_eq {d : Dev} (h : d.prm.aligned = true) :
    d.leaveAligned = (((d.abortPacket.linkEmptied.linkCounted (d.prm.queue.length + d.stagedTaps + d.prm.inFlight.isSome.toNat)
      d.stagedTaps).egressUpdate).linkUpdate).raise 0x82 1 := by
  simp only [Dev.leaveAligned, h, Bool.not_true, Bool.false_eq_true, if_false, Dev.linkEmptied, Dev.linkCounted, Dev.stagedTaps, total]

theorem Dev.leaveAligned_of_not {d : Dev} (h : d.prm.aligned = false) : d.leaveAligned = d.linkUpdate := by
  rw [Dev.leaveAligned, h]
  rfl

/-- A register of the link's page that neither the egress level nor the link's state is part of. -/
theorem Dev.reg_linkTail {off : Nat} (d : Dev) (hraw : off ≠ EVENT_RAW) (hlt : off < 0x1000) (hegress : off ≠ PRM_EGRESS)
    (hstatus : off ≠ PRM_LINK_STATUS) : (((d.egressUpdate).linkUpdate).raise 0x82 1).reg 0x82 off = d.reg 0x82 off := by
  rw [Dev.reg_raise_still _ _ _ ⟨hlt, hraw, by decide, by decide, by decide⟩, Dev.linkUpdate, Dev.setFld,
    Dev.reg_setReg_other _ _ (regKey_off hstatus)]
  unfold Dev.egressUpdate
  dsimp only
  rw [Dev.setFld, Dev.reg_setReg_other _ _ (regKey_off hegress), Dev.setFld, Dev.reg_setReg_other _ _ (regKey_off hegress)]

/-- XOFF shares its register with the link's state, which is written after it. -/
theorem Dev.xoff_linkTail (d : Dev) : (((d.egressUpdate).linkUpdate).raise 0x82 1).fld 0x82 PRM_LINK_STATUS_XOFF = d.fld 0x82 PRM_LINK_STATUS_XOFF := by
  rw [Dev.fld_raise_still _ _ _ (by simp only [isStill]; decide), Dev.linkUpdate,
    Dev.fld_setFld_disjoint _ _ PRM_LINK_STATUS_STATE PRM_LINK_STATUS_XOFF _ rfl (by decide) (by decide) (by decide) (by decide)]
  unfold Dev.egressUpdate
  dsimp only
  rw [Dev.fld_setFld_other _ _ _ _ _ _ (by decide), Dev.fld_setFld_other _ _ _ _ _ _ (by decide)]

section
variable (d : Dev) (n staged : Nat)

theorem Dev.linkCounted_discard :
    (d.linkCounted n staged).reg 0x82 PRM_DISCARD_PKT = d.reg 0x82 PRM_DISCARD_PKT + BitVec.ofNat 32 n := by
  rw [Dev.linkCounted, Dev.setFld, Dev.reg_setReg_other _ _ (by decide), Dev.reg_bump_other _ (by decide), Dev.bumpBy,
    Dev.reg_setReg_self, Dev.setFld, Dev.reg_setReg_other _ _ (by decide)]

theorem Dev.linkCounted_loss : (d.linkCounted n staged).reg 0x82 PRM_ALIGN_LOSS_CNT = d.reg 0x82 PRM_ALIGN_LOSS_CNT + 1 := by
  rw [Dev.linkCounted, Dev.setFld, Dev.reg_setReg_other _ _ (by decide), Dev.reg_bump_self, Dev.bumpBy,
    Dev.reg_setReg_other _ _ (by decide), Dev.setFld, Dev.reg_setReg_other _ _ (by decide)]

theorem Dev.linkCounted_seq :
    (d.linkCounted n staged).fld 0x82 PRM_SEQ_NEXT_SEQ = (d.fld 0x82 PRM_SEQ_NEXT_SEQ + staged) % 65536 := by
  rw [Dev.linkCounted, Dev.fld_setFld_other _ _ _ _ _ _ (by decide), Dev.bump, Dev.bumpBy, Dev.fld_setReg_other _ _ _ _ _ _ (by decide),
    Dev.bumpBy, Dev.fld_setReg_other _ _ _ _ _ _ (by decide), Dev.fld_setFld_self _ _ _ _ (by decide) (by decide)]
  rfl

theorem Dev.linkCounted_abort : (d.linkCounted n staged).reg 0x82 PRM_ABORT_CNT = d.reg 0x82 PRM_ABORT_CNT := by
  rw [Dev.linkCounted, Dev.setFld, Dev.reg_setReg_other _ _ (by decide), Dev.reg_bump_other _ (by decide), Dev.bumpBy,
    Dev.reg_setReg_other _ _ (by decide), Dev.setFld, Dev.reg_setReg_other _ _ (by decide)]

theorem Dev.linkCounted_xoff : (d.linkCounted n staged).fld 0x82 PRM_LINK_STATUS_XOFF = 0 :=
  Dev.fld_setFld_self _ _ _ _ (by decide) (by decide)

end

/-- Settles O35: what waited is dropped, the counts are written one after another, and the link's state and level follow. -/
theorem leavingAlignedDiscardsAndCounts : Obligations.LeavingAlignedDiscardsAndCounts := by
  refine ⟨fun d h => ?_, fun d h => ?_⟩
  · extract_lets e staged
    have he : e = _ := Dev.leaveAligned_eq h
    have hprm : e.prm = d.abortPacket.linkEmptied.prm := by rw [he, Dev.raise_prm]; rfl
    have hslots : e.slots = d.slots.map (fun (s : SlotRec) =>
        { s with lost := s.lost || !s.records.isEmpty, records := [], taps := [] }) := by
      rw [he, Dev.raise_slots, ← Dev.abortPacket_slots d]; rfl
    refine ⟨congrArg Prm.aligned hprm, congrArg Prm.queue hprm, congrArg Prm.inFlight hprm, congrArg Prm.holdFrom hprm,
      congrArg Prm.await hprm, ?_, ?_, ?_, ?_, ?_, ?_, ?_⟩
    · rw [hslots]
      intro x hx
      obtain ⟨y, -, rfl⟩ := List.mem_map.1 hx
      exact ⟨rfl, rfl⟩
    · rw [hslots, List.map_map]
      rfl
    · have hn : d.prm.inFlight.isSome.toNat = if d.prm.inFlight = none then 0 else 1 := by cases d.prm.inFlight <;> rfl
      rw [he, Dev.reg_linkTail _ (by decide) (by decide) (by decide) (by decide), Dev.linkCounted_discard,
        Dev.linkEmptied_reg, Dev.abortPacket_reg_other d (by decide), hn]
      rfl
    · rw [he, Dev.fld, Dev.reg_linkTail _ (by decide) (by decide) (by decide) (by decide), ← Dev.fld, Dev.linkCounted_seq, Dev.fld,
        Dev.linkEmptied_reg, Dev.abortPacket_reg_other d (by decide), ← Dev.fld]
      rfl
    · rw [he, Dev.reg_linkTail _ (by decide) (by decide) (by decide) (by decide), Dev.linkCounted_abort,
        Dev.linkEmptied_reg, Dev.abortPacket_count]
    · rw [he, Dev.reg_linkTail _ (by decide) (by decide) (by decide) (by decide), Dev.linkCounted_loss,
        Dev.linkEmptied_reg, Dev.abortPacket_reg_other d (by decide)]
    · rw [he, Dev.on, Dev.xoff_linkTail, Dev.linkCounted_xoff]
      rfl
  · rw [Dev.leaveAligned_of_not h]
    exact ⟨rfl, rfl⟩

end Sys2Proof.Machine
end

section
/-! Raising an event and the registers of the event pages: RAW bits are only set, masks stay (20_registers_events.md, R438, R439). -/
namespace Sys2Proof.Machine

/-! ### What a raise does beside its RAW bit leaves EVENT_RAW and EVENT_MASK of every page -/

/-- EVENT_RAW and EVENT_MASK of every page read in `e` as in `d`. -/
structure Dev.EventRegsKept (d e : Dev) : Prop where
  raw : ∀ q, e.reg q EVENT_RAW = d.reg q EVENT_RAW
  mask : ∀ q, e.reg q EVENT_MASK = d.reg q EVENT_MASK

theorem Dev.EventRegsKept.refl (d : Dev) : d.EventRegsKept d := ⟨fun _ => rfl, fun _ => rfl⟩
theorem Dev.EventRegsKept.trans {a b c : Dev} (h : a.EventRegsKept b) (g : b.EventRegsKept c) : a.EventRegsKept c :=
  ⟨fun q => (g.raw q).trans (h.raw q), fun q => (g.mask q).trans (h.mask q)⟩

/-- A change beside the register file. -/
theorem Dev.eventRegsKept_of_regs {d e : Dev} (hregs : e.regs = d.regs) (hvar : e.variant = d.variant) : d.EventRegsKept e :=
  ⟨fun q => Dev.reg_congr hregs hvar q _, fun q => Dev.reg_congr hregs hvar q _⟩

/-- A write of any other register, whatever its page: offsets inside a page tell keys apart. -/
theorem Dev.eventRegsKept_setReg (d : Dev) (p : Nat) {off : Nat} (w : Word) (hraw : off ≠ EVENT_RAW) (hmask : off ≠ EVENT_MASK)
    (hlt : off < 0x1000) : d.EventRegsKept (d.setReg p off w) where
  raw q := Dev.reg_setReg_other d w (by simp only [regKey, EVENT_RAW] at hraw ⊢; omega)
  mask q := Dev.reg_setReg_other d w (by simp only [regKey, EVENT_MASK] at hmask ⊢; omega)

theorem Dev.eventRegsKept_foldl {α : Type} {f : Dev → α → Dev} (l : List α) (hf : ∀ x ∈ l, ∀ d, Dev.EventRegsKept d (f d x)) :
    ∀ d : Dev, d.EventRegsKept (l.foldl f d) := by
  induction l with
  | nil => exact fun d => .refl d
  | cons x l ih =>
    exact fun d => (hf x List.mem_cons_self d).trans (ih (fun y hy => hf y (List.mem_cons_of_mem _ hy)) _)

theorem Dev.eventRegsKept_countPulse (n : Nat) (d : Dev) : d.EventRegsKept (d.countPulse n) := by
  refine Dev.eventRegsKept_foldl _ (fun k hk d => ?_) d
  have hk16 := List.mem_range.1 hk
  split
  · exact d.eventRegsKept_setReg _ _ (by simp only [EVM_CNT, EVENT_RAW]; omega) (by simp only [EVM_CNT, EVENT_MASK]; omega)
      (by simp only [EVM_CNT]; omega)
  · exact .refl d

theorem Dev.eventRegsKept_dmaPulse (n : Nat) (d : Dev) : d.EventRegsKept (d.dmaPulse n).1 := by
  unfold Dev.dmaPulse
  generalize List.range 24 = l
  suffices h : ∀ x : Dev × Nat, d.EventRegsKept x.1 → d.EventRegsKept (l.foldl _ x).1 from h (d, 0) (.refl d)
  induction l with
  | nil => exact fun x hx => hx
  | cons c l ih =>
    refine fun x hx => ih _ (hx.trans ?_)
    dsimp only
    split
    · split
      · exact x.1.eventRegsKept_setReg _ _ (by decide) (by decide) (by decide)
      · split
        · exact .refl _
        · exact x.1.eventRegsKept_setReg _ _ (by decide) (by decide) (by decide)
    · exact .refl _

theorem Dev.eventRegsKept_markPulse (n : Nat) (d : Dev) : d.EventRegsKept (d.markPulse n).1 := by
  unfold Dev.markPulse
  dsimp only
  split
  · exact .refl d
  · split
    · exact Dev.eventRegsKept_of_regs rfl rfl
    · split
      · exact .refl d
      · exact Dev.eventRegsKept_of_regs rfl rfl

/-! ### Belvedere's trigger -/

theorem Dev.eventRegsKept_blvSet (st : Nat) (d : Dev) : d.EventRegsKept (d.blvSet st) :=
  d.eventRegsKept_setReg _ _ (by decide) (by decide) (by decide)

/-- The state is entered with other parts of Belvedere's record changed before. -/
theorem Dev.eventRegsKept_blvSet_of (st : Nat) {d e : Dev} (hregs : e.regs = d.regs) (hvar : e.variant = d.variant) :
    d.EventRegsKept (e.blvSet st) := (Dev.eventRegsKept_of_regs hregs hvar).trans (e.eventRegsKept_blvSet st)

theorem Dev.eventRegsKept_blvReadyCheck (d : Dev) : d.EventRegsKept d.blvReadyCheck := by
  unfold Dev.blvReadyCheck
  split
  · exact Dev.eventRegsKept_blvSet_of _ rfl rfl
  · exact .refl d

theorem Dev.eventRegsKept_blvEnterPre (d : Dev) : d.EventRegsKept d.blvEnterPre := by
  unfold Dev.blvEnterPre
  refine .trans ?_ (Dev.eventRegsKept_blvReadyCheck _)
  exact Dev.eventRegsKept_blvSet_of _ rfl rfl

theorem Dev.eventRegsKept_blvFinish (d : Dev) : d.EventRegsKept d.blvFinish.1 := by
  unfold Dev.blvFinish
  split
  · exact d.eventRegsKept_blvSet _
  · dsimp only
    have hdone := d.eventRegsKept_blvSet blvDone
    split
    · exact hdone.trans (Dev.eventRegsKept_blvEnterPre _)
    · exact hdone

theorem Dev.eventRegsKept_blvAfterMask (d : Dev) : d.EventRegsKept d.blvAfterMask.1 := by
  unfold Dev.blvAfterMask
  dsimp only
  split
  · exact Dev.eventRegsKept_blvSet_of blvDump rfl rfl
  · exact d.eventRegsKept_blvFinish

theorem Dev.eventRegsKept_blvEndPost (b : Bool) (d : Dev) : d.EventRegsKept (d.blvEndPost b).1 := by
  unfold Dev.blvEndPost
  dsimp only
  generalize he : Dev.blvSet blvMask _ = e
  have hset : d.EventRegsKept e := he ▸ Dev.eventRegsKept_blvSet_of blvMask rfl rfl
  split
  · exact hset
  · exact (hset.trans (e.eventRegsKept_setReg 0x93 (off := BLV_STATUS) _ (by decide) (by decide) (by decide))).trans
      (Dev.eventRegsKept_blvAfterMask _)

theorem Dev.eventRegsKept_blvPostCheck (d : Dev) : d.EventRegsKept d.blvPostCheck.1 := by
  unfold Dev.blvPostCheck
  split
  · exact Dev.eventRegsKept_blvEndPost _ d
  · exact .refl d

theorem Dev.eventRegsKept_blvTake (r tt : Nat) (d : Dev) : d.EventRegsKept (d.blvTake r tt) := Dev.eventRegsKept_of_regs rfl rfl

theorem Dev.eventRegsKept_blvTrigger (r tt : Nat) (d : Dev) : d.EventRegsKept (d.blvTrigger r tt).1 := by
  have hbump : ∀ (e : Dev) (off : Nat), EVENT_MASK < off → off < 0x1000 → e.EventRegsKept (e.bump 0x93 off) := fun e off h hlt =>
    e.eventRegsKept_setReg _ _ (by simp only [EVENT_RAW, EVENT_MASK] at h ⊢; omega) (by omega) hlt
  unfold Dev.blvTrigger
  dsimp only
  have hcount : d.EventRegsKept (d.bump 0x93 BLV_TRIG_CNT) := hbump d _ (by decide) (by decide)
  generalize d.bump 0x93 BLV_TRIG_CNT = e at hcount ⊢
  split
  · exact .refl d
  · split
    · split
      · have htake := hcount.trans (e.eventRegsKept_blvTake r tt)
        split
        · exact htake.trans (Dev.eventRegsKept_blvPostCheck _)
        · exact htake
      · exact hcount
    · split
      · have hpost := (e.eventRegsKept_blvSet blvPost).trans (hbump _ BLV_CAPTURE_NUM (by decide) (by decide))
        exact ((hcount.trans hpost).trans (Dev.eventRegsKept_blvTake r tt _)).trans (Dev.eventRegsKept_blvPostCheck _)
      · split
        · exact hcount
        · exact (hcount.trans (hbump e BLV_MISSED_CNT (by decide) (by decide))).trans (Dev.eventRegsKept_of_regs rfl rfl)

/-! ### Consumers -/

theorem Dev.eventRegsKept_deliver (n : Nat) (d : Dev) : d.EventRegsKept (d.deliver n).1 := by
  unfold Dev.deliver
  dsimp only
  split
  · exact .refl d
  · have hpulsed : d.EventRegsKept { d with evm := { d.evm with pulsed := n :: d.evm.pulsed } } := Dev.eventRegsKept_of_regs rfl rfl
    have hcount := hpulsed.trans (Dev.eventRegsKept_countPulse n _)
    have hpulses := ((hcount.trans (c := Dev.dtestPulse 0 n _) (Dev.eventRegsKept_of_regs rfl rfl)).trans
      (Dev.eventRegsKept_dmaPulse n _)).trans (Dev.eventRegsKept_markPulse n _)
    split
    · exact hpulses.trans (Dev.eventRegsKept_blvTrigger _ _ _)
    · exact hpulses

theorem Dev.eventRegsKept_logRaise (n p b : Nat) (d : Dev) : d.EventRegsKept (d.logRaise n p b).1 := by
  unfold Dev.logRaise
  split
  · exact Dev.eventRegsKept_of_regs rfl rfl
  · exact .refl d

/-! ### RAW bits grow -/

/-- Every RAW bit of `d` is set in `e`, and the masks are those of `d`. -/
structure Dev.EventsGrow (d e : Dev) : Prop where
  raw : ∀ q c, c < 32 → d.bit q EVENT_RAW c = true → e.bit q EVENT_RAW c = true
  mask : ∀ q, e.reg q EVENT_MASK = d.reg q EVENT_MASK

theorem Dev.EventRegsKept.grow {d e : Dev} (h : d.EventRegsKept e) : d.EventsGrow e where
  raw q c _ hset := by simpa only [Dev.bit, Dev.fld, h.raw] using hset
  mask := h.mask

theorem Dev.EventsGrow.trans {a b c : Dev} (h : a.EventsGrow b) (g : b.EventsGrow c) : a.EventsGrow c :=
  ⟨fun q n hn hset => g.raw q n hn (h.raw q n hn hset), fun q => (g.mask q).trans (h.mask q)⟩

theorem Dev.eventsGrow_foldl {α : Type} {f : Dev → α → Dev} (hf : ∀ d x, Dev.EventsGrow d (f d x)) (l : List α) :
    ∀ d : Dev, d.EventsGrow (l.foldl f d) := by
  induction l with
  | nil => exact fun d => (Dev.EventRegsKept.refl d).grow
  | cons x l ih => exact fun d => (hf d x).trans (ih _)

theorem Dev.bit_setBit_self (d : Dev) (p off : Nat) {b : Nat} (hb : b < 32) : (d.setBit p off b).bit p off b = true := by
  rw [Dev.bit, Dev.setBit, Dev.fld_setFld_self _ _ _ _ (Nat.le_refl b) hb, Nat.sub_self]
  rfl

/-- Setting a RAW bit: the other bits of its register stay, as the bits of the other pages do. -/
theorem Dev.eventsGrow_setBit (p b : Nat) (d : Dev) : d.EventsGrow (d.setBit p EVENT_RAW b) where
  raw q c hc hset := by
    by_cases hq : q = p
    · subst hq
      by_cases hcb : c = b
      · subst hcb
        exact d.bit_setBit_self q EVENT_RAW hc
      · rw [Dev.bit, Dev.setBit, Dev.fld_setFld_disjoint d q ⟨EVENT_RAW, b, b⟩ ⟨EVENT_RAW, c, c⟩ 1 rfl (Nat.le_refl b) (Nat.le_refl c) hc (by
          simp only; omega)]
        exact hset
    · rw [Dev.bit, Dev.setBit, Dev.fld_setFld_other _ _ _ _ _ _ (regKey_page hq (show EVENT_RAW < 0x1000 by decide) (show EVENT_RAW < 0x1000 by decide))]
      exact hset
  mask q := Dev.reg_setReg_other d _ (by simp only [regKey, EVENT_MASK, EVENT_RAW]; omega)

/-- Each of the raises that a raise causes sets one more bit. -/
theorem Dev.eventsGrow_raiseN (fuel : Nat) : ∀ (p b : Nat) (d : Dev), (d.setBit p EVENT_RAW b).EventsGrow (Dev.raiseN fuel p b d) := by
  induction fuel with
  | zero => exact fun p b d => (Dev.EventRegsKept.refl _).grow
  | succ fuel ih =>
    have hraise : ∀ (p b : Nat) (d : Dev), d.EventsGrow (Dev.raiseN fuel p b d) := fun p b d => (d.eventsGrow_setBit p b).trans (ih p b d)
    have hovf : ∀ (c : Prop) [Decidable c] (off n : Nat) (d : Dev), off ∈ [EVM_LOG_OVF, EVM_PULSE_MERGE] →
        d.EventsGrow (if c then d.bumpBy 0x02 off n else d) := by
      intro c _ off n d hoff
      have hoff' : off ≠ EVENT_RAW ∧ off ≠ EVENT_MASK ∧ off < 0x1000 := by
        simp only [List.mem_cons, List.not_mem_nil, or_false] at hoff
        rcases hoff with rfl | rfl <;> decide
      split
      · exact (d.eventRegsKept_setReg _ _ hoff'.1 hoff'.2.1 hoff'.2.2).grow
      · exact (Dev.EventRegsKept.refl d).grow
    have hseen : ∀ (c : Bool) (off q : Nat) (d : Dev),
        d.EventsGrow (if c = true then Dev.raiseN fuel 0x02 q (d.markSeen 0x02 off) else d) := by
      intro c off q d
      split
      · exact (Dev.eventRegsKept_of_regs (d := d) (e := d.markSeen 0x02 off) rfl rfl).grow.trans (hraise _ _ _)
      · exact (Dev.EventRegsKept.refl d).grow
    intro p b d
    unfold Dev.raiseN
    dsimp only
    generalize d.setBit p EVENT_RAW b = e
    split
    · exact (Dev.EventRegsKept.refl e).grow
    · next n _ =>
      have hconsumers := ((e.eventRegsKept_logRaise n p b).trans (Dev.eventRegsKept_deliver n _)).grow
      refine Dev.EventsGrow.trans ?_ (Dev.eventsGrow_foldl (fun d b => hraise 0x93 b d) _ _)
      refine Dev.EventsGrow.trans ?_ (hseen _ EVM_PULSE_MERGE 1 _)
      refine Dev.EventsGrow.trans ?_ (hovf _ EVM_PULSE_MERGE _ _ (by simp))
      refine Dev.EventsGrow.trans ?_ (hseen _ EVM_LOG_OVF 0 _)
      exact hconsumers.trans (hovf _ EVM_LOG_OVF 1 _ (by simp))

/-- What a raise does: its RAW bit is set, and from there RAW bits only grow. -/
theorem Dev.eventsGrow_raise (p b : Nat) (d : Dev) : (d.setBit p EVENT_RAW b).EventsGrow (d.raise p b) := Dev.eventsGrow_raiseN 5 p b d

theorem Dev.bit_eq_getLsbD (d : Dev) (p off b : Nat) : d.bit p off b = (d.reg p off).getLsbD b := by
  simp only [Dev.bit, Dev.fld, bitsOf, BitVec.getLsbD, Nat.testBit, Nat.sub_self, Nat.zero_add, Nat.pow_one, Nat.one_and_eq_mod_two]
  rcases Nat.mod_two_eq_zero_or_one ((d.reg p off).toNat >>> b) with h | h <;> rw [h] <;> rfl

/-- Settles O59: the bit is set first, and what follows clears no RAW bit and writes no mask. -/
theorem raisingSetsRawWhateverTheMask : Obligations.RaisingSetsRawWhateverTheMask := by
  intro d p b hb
  have hgrow := d.eventsGrow_raise p b
  have hset := d.eventsGrow_setBit p b
  have hraw := hgrow.raw p b hb (d.bit_setBit_self p EVENT_RAW hb)
  refine ⟨hraw, ?_, (hset.trans hgrow).raw, (hset.trans hgrow).mask⟩
  rw [Dev.bit_eq_getLsbD] at hraw
  rw [Dev.pending, (hset.trans hgrow).mask, BitVec.getLsbD_and, BitVec.getLsbD_not, hraw, Dev.bit_eq_getLsbD]
  simp [hb]

end Sys2Proof.Machine
end

section
/-! Refused requests of a device state (21_power_startup.md, R463, Table 21-4). -/
namespace Sys2Proof.Machine

/-! ### The refusal of each request -/

/-- The codes of Table 21-4's column of reasons end at 5. -/
theorem Dev.armedRefusal_le (d : Dev) : d.armedRefusal ≤ 4 := by
  unfold Dev.armedRefusal
  split
  · decide
  · split
    · decide
    · split <;> decide

theorem Dev.requestRefusal_le (req : Nat) (d : Dev) : d.requestRefusal req ≤ 5 := by
  have harmed := d.armedRefusal_le
  have hcodes : reqTransition ≤ 5 ∧ reqThermal ≤ 5 ∧ reqUnlocked ≤ 5 := by decide
  unfold Dev.requestRefusal
  dsimp only
  repeat' split
  all_goals omega

/-- ARMED from STANDBY is refused by its conditions alone. -/
theorem Dev.requestRefusal_armed {d : Dev} (hb : d.boundary = false) (hs : d.devState = stStandby) :
    d.requestRefusal stArmed = d.armedRefusal := by
  unfold Dev.requestRefusal
  rw [hb, hs]
  rfl

/-- SCANNING from ARMED, its other conditions holding, is refused by an unlocked page alone. -/
theorem Dev.requestRefusal_scanning {d : Dev} (hb : d.boundary = false) (hs : d.devState = stArmed) (ha : d.armedRefusal = 0) :
    d.requestRefusal stScanning = if scanLocks.all (fun p => d.locked p) then 0 else reqUnlocked := by
  unfold Dev.requestRefusal
  rw [hb, hs, ha]
  rfl

theorem Dev.requestRefusal_scanning_elsewhere {d : Dev} (hs : d.devState ≠ stArmed) : d.requestRefusal stScanning = reqTransition := by
  unfold Dev.requestRefusal
  dsimp only
  rw [beq_eq_false_iff_ne.2 hs]
  cases d.boundary <;> rfl

theorem Dev.requestRefusal_fault {d : Dev} (hs : d.devState = stFault) (r : Nat) : d.requestRefusal r = reqTransition := by
  have hfault : (stFault == stStandby) = false ∧ (stFault == stArmed) = false ∧ (stFault == stScanning) = false ∧
      (stFault == stSafeHold) = false := by decide
  obtain ⟨hstandby, harmed, hscanning, hhold⟩ := hfault
  unfold Dev.requestRefusal
  simp only [hs, hstandby, harmed, hscanning, hhold, Bool.or_self, Bool.false_eq_true, if_false, ite_self]

/-! ### What a refused request leaves -/

/-- A refused request writes the two fields of PWR.REQ_STATUS. -/
theorem Dev.stateRequest_refused {d : Dev} {r : Nat} (h : d.requestRefusal r ≠ 0) :
    d.stateRequest r = (d.setFld 0x01 PWR_REQ_STATUS_LAST r).setFld 0x01 PWR_REQ_STATUS_ERR (d.requestRefusal r) :=
  if_neg (mt beq_iff_eq.1 h)

/-- Settles O19: a refusal is at most 5, so its field holds it, and the writes are of PWR.REQ_STATUS alone. -/
theorem refusedRequestsLeaveTheState : Obligations.RefusedRequestsLeaveTheState := by
  refine ⟨fun d r hr hne => ?_, fun d hb hs => ?_, fun d hb hs ha => ?_, fun d hs => Dev.requestRefusal_scanning_elsewhere hs,
    fun d r hs => Dev.requestRefusal_fault hs r⟩
  · have hle := d.requestRefusal_le r
    rw [Dev.stateRequest_refused hne]
    refine ⟨?_, ?_, ?_⟩
    · rw [Dev.devState, Dev.fld_setFld_other _ _ _ _ _ _ (by decide), Dev.fld_setFld_other _ _ _ _ _ _ (by decide), Dev.devState]
    · rw [Dev.fld_setFld_disjoint _ _ PWR_REQ_STATUS_ERR PWR_REQ_STATUS_LAST _ rfl (by decide) (by decide) (by decide) (by decide),
        Dev.fld_setFld_self _ _ _ _ (by decide) (by decide)]
      exact Nat.mod_eq_of_lt hr
    · rw [Dev.fld_setFld_self _ _ _ _ (by decide) (by decide)]
      exact Nat.mod_eq_of_lt (show d.requestRefusal r < 16 by omega)
  · rw [Dev.requestRefusal_armed hb hs]
    simp [Dev.armedRefusal]
  · rw [Dev.requestRefusal_scanning hb hs ha]
    have hlocks : scanLocks.all (fun p => d.locked p) = false ↔ ∃ p ∈ scanLocks, d.locked p = false := by
      simp only [List.all_eq_false, Bool.not_eq_true]
    rw [show (∃ p ∈ [0x06, 0x84, 0x85, 0x86, 0x87, 0x8E, 0x90, 0x91], d.locked p = false) = ∃ p ∈ scanLocks, d.locked p = false from rfl, ← hlocks]
    cases scanLocks.all (fun p => d.locked p) <;> simp

end Sys2Proof.Machine
end

section
/-! What a reset leaves (21_power_startup.md, R457, R458). -/
namespace Sys2Proof.Machine

/-! ### The device that a reset begins from -/

/-- A word that was being programmed takes a free value; nothing but the count of these changes. -/
theorem Dev.otpAfter_dev (d : Dev) : ∃ c, d.otpAfter.2 = { d with freeCtr := c } := by
  unfold Dev.otpAfter
  split
  · exact ⟨d.freeCtr, rfl⟩
  · exact ⟨d.freeCtr + 1, rfl⟩

theorem Dev.otpAfter_idle {d : Dev} (h : d.otp.job = none) : d.otpAfter = ({ words := d.otp.words, ecc := d.otp.ecc }, d) := by
  simp only [Dev.otpAfter, h]

/-- The blocks of a device just reset, no register written yet. -/
def Dev.cleared (otp : Otp) (d : Dev) : Dev :=
  { variant := d.variant, now := d.now, freeCtr := d.freeCtr, blankLow := d.blankLow, otp := otp,
    gth := { emitEn := d.gth.emitEn, emitSince := d.gth.emitSince }, ldg := { raw := d.ldg.raw },
    pwr := { d.pwr with switch := none } }

/-- The registers that show what a reset finds. -/
def Dev.resetShown (cause : Nat) (d n : Dev) : Dev :=
  ((((((n.setFld 0x00 DEV_STATE_STATE stReset).setReg 0x00 DEV_FAULT_CAUSE (d.reg 0x00 DEV_FAULT_CAUSE)).setFld
    0x01 PWR_STATUS_PWRGOOD (!bitAt d.pwr.causes 3).toNat).setFld 0x01 PWR_STATUS_SUPPLY_OK (d.fld 0x01 PWR_STATUS_SUPPLY_OK)).setFld
    0x85 GTH_STATUS_EMIT_EN d.gth.emitEn.toNat).setFld 0x01 PWR_RESET_CAUSE_CAUSE cause)

theorem Dev.inReset_eq (cause : Nat) (d : Dev) :
    d.inReset cause false = Dev.resetShown cause d.otpAfter.2 (Dev.cleared d.otpAfter.1 d.otpAfter.2) := rfl

theorem Dev.setReg_regs {d e : Dev} (h : ∃ regs, e = { d with regs := regs }) (p off : Nat) (w : Word) :
    ∃ regs, e.setReg p off w = { d with regs := regs } := by
  obtain ⟨regs, rfl⟩ := h
  exact ⟨_, rfl⟩

/-- They are registers: the blocks are those given. -/
theorem Dev.resetShown_blocks (cause : Nat) (d n : Dev) : ∃ regs, Dev.resetShown cause d n = { n with regs := regs } := by
  simp only [Dev.resetShown, Dev.setFld]
  iterate 6 refine Dev.setReg_regs ?_ _ _ _
  exact ⟨n.regs, rfl⟩

/-- Only the five registers of `Dev.resetShown` differ from their reset values. -/
theorem Dev.inReset_reg {p off : Nat} (cause : Nat) (d : Dev) (hoff : off < 0x1000)
    (h : (p, off) ∉ [(0x00, DEV_STATE), (0x00, DEV_FAULT_CAUSE), (0x01, PWR_STATUS), (0x01, PWR_RESET_CAUSE), (0x85, GTH_STATUS)]) :
    (d.inReset cause false).reg p off = resetReg d.variant p off := by
  have hkey : ∀ {q o : Nat}, o < 0x1000 → (p, off) ≠ (q, o) → regKey p off ≠ regKey q o := by
    intro q o ho hne heq
    simp only [regKey] at heq
    exact hne (Prod.ext_iff.2 ⟨by dsimp only; omega, by dsimp only; omega⟩)
  simp only [List.mem_cons, List.not_mem_nil, or_false, not_or] at h
  obtain ⟨hstate, hfault, hstatus, hcause, hgth⟩ := h
  have hclear : ∀ (o : Otp) (e : Dev), (Dev.cleared o e).reg p off = resetReg e.variant p off := by
    intro o e
    have hreg : (Dev.cleared o e).reg p off = resetReg e.variant (regKey p off / 0x1000) (regKey p off % 0x1000) := rfl
    rw [hreg, show regKey p off / 0x1000 = p by simp only [regKey]; omega, show regKey p off % 0x1000 = off by simp only [regKey]; omega]
  obtain ⟨c, hdev⟩ := d.otpAfter_dev
  rw [Dev.inReset_eq, Dev.resetShown, Dev.setFld, Dev.reg_setReg_other _ _ (hkey (by decide) hcause), Dev.setFld,
    Dev.reg_setReg_other _ _ (hkey (by decide) hgth), Dev.setFld, Dev.reg_setReg_other _ _ (hkey (by decide) hstatus), Dev.setFld,
    Dev.reg_setReg_other _ _ (hkey (by decide) hstatus), Dev.reg_setReg_other _ _ (hkey (by decide) hfault), Dev.setFld,
    Dev.reg_setReg_other _ _ (hkey (by decide) hstate), hclear, hdev]

/-- DEV.FAULT_CAUSE is written with what the reset finds. -/
theorem Dev.inReset_faultCause (cause : Nat) (d : Dev) :
    (d.inReset cause false).reg 0x00 DEV_FAULT_CAUSE = d.reg 0x00 DEV_FAULT_CAUSE := by
  obtain ⟨c, hdev⟩ := d.otpAfter_dev
  have hkeys : ∀ {q o : Nat}, regKey 0x00 DEV_FAULT_CAUSE ≠ regKey q o → ∀ (e : Dev) (f : Fld) (v : Nat), f.off = o →
      (e.setFld q f v).reg 0x00 DEV_FAULT_CAUSE = e.reg 0x00 DEV_FAULT_CAUSE := by
    rintro q o hne e f v rfl
    exact Dev.reg_setReg_other _ _ hne
  rw [Dev.inReset_eq, Dev.resetShown, hkeys (by decide) _ PWR_RESET_CAUSE_CAUSE _ rfl, hkeys (by decide) _ GTH_STATUS_EMIT_EN _ rfl,
    hkeys (by decide) _ PWR_STATUS_SUPPLY_OK _ rfl, hkeys (by decide) _ PWR_STATUS_PWRGOOD _ rfl, Dev.reg_setReg_self, hdev]
  rfl

/-- Settles O21: a reset writes five registers of a device whose blocks are new, and hands on what lies outside its domain. -/
theorem resetLeavesResetValues : Obligations.ResetLeavesResetValues := by
  intro d cause _ hc n
  obtain ⟨c, hdev⟩ := d.otpAfter_dev
  obtain ⟨regs, hn⟩ : ∃ regs, n = { Dev.cleared d.otpAfter.1 d.otpAfter.2 with regs := regs } := Dev.resetShown_blocks cause _ _
  refine ⟨d.inReset_devState cause false, d.inReset_cause (by omega) false, d.inReset_faultCause cause,
    fun p off hoff h => d.inReset_reg cause hoff h, ?_⟩
  clear_value n
  subst hn
  rw [hdev]
  refine ⟨rfl, rfl, rfl, rfl, rfl, rfl, rfl, rfl, rfl, rfl, rfl, fun hidle => ?_, rfl, rfl, rfl, rfl, rfl⟩
  rw [d.otpAfter_idle hidle]
  exact ⟨rfl, rfl⟩

end Sys2Proof.Machine
end

section
/-! An update of a Fountain loop in CLOSED (10_fountain_loops.md, R229 to R239). -/
namespace Sys2Proof.Machine

/-! ### Registers of a loop's page -/

/-- A register of a loop's page that an update's own reports leave: its settings. -/
def isSetting (off : Nat) : Prop := off < 0x1000 ∧ off ≠ FTN_SP_RAMP ∧ off ≠ FTN_STATE ∧ off ≠ EVENT_RAW

/-- A setting of loop l is left by what raises an event. -/
theorem isSetting.still {off l : Nat} (h : isSetting off) (hl : l < 8) : isStill (ftnPage l) off := by
  obtain ⟨hlt, -, -, hraw⟩ := h
  simp only [isStill, ftnPage]
  omega

theorem Dev.lf_setFld_other {d : Dev} {l : Nat} {f g : Fld} (v : Nat) (h : g.off ≠ f.off) : (d.setFld (ftnPage l) f v).lf l g = d.lf l g :=
  Dev.fld_setFld_other _ _ _ _ _ _ (regKey_off h)

theorem Dev.lf_setSpR {d : Dev} {l : Nat} {g : Fld} (x : Int) (h : isSetting g.off) : (d.setSpR l x).lf l g = d.lf l g := by
  rw [Dev.setSpR, Dev.rampFlag, Dev.lf_setFld_other _ h.2.2.1, Dev.lf_setFld_other _ h.2.1]

/-- The step of the set-point writes SP_r and may raise an event. -/
theorem Dev.rampStep_cases (d : Dev) (l : Nat) :
    ∃ x, d.rampStep l = d.setSpR l x ∨ d.rampStep l = (d.setSpR l x).raise (ftnPage l) 4 := by
  unfold Dev.rampStep
  extract_lets goal s s'
  refine ⟨s', ?_⟩
  clear_value s'
  split
  · exact .inr rfl
  · exact .inl rfl

theorem Dev.lf_rampStep {d : Dev} {l : Nat} {g : Fld} (hl : l < 8) (h : isSetting g.off) : (d.rampStep l).lf l g = d.lf l g := by
  obtain ⟨x, hstep | hstep⟩ := d.rampStep_cases l
  · rw [hstep, Dev.lf_setSpR _ h]
  · rw [hstep, Dev.lf, Dev.fld_raise_still _ _ _ (h.still hl), ← Dev.lf, Dev.lf_setSpR _ h]

theorem Dev.lq_rampStep {d : Dev} {l : Nat} {g : Fld} (hl : l < 8) (h : isSetting g.off) : (d.rampStep l).lq l g = d.lq l g := by
  rw [Dev.lq, Dev.lf_rampStep hl h, Dev.lq]

theorem Dev.lu_rampStep {d : Dev} {l : Nat} {g : Fld} (hl : l < 8) (h : isSetting g.off) : (d.rampStep l).lu l g = d.lu l g := by
  rw [Dev.lu, Dev.lf_rampStep hl h, Dev.lu]

theorem Dev.setSpR_loops (d : Dev) (l : Nat) (x : Int) : (d.setSpR l x).loops = d.loops := by
  rw [Dev.setSpR, Dev.rampFlag, Dev.setFld_loops, Dev.setFld_loops]

theorem Dev.getLoop_rampStep (d : Dev) (l : Nat) : (d.rampStep l).getLoop l = d.getLoop l := by
  obtain ⟨x, hstep | hstep⟩ := d.rampStep_cases l
  · rw [hstep, Dev.getLoop, Dev.setSpR_loops, Dev.getLoop]
  · rw [hstep, Dev.getLoop, Dev.raise_loops, Dev.setSpR_loops, Dev.getLoop]

/-! ### The output -/

@[simp] theorem Dev.getLoop_setLoop (d : Dev) (l : Nat) (x : Loop) : (d.setLoop l x).getLoop l = x := SMap.get_put_self _ _ _ _

/-- Applying an output touches of its loop's record the pins alone. -/
theorem Dev.applyOut_loop (l : Nat) (u : Int) (d : Dev) :
    ((d.applyOut l u).getLoop l).i = (d.getLoop l).i ∧ ((d.applyOut l u).getLoop l).df = (d.getLoop l).df ∧
    ((d.applyOut l u).getLoop l).acc = (d.getLoop l).acc := by
  have hloop : (d.setFld (ftnPage l) FTN_OUT_U (clampI 0 32767 u).toNat).getLoop l = d.getLoop l := rfl
  unfold Dev.applyOut
  dsimp only
  rw [Dev.getLoop_setLoop, hloop]
  split <;> exact ⟨rfl, rfl, rfl⟩

/-- The output register holds the code limited to 0 to 32,767. -/
theorem Dev.applyOut_out (l : Nat) (u : Int) (d : Dev) : (d.applyOut l u).lf l FTN_OUT_U = (clampI 0 32767 u).toNat := by
  have hreg : (d.applyOut l u).lf l FTN_OUT_U = (d.setFld (ftnPage l) FTN_OUT_U (clampI 0 32767 u).toNat).lf l FTN_OUT_U := rfl
  have hclamp : (clampI 0 32767 u).toNat < 2 ^ 16 := by
    unfold clampI
    split
    · decide
    · split <;> omega
  rw [hreg, Dev.lf, Dev.fld_setFld_self _ _ _ _ (by decide) (by decide)]
  exact Nat.mod_eq_of_lt hclamp

/-! ### The update -/

/-- The report of a clamped integrator leaves the loops' records. -/
theorem Dev.iClamped_loops (l : Nat) (d : Dev) (c : Prop) [Decidable c] (v : Nat) :
    (if c then (d.setFld (ftnPage l) FTN_STATE_I_CLAMPED v).raise (ftnPage l) 6 else d.setFld (ftnPage l) FTN_STATE_I_CLAMPED v).getLoop l =
      d.getLoop l := by
  split
  · simp only [Dev.getLoop, Dev.raise_loops]
    rfl
  · rfl

/-- Settles O37: the ramp's step leaves the settings and the record of the loop, and the report and the output leave what the law has
computed. -/
theorem loopUpdatesFollowThePid : Obligations.LoopUpdatesFollowThePid := by
  intro d l y hl hfirst r x e lim i df acc
  have hset : ∀ {g : Fld}, g.off ∈ [FTN_GAIN_PI, FTN_GAIN_D, FTN_OUT_LIM] → isSetting g.off := by
    intro g hg
    simp only [List.mem_cons, List.not_mem_nil, or_false] at hg
    rcases hg with h | h | h <;> rw [h] <;> unfold isSetting <;> decide
  have hki : r.lq l FTN_GAIN_PI_KI = d.lq l FTN_GAIN_PI_KI := Dev.lq_rampStep hl (hset (by decide))
  have hkp : r.lq l FTN_GAIN_PI_KP = d.lq l FTN_GAIN_PI_KP := Dev.lq_rampStep hl (hset (by decide))
  have hkd : r.lq l FTN_GAIN_D_KD = d.lq l FTN_GAIN_D_KD := Dev.lq_rampStep hl (hset (by decide))
  have hda : r.lu l FTN_GAIN_D_DALPHA = d.lu l FTN_GAIN_D_DALPHA := Dev.lu_rampStep hl (hset (by decide))
  have hmin : r.lu l FTN_OUT_LIM_OUT_MIN = d.lu l FTN_OUT_LIM_OUT_MIN := Dev.lu_rampStep hl (hset (by decide))
  have hmax : r.lu l FTN_OUT_LIM_OUT_MAX = d.lu l FTN_OUT_LIM_OUT_MAX := Dev.lu_rampStep hl (hset (by decide))
  have hx : r.getLoop l = x := d.getLoop_rampStep l
  unfold Dev.pid
  simp only [hfirst, Bool.false_eq_true, if_false]
  rw [show d.rampStep l = r from rfl, hki, hkp, hkd, hda, hmin, hmax, hx]
  rw [(Dev.applyOut_loop _ _ _).1, (Dev.applyOut_loop _ _ _).2.1, (Dev.applyOut_loop _ _ _).2.2, Dev.applyOut_out, Dev.iClamped_loops,
    Dev.getLoop_setLoop]
  exact ⟨rfl, rfl, rfl, rfl, rfl⟩

end Sys2Proof.Machine
end

section
/-! The filters and detectors of Cascade (12_cascade_filters.md, R271 to R279). -/
namespace Sys2Proof.Machine

/-! ### Rounding and stages -/

theorem clampI_mem {lo hi : Int} (h : lo ≤ hi) (i : Int) : lo ≤ clampI lo hi i ∧ clampI lo hi i ≤ hi := by
  unfold clampI
  split
  · omega
  · split <;> omega

/-- The nearest multiple of 2^17 is at most half of 2^17 away, and an even one where two are. -/
theorem roundHalfEven17_near (n : Int) :
    -65536 ≤ n - 131072 * roundHalfEven17 n ∧ n - 131072 * roundHalfEven17 n ≤ 65536 ∧
    (n - 131072 * roundHalfEven17 n = 65536 ∨ n - 131072 * roundHalfEven17 n = -65536 → roundHalfEven17 n % 2 = 0) := by
  have hdiv : 131072 * (n / 131072) + n % 131072 = n := Int.mul_ediv_add_emod n 131072
  have hlt : n % 131072 < 131072 := Int.emod_lt_of_pos n (by decide)
  have hnn : 0 ≤ n % 131072 := Int.emod_nonneg n (by decide)
  unfold roundHalfEven17
  dsimp only
  split
  · omega
  · split
    · omega
    · split
      · next heven =>
        have heven' : n / 131072 % 2 = 0 := beq_iff_eq.1 heven
        omega
      · next hodd =>
        have hodd' : n / 131072 % 2 ≠ 0 := mt beq_iff_eq.2 hodd
        omega

/-- A stage computes an output at every second input from the one that fills its delay line. -/
theorem HalfBand.step_output {h : HalfBand} {k : Nat} {x y : Int} {o : Bool} (hout : (h.step k x).2 = some (y, o)) :
    -8388608 ≤ y ∧ y ≤ 8388607 ∧ 2 * (halfBandSet k).1 + 1 ≤ h.n + 1 ∧ (h.n + 1 - (2 * (halfBandSet k).1 + 1)) % 2 = 0 := by
  unfold HalfBand.step at hout
  dsimp only at hout
  split at hout
  · cases hout
  · next hturn =>
    simp only [Option.some.injEq, Prod.mk.injEq] at hout
    simp only [Bool.or_eq_true, decide_eq_true_eq, not_or, Nat.not_lt] at hturn
    obtain ⟨hlo, hhi⟩ := clampI_mem (lo := -8388608) (hi := 8388607) (by decide) _
    rw [hout.1] at hlo hhi
    exact ⟨hlo, hhi, hturn.1, by omega⟩

/-! ### Detectors -/

/-- The magnitude of a 24-bit value, the most negative one limited. -/
theorem magnitude_le {x : Int} (hlo : -8388608 ≤ x) (hhi : x ≤ 8388607) : (if x == -8388608 then 8388607 else x.natAbs) ≤ 8388607 := by
  split
  · exact Nat.le_refl _
  · next hne =>
    have hne' : x ≠ -8388608 := mt beq_iff_eq.2 hne
    omega

/-- A value that moves a fraction of the way to another stays below what bounds both. -/
theorem filtered_le {e a : Nat} {m : Nat} (k : Nat) (he : e ≤ m) (ha : a ≤ m) : ((e : Int) + ((a : Int) - e) / 2 ^ k).toNat ≤ m := by
  have hpow : (0 : Int) < 2 ^ k := Int.pow_pos (by decide)
  rcases Int.le_total (0 : Int) (a - e) with h | h
  · have hstep : ((a : Int) - e) / 2 ^ k ≤ a - e := Int.ediv_le_self _ h
    omega
  · have hstep : ((a : Int) - e) / 2 ^ k ≤ 0 := by
      have hdiv := Int.ediv_le_ediv hpow h
      rwa [Int.zero_ediv] at hdiv
    omega

@[simp] theorem Dev.getCsc_setCsc (d : Dev) (c : Nat) (x : CscCh) : (d.setCsc c x).getCsc c = x := SMap.get_put_self _ _ _ _

theorem Dev.getCsc_setCf (d : Dev) (c k : Nat) (f : Fld) (v : Nat) : (d.setCf c f v).getCsc k = d.getCsc k := rfl

theorem Dev.cscRms_ms (c : Nat) (x : Int) (d : Dev) :
    ((d.cscRms c x).getCsc c).ms = (((d.getCsc c).ms : Int) + (((if x == -8388608 then 8388607 else x.natAbs) *
      (if x == -8388608 then 8388607 else x.natAbs) : Nat) - ((d.getCsc c).ms : Int)) / 2 ^ max 1 (d.cf c CSC_DET_CFG_RMS_K)).toNat := by
  rw [Dev.cscRms, Dev.getCsc_setCf, Dev.getCsc_setCsc]

/-- The envelope moves towards the magnitude by its attack or its release. -/
theorem Dev.cscEnvelope_env (c : Nat) (x : Int) (d : Dev) :
    ∃ sh, ((d.cscEnvelope c x).getCsc c).env = (((d.getCsc c).env : Int) +
      ((256 * (if x == -8388608 then 8388607 else x.natAbs) : Nat) - ((d.getCsc c).env : Int)) / 2 ^ sh).toNat := by
  unfold Dev.cscEnvelope
  extract_lets k a e sh e' thr rises d'
  refine ⟨sh, ?_⟩
  have henv : (d'.getCsc c).env = e' := by rw [Dev.getCsc_setCf, Dev.getCsc_setCsc]
  have hraise : (if (rises && !d'.bit 0x92 CSC_ENV_HI c) = true then (d'.setBit 0x92 CSC_ENV_HI c).raise 0x92 1 else d').getCsc c =
      d'.getCsc c := by
    split
    · rw [Dev.getCsc, Dev.raise_csc]
      rfl
    · rfl
  rw [hraise, henv]
  simp only [e', a, e, k, Int.natCast_mul, Int.cast_ofNat_Int]

/-- Settles O40: the coefficients are evaluated, the rounding and the stage are their cases, and the detectors move between what they hold
and a magnitude that their width bounds. -/
theorem cascadeFilterLaws : Obligations.CascadeFilterLaws := by
  refine ⟨by decide, roundHalfEven17_near, fun h k x y o hout => HalfBand.step_output hout, fun d c x hlo hhi hms => ?_,
    fun d c x hlo hhi henv => ?_⟩
  · rw [Dev.cscRms_ms]
    have hsq := Nat.pow_le_pow_left (magnitude_le hlo hhi) 2
    rw [Nat.pow_two] at hsq
    exact filtered_le _ hms hsq
  · obtain ⟨sh, hstep⟩ := d.cscEnvelope_env c x
    rw [hstep]
    exact filtered_le _ henv (Nat.mul_le_mul_left 256 (magnitude_le hlo hhi))

end Sys2Proof.Machine
end

section
/-! Executed Pergola instructions: what a step comes to for each result of its instruction (14_pergola_dsp.md, R303, R307, R308). -/
namespace Sys2Proof.Machine

/-! ### A step of a running core -/

/-- A step of a running core finishes what its instruction answers. -/
theorem State.pglStepIf_runs {s : State} {t k op : Nat} {is : Nat → Bool} (h : s.runsOp t k op = true) (his : is op = true)
    (used : PglFields → List Nat) (run : PglFields → Dev → PglRes) :
    (s.begun t).pglStepIf k is used run = ((s.begun t).zldDue k).finish k ((s.begun t).fld (pglPage k) PGL_PC_PC)
      (accesses (used (s.pglFlds t k))) (run (s.pglFlds t k) (s.pglDev t k)) := by
  obtain ⟨-, hk, hstate, hgated, hrange, hop⟩ := State.runsOp_iff.1 h
  simp only [State.pglFlds, Dev.pglFront, State.pglDev] at hop ⊢
  simp only [Dev.pglStepIf, hstate, hgated, hrange, hop, his, show ¬ 32 ≤ k by omega, decide_false, bne_self_eq_false,
    Bool.or_self, Bool.not_true, Bool.false_eq_true, if_false]

theorem State.pglStep_runs {s : State} {t k op : Nat} (h : s.runsOp t k op = true) (used : PglFields → List Nat)
    (run : PglFields → Dev → PglRes) :
    (s.begun t).pglStep k op used run = ((s.begun t).zldDue k).finish k ((s.begun t).fld (pglPage k) PGL_PC_PC)
      (accesses (used (s.pglFlds t k))) (run (s.pglFlds t k) (s.pglDev t k)) :=
  State.pglStepIf_runs (is := fun o => o == op) h (beq_self_eq_true op) used run

section
variable {s : State} {t k op : Nat} {i : Instr} {used : PglFields → List Nat} {run : PglFields → Dev → PglRes} {d : Dev}

/-- A command whose instruction answers `next` goes on to the next address. -/
theorem State.exec_pglNext (hi : exec i s = s.cmd t (okCore k) (Dev.pglStep k op used run)) (h : s.runsOp t k op = true)
    (hrun : run (s.pglFlds t k) (s.pglDev t k) = .next d) :
    exec i s = .next (s.put (d.pglAfter k ((s.begun t).fld (pglPage k) PGL_PC_PC) (used (s.pglFlds t k)))) := by
  rw [hi, State.cmd_runsOp h, State.pglStep_next h hrun]

/-- One whose instruction answers a taken branch, outside a block repeat. -/
theorem State.exec_pglJump {target : Nat} (hi : exec i s = s.cmd t (okCore k) (Dev.pglStep k op used run)) (h : s.runsOp t k op = true)
    (hused : used (s.pglFlds t k) = []) (hreps : (((s.begun t).zldDue k).getCore k).reps = [])
    (hrun : run (s.pglFlds t k) (s.pglDev t k) = .jump d target) :
    exec i s = .next (s.put (d.pglJump k target)) := by
  rw [hi, State.cmd_runsOp h, State.pglStep_runs h, hrun, hused, Dev.finish, hreps]
  rfl

/-- One whose instruction waits, or has set the PC itself, and the core runs on. -/
theorem State.exec_pglWait_running (hi : exec i s = s.cmd t (okCore k) (Dev.pglStep k op used run)) (h : s.runsOp t k op = true)
    (hrun : run (s.pglFlds t k) (s.pglDev t k) = .wait d) (hstate : d.coreState k = pglRunning) :
    exec i s = .next (s.put d) := by
  rw [hi, State.cmd_runsOp h, State.pglStep_runs h, hrun, Dev.finish, hstate]
  rfl

/-- One whose instruction leaves the core waiting or stopped: its waiting accesses are made at once. -/
theorem State.exec_pglWait_still (hi : exec i s = s.cmd t (okCore k) (Dev.pglStep k op used run)) (h : s.runsOp t k op = true)
    (hrun : run (s.pglFlds t k) (s.pglDev t k) = .wait d) (hstate : d.coreState k ≠ pglRunning) :
    exec i s = .next (s.put (d.accessNow k)) := by
  rw [hi, State.cmd_runsOp h, State.pglStep_runs h, hrun, Dev.finish, if_neg (mt beq_iff_eq.1 hstate)]

/-- One whose instruction traps. -/
theorem State.exec_pglTrap {cause : Nat} (hi : exec i s = s.cmd t (okCore k) (Dev.pglStep k op used run)) (h : s.runsOp t k op = true)
    (hrun : run (s.pglFlds t k) (s.pglDev t k) = .trap cause) :
    exec i s = .next (s.put (((s.begun t).zldDue k).coreTrap k cause)) := by
  rw [hi, State.cmd_runsOp h, State.pglStep_runs h, hrun, Dev.finish]

end

end Sys2Proof.Machine
end

section
/-! The arithmetic of a core (14_pergola_dsp.md, R303 to R306). -/
namespace Sys2Proof.Machine

/-! ### Results on integers -/

theorem pglShl_eq (a b : W24) : pglShl a b = if 24 ≤ b.toNat % 32 then 0 else BitVec.ofNat 24 (a.toNat * 2 ^ (b.toNat % 32)) := by
  apply BitVec.eq_of_toNat_eq
  rw [pglShl, BitVec.toNat_shiftLeft, Nat.shiftLeft_eq]
  split
  · next h =>
    obtain ⟨j, hj⟩ := Nat.exists_eq_add_of_le h
    rw [hj, Nat.pow_add, ← Nat.mul_assoc, Nat.mul_comm a.toNat, Nat.mul_assoc, Nat.mul_mod_right]
    rfl
  · rw [BitVec.toNat_ofNat]

theorem pglShr_eq (a b : W24) : pglShr a b =
    if 24 ≤ b.toNat % 32 then (if a.toInt < 0 then -1 else 0) else BitVec.ofInt 24 (a.toInt / 2 ^ (b.toNat % 32)) := by
  have hlo : -8388608 ≤ a.toInt := BitVec.le_toInt a
  have hhi : a.toInt < 8388608 := BitVec.toInt_lt
  rw [pglShr, BitVec.sshiftRight, Int.shiftRight_eq_div_pow]
  push_cast
  split
  · next h =>
    have hpow : (8388608 : Int) ≤ 2 ^ (b.toNat % 32) := by
      have hnat : 2 ^ 23 ≤ 2 ^ (b.toNat % 32) := Nat.pow_le_pow_right (by decide) (by omega)
      calc (8388608 : Int) = ((2 ^ 23 : Nat) : Int) := by rfl
        _ ≤ ((2 ^ (b.toNat % 32) : Nat) : Int) := Int.ofNat_le.2 hnat
        _ = 2 ^ (b.toNat % 32) := Int.natCast_pow 2 _
    generalize (2 : Int) ^ (b.toNat % 32) = p at hpow
    split
    · next hneg =>
      have hdiv : a.toInt / p = -1 := by
        rw [Int.ediv_eq_iff_of_pos (by omega)]
        omega
      rw [hdiv]
      rfl
    · next hpos =>
      rw [Int.ediv_eq_zero_of_lt (by omega) (by omega)]
      rfl
  · rfl

theorem pglMax_eq (a b : W24) : pglMax a b = BitVec.ofInt 24 (max a.toInt b.toInt) := by
  unfold pglMax
  split
  · rw [Int.max_eq_right (by omega), BitVec.ofInt_toInt]
  · rw [Int.max_eq_left (by omega), BitVec.ofInt_toInt]

theorem pglMin_eq (a b : W24) : pglMin a b = BitVec.ofInt 24 (min a.toInt b.toInt) := by
  unfold pglMin
  split
  · rw [Int.min_eq_right (by omega), BitVec.ofInt_toInt]
  · rw [Int.min_eq_left (by omega), BitVec.ofInt_toInt]

theorem pglAbs_eq (a : W24) : pglAbs a = if a.toInt = -8388608 then 0x7FFFFF else BitVec.ofNat 24 a.toInt.natAbs := by
  have hmin : a.toInt = -8388608 ↔ a = 0x800000 := by
    rw [show (-8388608 : Int) = (0x800000 : W24).toInt from by decide, BitVec.toInt_inj]
  unfold pglAbs
  simp only [hmin, beq_iff_eq]
  split
  · rfl
  · have hto := BitVec.toInt_eq_msb_cond a
    have hlt := a.isLt
    apply BitVec.eq_of_toNat_eq
    split
    · next hneg =>
      rw [hneg, if_pos rfl] at hto
      rw [BitVec.toNat_neg, BitVec.toNat_ofNat, hto]
      omega
    · next hpos =>
      rw [if_neg hpos] at hto
      rw [BitVec.toNat_ofNat, hto]
      omega

/-! ### Instructions with a 24-bit destination -/

/-- The flag C of an instruction that sets it. -/
def Core.withCarry (x : Core) (c : Option Bool) : Core := { x with c := c.getD x.c }

section
variable {s : State} {t k op : Nat} {i : Instr} {a b : W24}

/-- An instruction D ← g S T of readable sources. -/
theorem State.exec_alu {g : W24 → W24 → W24 × Option Bool} (hi : exec i s = s.cmd t (okCore k) (Dev.pglStep k op useBoth (Dev.alu k g)))
    (hs : (s.pglDev t k).srcS k (s.pglFlds t k) = .val a) (ht : (s.pglDev t k).srcT k (s.pglFlds t k) = .val b)
    (hd : isDest (s.pglFlds t k).d = true) (h : s.runsOp t k op = true) :
    exec i s =
      let f := s.pglFlds t k
      let e := (s.pglDev t k).putD k f [f.m1, f.m2] (g a b).1
      let x := (e.getCore k).setZN (g a b).1
      .next (s.put (Dev.pglAfter k ((s.begun t).fld (pglPage k) PGL_PC_PC) [f.m1, f.m2]
        (e.setCore k (x.withCarry (g a b).2)))) := by
  refine (State.exec_pglNext hi h ?_).trans rfl
  rw [Dev.alu, hs, ht]
  simp only [hd, if_true]
  cases (g a b).2 <;> rfl

/-- An instruction D ← g S with flags. -/
theorem State.exec_unary {g : W24 → W24} (hi : exec i s = s.cmd t (okCore k) (Dev.pglStep k op useM1 (Dev.unary k true g)))
    (hs : (s.pglDev t k).srcS k (s.pglFlds t k) = .val a) (hd : isDest (s.pglFlds t k).d = true) (h : s.runsOp t k op = true) :
    exec i s =
      let f := s.pglFlds t k
      let e := (s.pglDev t k).putD k f [f.m1] (g a)
      .next (s.put (Dev.pglAfter k ((s.begun t).fld (pglPage k) PGL_PC_PC) [f.m1] (e.setCore k ((e.getCore k).setZN (g a))))) := by
  refine (State.exec_pglNext hi h ?_).trans rfl
  rw [Dev.unary, hs]
  simp only [hd, if_true]

end

/-- CMP sets the flags and no destination. -/
theorem exec_pglCmp {s : State} {t k : Nat} {a b : W24} (hs : (s.pglDev t k).srcS k (s.pglFlds t k) = .val a)
    (ht : (s.pglDev t k).srcT k (s.pglFlds t k) = .val b) (h : s.runsOp t k 0x11 = true) :
    exec (.pglCmp t k) s =
      let d := s.pglDev t k
      let f := s.pglFlds t k
      .next (s.put (Dev.pglAfter k ((s.begun t).fld (pglPage k) PGL_PC_PC) [f.m1, f.m2]
        (d.setCore k (((d.getCore k).posts [f.m1, f.m2]).setZNC (a - b) (borrowOut a b))))) := by
  refine (State.exec_pglNext (op := 0x11) (used := useBoth) rfl h ?_).trans rfl
  rw [hs, ht]

/-- Settles O41: each instruction is `State.exec_alu` or `State.exec_unary` of its function, and the functions are the integers' ones. -/
theorem pergolaArithmeticCompletes : Obligations.PergolaArithmeticCompletes := by
  refine ⟨fun s t k a b => ?_, fun s t k a b => ?_, fun s t k a => ?_⟩
  · intro d f pc hs ht hd done
    refine ⟨?_, ?_, ?_, ?_, ?_, fun h => ?_, fun h => ?_, fun h => ?_, fun h => ?_⟩
    · exact State.exec_alu (g := fun a b => (a + b, some (carryOut a b))) rfl hs ht hd
    · exact State.exec_alu (g := fun a b => (a - b, some (borrowOut a b))) rfl hs ht hd
    · exact State.exec_alu (g := fun a b => (a &&& b, none)) rfl hs ht hd
    · exact State.exec_alu (g := fun a b => (a ||| b, none)) rfl hs ht hd
    · exact State.exec_alu (g := fun a b => (a ^^^ b, none)) rfl hs ht hd
    · rw [← pglShl_eq]
      exact State.exec_alu (g := fun a b => (pglShl a b, none)) rfl hs ht hd h
    · rw [← pglShr_eq]
      exact State.exec_alu (g := fun a b => (pglShr a b, none)) rfl hs ht hd h
    · rw [← pglMax_eq]
      exact State.exec_alu (g := fun a b => (pglMax a b, none)) rfl hs ht hd h
    · rw [← pglMin_eq]
      exact State.exec_alu (g := fun a b => (pglMin a b, none)) rfl hs ht hd h
  · intro d f pc hs ht h
    exact exec_pglCmp hs ht h
  · intro d f pc hs hd done
    refine ⟨State.exec_unary (g := id) rfl hs hd, fun h => ?_⟩
    rw [← pglAbs_eq]
    exact State.exec_unary (g := pglAbs) rfl hs hd h

end Sys2Proof.Machine
end

section
/-! The accumulator instructions of a core (14_pergola_dsp.md, R304 to R306). -/
namespace Sys2Proof.Machine

/-! ### Results on integers -/

theorem accOf_overflow_iff (i : Int) : (accOf i).2 = true ↔ i < -(2 ^ 55) ∨ 2 ^ 55 ≤ i := by
  simp only [accOf, Bool.or_eq_true, decide_eq_true_eq]
  omega

/-- STA's value: the shifted accumulator, limited to 24 bits where SATST is set. -/
theorem staValue_eq (a : W56) (sh : Nat) (sat : Bool) :
    staValue a sh sat =
      BitVec.ofInt 24 (if sat = true then max (-8388608) (min 8388607 (a.toInt / 2 ^ sh)) else a.toInt / 2 ^ sh) := by
  unfold staValue
  dsimp only
  generalize a.toInt / 2 ^ sh = i
  cases sat with
  | false => rfl
  | true =>
    simp only [Bool.true_and, decide_eq_true_eq, if_true]
    split
    · rw [show max (-8388608) (min 8388607 i) = 8388607 by omega]
      rfl
    · split
      · rw [show max (-8388608) (min 8388607 i) = -8388608 by omega]
        rfl
      · rw [show max (-8388608) (min 8388607 i) = i by omega]

/-! ### The instructions -/

section
variable {s : State} {t k op : Nat} {i : Instr} {a b : W24}

/-- An instruction that takes an accumulator to a new exact value from S × T. -/
theorem State.exec_mac {g : Int → Int → Int} (hi : exec i s = s.cmd t (okCore k) (Dev.pglStep k op useBoth (Dev.mac k g)))
    (hs : (s.pglDev t k).srcS k (s.pglFlds t k) = .val a) (ht : (s.pglDev t k).srcT k (s.pglFlds t k) = .val b)
    (hd : isAcc (s.pglFlds t k).d = true) (h : s.runsOp t k op = true) :
    exec i s =
      let d := s.pglDev t k
      let f := s.pglFlds t k
      let x := d.getCore k
      let r := g (x.readAcc f.d).toInt (a.toInt * b.toInt)
      let e := d.setCore k ((x.posts [f.m1, f.m2]).writeAcc f.d (BitVec.ofInt 56 r))
      .next (s.put (Dev.pglAfter k ((s.begun t).fld (pglPage k) PGL_PC_PC) [f.m1, f.m2]
        (if r < -(2 ^ 55) ∨ 2 ^ 55 ≤ r then e.coreFlag k (if f.d = 48 then PGL_STATUS_OVF0 else PGL_STATUS_OVF1) else e))) := by
  refine (State.exec_pglNext hi h ?_).trans rfl
  rw [Dev.mac, hs, ht]
  simp only [hd, if_true, ← accOf_overflow_iff, beq_iff_eq]
  rfl

theorem exec_pglLda (hs : (s.pglDev t k).srcS k (s.pglFlds t k) = .val a) (ht : (s.pglDev t k).srcT k (s.pglFlds t k) = .val b)
    (hd : isAcc (s.pglFlds t k).d = true) (h : s.runsOp t k 0x1C = true) :
    exec (.pglLda t k) s =
      let d := s.pglDev t k
      let f := s.pglFlds t k
      .next (s.put (Dev.pglAfter k ((s.begun t).fld (pglPage k) PGL_PC_PC) [f.m1, f.m2]
        (d.setCore k (((d.getCore k).posts [f.m1, f.m2]).writeAcc f.d (BitVec.ofInt 56 (a.toInt * 2 ^ shOf b)))))) := by
  refine (State.exec_pglNext (op := 0x1C) (used := useBoth) rfl h ?_).trans rfl
  rw [hs, ht]
  simp only [hd, if_true]

theorem exec_pglAadd (hd : isAcc (s.pglFlds t k).d = true) (hs : isAcc (s.pglFlds t k).s = true) (h : s.runsOp t k 0x1B = true) :
    exec (.pglAadd t k) s =
      let d := s.pglDev t k
      let f := s.pglFlds t k
      let x := d.getCore k
      let r := (x.readAcc f.d).toInt + (x.readAcc f.s).toInt
      let e := d.setCore k (x.writeAcc f.d (BitVec.ofInt 56 r))
      .next (s.put (Dev.pglAfter k ((s.begun t).fld (pglPage k) PGL_PC_PC) []
        (if r < -(2 ^ 55) ∨ 2 ^ 55 ≤ r then e.coreFlag k (if f.d = 48 then PGL_STATUS_OVF0 else PGL_STATUS_OVF1) else e))) := by
  refine (State.exec_pglNext (op := 0x1B) (used := useNone) rfl h ?_).trans rfl
  simp only [hd, hs, Bool.and_self, if_true, ← accOf_overflow_iff, beq_iff_eq]
  rfl

theorem exec_pglSta (ht : (s.pglDev t k).srcT k (s.pglFlds t k) = .val b) (hs : isAcc (s.pglFlds t k).s = true)
    (hd : isDest (s.pglFlds t k).d = true) (h : s.runsOp t k 0x1D = true) :
    exec (.pglSta t k) s =
      let d := s.pglDev t k
      let f := s.pglFlds t k
      .next (s.put (Dev.pglAfter k ((s.begun t).fld (pglPage k) PGL_PC_PC) [f.m2]
        (d.putD k f [f.m2] (staValue ((d.getCore k).readAcc f.s) (shOf b) (d.on (pglPage k) PGL_CTRL_SATST))))) := by
  refine (State.exec_pglNext (op := 0x1D) (used := useM2) rfl h ?_).trans rfl
  rw [ht]
  simp only [hs, hd, Bool.and_self, if_true]

theorem exec_pglClrf (h : s.runsOp t k 0x1F = true) :
    exec (.pglClrf t k) s = .next (s.put (Dev.pglAfter k ((s.begun t).fld (pglPage k) PGL_PC_PC) []
      ((((s.pglDev t k).setFld (pglPage k) PGL_STATUS_OVF0 0).setFld (pglPage k) PGL_STATUS_OVF1 0).setFld
        (pglPage k) PGL_STATUS_ZSTALE 0))) :=
  State.exec_pglNext (op := 0x1F) (used := useNone) rfl h rfl

end

/-- Settles O43: each instruction answers its accumulator by a function whose integer form is the rule's. -/
theorem pergolaAccumulatorsComplete : Obligations.PergolaAccumulatorsComplete := by
  refine ⟨fun s t k a b => ?_, fun s t k h => ?_, fun s t k b h => ?_, fun s t k a h => ?_, fun s t k h => exec_pglClrf h⟩
  · intro d f pc hs ht hd x acc done
    refine ⟨?_, ?_, ?_, exec_pglLda hs ht hd⟩
    · exact State.exec_mac (g := fun _ p => p) rfl hs ht hd
    · exact State.exec_mac (g := fun a p => a + p) rfl hs ht hd
    · exact State.exec_mac (g := fun a p => a - p) rfl hs ht hd
  · intro d f pc hd hs x r e
    exact exec_pglAadd hd hs h
  · intro d f pc ht hs hd i
    rw [exec_pglSta ht hs hd h]
    simp only [staValue_eq]
    rfl
  · intro d f pc hs hd x b
    rw [exec_pglDstep h hs hd]
    simp only [Dev.dstepped, dstep, ← apply_ite (BitVec.ofNat 56)]
    rfl

end Sys2Proof.Machine
end

section
/-! A device that enters FAULT keeps its cores' records (21_power_startup.md, R466; 16_lodge_safety.md, R353). -/
namespace Sys2Proof.Machine

theorem Dev.foldl_cores {α : Type} {f : Dev → α → Dev} (hf : ∀ d x, (f d x).cores = d.cores) (l : List α) :
    ∀ d : Dev, (l.foldl f d).cores = d.cores := by
  induction l with
  | nil => exact fun _ => rfl
  | cons x l ih => exact fun d => (ih _).trans (hf d x)

/-! ### Lodge's outputs -/

@[simp] theorem Dev.ossdCommand_cores (high : Bool) (d : Dev) (o : Nat) : (d.ossdCommand high o).cores = d.cores := by
  unfold Dev.ossdCommand
  split <;> simp [Dev.setLdgOut]

@[simp] theorem Dev.pairFollow_cores (d : Dev) (p : Nat) : (d.pairFollow p).cores = d.cores := by
  unfold Dev.pairFollow
  extract_lets on x e
  have he : e.cores = d.cores := rfl
  split
  · rfl
  · split <;> simp [Dev.setLdgPair, he]

@[simp] theorem Dev.ossdApply_cores (cmd : Nat) (d : Dev) : (d.ossdApply cmd).cores = d.cores :=
  (Dev.foldl_cores Dev.pairFollow_cores _ _).trans (Dev.foldl_cores (fun d o => Dev.ossdCommand_cores _ d o) _ _)

@[simp] theorem Dev.ossdOff_cores (d : Dev) : d.ossdOff.cores = d.cores := by
  rw [Dev.ossdOff, Dev.foldl_cores (fun _ _ => by rfl), Dev.ossdApply_cores]

/-! ### Gatehouse and the frame -/

@[simp] theorem Dev.inhibit_cores (seg cause window : Nat) (d : Dev) : (d.inhibit seg cause window).cores = d.cores := by
  unfold Dev.inhibit
  extract_lets d₁ d₂ d₃ d₄
  have h₃ : d₃.cores = d.cores := by
    simp only [d₃]
    split <;> rfl
  have h₄ : d₄.cores = d.cores := by
    simp only [d₄]
    split <;> exact h₃
  split
  · exact h₄
  · rw [Dev.raise_cores]
    exact h₄

@[simp] theorem Dev.inhibitShot_cores (seg k cause window : Nat) (d : Dev) : (d.inhibitShot seg k cause window).cores = d.cores := by
  unfold Dev.inhibitShot
  split
  · rfl
  · exact Dev.inhibit_cores _ _ _ _

@[simp] theorem Dev.revoke_cores (cause : Nat) (d : Dev) : (d.revoke cause).cores = d.cores := by
  unfold Dev.revoke
  extract_lets e
  have he : e.cores = d.cores := rfl
  split
  · exact he
  · refine (Dev.foldl_cores (fun d s => Dev.foldl_cores (fun d k => ?_) _ d) _ e).trans he
    split <;> simp

@[simp] theorem Dev.reform_cores (d : Dev) : d.reform.cores = d.cores := by
  unfold Dev.reform
  split
  · rfl
  · refine Dev.foldl_cores (fun d s => Dev.foldl_cores (fun d k => ?_) _ d) _ d
    split
    · split <;> simp
    · rfl

@[simp] theorem Dev.staticEnter_cores (d : Dev) : d.staticEnter.cores = d.cores := by
  unfold Dev.staticEnter
  extract_lets _ e
  have he : e.cores = d.cores := rfl
  split <;> simp [he, Dev.outputsFall]

@[simp] theorem Dev.motion_cores (fb hold sample : Bool) (d : Dev) : (d.motion fb hold sample).cores = d.cores := by simp [Dev.motion, apply_ite Dev.cores]

@[simp] theorem Dev.dumpFollow_cores (d : Dev) : d.dumpFollow.cores = d.cores := Dev.setFld_cores _ _ _ _

@[simp] theorem Dev.loop7Hold_cores (h : Bool) (d : Dev) : (d.loop7Hold h).cores = d.cores := by
  unfold Dev.loop7Hold Dev.dumpAssert Dev.dumpRelease
  dsimp only
  split
  · split <;> simp
  · split <;> simp

@[simp] theorem Dev.createPacket_cores (type : Nat) (payload : List Nat) (d : Dev) (late : Option Nat) :
    (d.createPacket type payload late).cores = d.cores := by
  simp [Dev.createPacket, Dev.egressUpdate, Dev.discardPacket, Dev.takeSeq, apply_ite Dev.cores]

@[simp] theorem Dev.closeFrame_cores (num : Nat) (d : Dev) : (d.closeFrame num).cores = d.cores := by
  unfold Dev.closeFrame
  split
  · rfl
  · split
    · exact Dev.createPacket_cores _ _ _ _
    · rfl

@[simp] theorem Dev.timedCheck_cores (d : Dev) : d.timedCheck.cores = d.cores := by rw [Dev.timedCheck]

@[simp] theorem Dev.swapBuffers_cores (d : Dev) : d.swapBuffers.cores = d.cores := by simp [Dev.swapBuffers, apply_ite Dev.cores]

@[simp] theorem Dev.endFrame_cores (trunc : Bool) (d : Dev) : (d.endFrame trunc).cores = d.cores := by
  unfold Dev.endFrame
  dsimp only
  split
  · rfl
  · split
    · split <;> simp [apply_ite Dev.cores]
    · simp

@[simp] theorem Dev.leaveScanning_cores (d : Dev) : d.leaveScanning.cores = d.cores := by
  have h : d.leaveScanning.cores = ((d.ossdOff.revoke causeState).endFrame false).cores := rfl
  rw [h, Dev.endFrame_cores, Dev.revoke_cores, Dev.ossdOff_cores]

/-! ### Device time and the loops -/

@[simp] theorem Dev.timeSet_cores (d : Dev) : d.timeSet.cores = d.cores := by
  unfold Dev.timeSet
  split <;> rfl

@[simp] theorem Dev.setTime_cores (v : Nat) (d : Dev) : (d.setTime v).cores = d.cores := (Dev.timeSet_cores _).trans rfl

@[simp] theorem Dev.applyMove_cores (m : Int × Bool) (d : Dev) : (d.applyMove m).cores = d.cores := by simp [Dev.applyMove, apply_ite Dev.cores, Dev.countOn]

@[simp] theorem Dev.applyPending_cores (d : Dev) : d.applyPending.cores = d.cores := by
  unfold Dev.applyPending
  cases d.dtb.pendLoad <;> dsimp only <;> split <;> simp

@[simp] theorem Dev.setLoop_cores (d : Dev) (l : Nat) (x : Loop) : (d.setLoop l x).cores = d.cores := rfl

@[simp] theorem Dev.loopTell_cores (l : Nat) (d : Dev) : (d.loopTell l).cores = d.cores := by
  unfold Dev.loopTell
  cases SMap.get none d.bnd.samples l <;> simp [apply_ite Dev.cores]

@[simp] theorem Dev.setLoopState_cores (l st : Nat) (d : Dev) : (d.setLoopState l st).cores = d.cores := Dev.loopTell_cores l _

@[simp] theorem Dev.loopOff_cores (l : Nat) (d : Dev) : (d.loopOff l).cores = d.cores := by simp [Dev.loopOff, apply_ite Dev.cores]

@[simp] theorem Dev.applyOut_cores (l : Nat) (u : Int) (d : Dev) : (d.applyOut l u).cores = d.cores := rfl

@[simp] theorem Dev.holdEnter_cores (l : Nat) (device : Bool) (d : Dev) : (d.holdEnter l device).cores = d.cores := by simp [Dev.holdEnter, apply_ite Dev.cores]

@[simp] theorem Dev.loopSync_cores (entry : Bool) (d : Dev) (l : Nat) : (d.loopSync entry l).cores = d.cores := by simp [Dev.loopSync, apply_ite Dev.cores]

@[simp] theorem Dev.loopsDevice_cores (d : Dev) : d.loopsDevice.cores = d.cores := Dev.foldl_cores (fun d l => by simp [apply_ite Dev.cores]) _ d

/-! ### The state FAULT -/

@[simp] theorem Dev.setState_cores (st : Nat) (d : Dev) : (d.setState st).cores = d.cores := by simp [Dev.setState, apply_ite Dev.cores]

@[simp] theorem Dev.enterFaultState_cores (d : Dev) : (d.enterState stFault).cores = d.cores := by
  simp [Dev.enterState, Dev.otpAbort, apply_ite Dev.cores, show ¬ stFault = stScanning by decide]

@[simp] theorem Dev.enterFault_cores (cause : Fld) (d : Dev) : (d.enterFault cause).cores = d.cores := by
  unfold Dev.enterFault
  split <;> simp

@[simp] theorem Dev.ldgFault_cores (b : Nat) (d : Dev) : (d.ldgFault b).cores = d.cores := by
  unfold Dev.ldgFault
  dsimp only
  split
  · rfl
  · split <;> simp [Dev.setBit]

end Sys2Proof.Machine
end

section
/-! What a core's instruction acts on: the ZLDs that land before it leave its PC and its state (14_pergola_dsp.md, R301, R308). -/
namespace Sys2Proof.Machine

/-- `e` has core k at the address and in the state in which `d` has it. -/
structure Dev.KeepsPc (k : Nat) (d e : Dev) : Prop where
  pc : e.fld (pglPage k) PGL_PC_PC = d.fld (pglPage k) PGL_PC_PC
  state : e.coreState k = d.coreState k

theorem Dev.KeepsPc.refl (k : Nat) (d : Dev) : d.KeepsPc k d := ⟨rfl, rfl⟩
theorem Dev.KeepsPc.trans {k : Nat} {a b c : Dev} (h : Dev.KeepsPc k a b) (g : Dev.KeepsPc k b c) : Dev.KeepsPc k a c :=
  ⟨g.pc.trans h.pc, g.state.trans h.state⟩

/-- A change that leaves the registers. -/
theorem Dev.keepsPc_of_regs (k : Nat) {d e : Dev} (hregs : e.regs = d.regs) (hvar : e.variant = d.variant) : Dev.KeepsPc k d e := by
  have hfld : ∀ f, e.fld (pglPage k) f = d.fld (pglPage k) f := fun f => by rw [Dev.fld, Dev.fld, Dev.reg, Dev.reg, hregs, hvar]
  exact ⟨hfld _, hfld _⟩

theorem Dev.keepsPc_setCore (k : Nat) (d : Dev) (j : Nat) (x : Core) : Dev.KeepsPc k d (d.setCore j x) := Dev.keepsPc_of_regs k rfl rfl

theorem Dev.keepsPc_setReg (k : Nat) (d : Dev) {off : Nat} (w : Word) (hpc : PGL_PC ≠ off) (hstatus : PGL_STATUS ≠ off) :
    Dev.KeepsPc k d (d.setReg (pglPage k) off w) :=
  ⟨Dev.fld_setReg_other _ _ _ _ PGL_PC_PC _ (regKey_off hpc), Dev.fld_setReg_other _ _ _ _ PGL_STATUS_STATE _ (regKey_off hstatus)⟩

/-- Another field of STATUS. -/
theorem Dev.keepsPc_setStatus (k : Nat) (d : Dev) {f : Fld} (v : Nat) (hoff : f.off = PGL_STATUS) (hle : f.lo ≤ f.hi) (hlo : 2 < f.lo) :
    Dev.KeepsPc k d (d.setFld (pglPage k) f v) :=
  ⟨Dev.fld_setFld_other _ _ _ _ PGL_PC_PC _ (regKey_off (by rw [hoff]; decide)),
    Dev.fld_setFld_disjoint _ _ f PGL_STATUS_STATE _ hoff.symm hle (by decide) (by decide) (.inr hlo)⟩

/-- PC of a core is none of the registers that raising an event changes. -/
theorem isStill_pglPc {k : Nat} (hk : k < 32) : isStill (pglPage k) PGL_PC := by
  refine ⟨by decide, by decide, ?_, ?_, ?_⟩ <;> simp only [pglPage] <;> omega

theorem Dev.keepsPc_raise {k : Nat} (hk : k < 32) (d : Dev) (p b : Nat) : Dev.KeepsPc k d (d.raise p b) :=
  ⟨d.fld_raise_still p b (isStill_pglPc hk), d.fld_raise_still p b (isStill_pglStatus hk)⟩

theorem Dev.keepsPc_zstale {k : Nat} (hk : k < 32) (d : Dev) : Dev.KeepsPc k d (d.coreFlag k PGL_STATUS_ZSTALE) := by
  unfold Dev.coreFlag
  split
  · exact .refl k d
  · exact (Dev.keepsPc_setStatus k d 1 rfl (by decide) (by decide)).trans (Dev.keepsPc_raise hk _ _ _)

theorem Dev.keepsPc_zldLand {k : Nat} (hk : k < 32) (d : Dev) (j : ZldJob) : Dev.KeepsPc k d (d.zldLand k j) := by
  unfold Dev.zldLand
  extract_lets e
  have he : Dev.KeepsPc k d e := Dev.keepsPc_setCore k d k _
  split
  · exact he.trans (Dev.keepsPc_zstale hk e)
  · exact he

theorem Dev.keepsPc_foldl {α : Type} {k : Nat} {f : Dev → α → Dev} (hf : ∀ d x, Dev.KeepsPc k d (f d x)) (l : List α) :
    ∀ d : Dev, Dev.KeepsPc k d (l.foldl f d) := by
  induction l with
  | nil => exact fun d => .refl k d
  | cons x l ih => exact fun d => (hf d x).trans (ih _)

theorem Dev.keepsPc_zldDue {k : Nat} (hk : k < 32) (d : Dev) : Dev.KeepsPc k d (d.zldDue k) := by
  exact (Dev.keepsPc_setCore k d k _).trans (Dev.keepsPc_foldl (Dev.keepsPc_zldLand hk) _ _)

theorem Dev.keepsPc_corrects {k : Nat} (hk : k < 32) (n : Nat) (d : Dev) : Dev.KeepsPc k d (d.corrects k n) := by
  have hcount (e : Dev) (m : Nat) : Dev.KeepsPc k e (e.bumpBy (pglPage k) PGL_ECC_CORR m) :=
    Dev.keepsPc_setReg k e _ (by decide) (by decide)
  have hseen (e : Dev) : Dev.KeepsPc k e ((e.markSeen (pglPage k) PGL_ECC_CORR).raise (pglPage k) 4) :=
    (Dev.keepsPc_of_regs (d := e) (e := e.markSeen (pglPage k) PGL_ECC_CORR) k rfl rfl).trans (Dev.keepsPc_raise hk _ _ _)
  unfold Dev.corrects Dev.bumpFirst
  dsimp only
  split
  · exact .refl k d
  · split
    · exact (hcount d 1).trans (hcount _ _)
    · exact ((hcount d 1).trans (hseen _)).trans (hcount _ _)

theorem State.pglDev_keepsPc (s : State) (t : Nat) {k : Nat} (hk : k < 32) : Dev.KeepsPc k (s.begun t) (s.pglDev t k) :=
  (Dev.keepsPc_zldDue hk _).trans (Dev.keepsPc_corrects hk _ _)

/-- The corrections counted leave the cores' records. -/
theorem Dev.corrects_cores (k n : Nat) (d : Dev) : (d.corrects k n).cores = d.cores := by
  unfold Dev.corrects Dev.bumpFirst
  dsimp only
  split
  · rfl
  · split
    · rfl
    · have hbump (e : Dev) (m : Nat) : (e.bumpBy (pglPage k) PGL_ECC_CORR m).cores = e.cores := rfl
      rw [hbump, Dev.raise_cores]
      rfl

theorem State.getCore_pglDev (s : State) (t k j : Nat) : (s.pglDev t k).getCore j = ((s.begun t).zldDue k).getCore j := by
  rw [Dev.getCore, State.pglDev, Dev.corrects_cores, Dev.getCore]

end Sys2Proof.Machine
end

section
/-! Moves of a core (14_pergola_dsp.md, R303, R307). -/
namespace Sys2Proof.Machine

section
variable {s : State} {t k : Nat} {a : W24}

theorem exec_pglLdi (hd : isDest (s.pglFlds t k).d = true) (h : s.runsOp t k 0x05 = true) :
    exec (.pglLdi t k) s = .next (s.put (Dev.pglAfter k ((s.begun t).fld (pglPage k) PGL_PC_PC) []
      ((s.pglDev t k).putD k (s.pglFlds t k) [] (BitVec.ofNat 24 (s.pglFlds t k).imm)))) :=
  State.exec_pglNext (op := 0x05) (used := useNone) rfl h (by simp only [hd, if_true])

theorem exec_pglGett (hd : isDest (s.pglFlds t k).d = true) (h : s.runsOp t k 0x09 = true) :
    exec (.pglGett t k) s = .next (s.put (Dev.pglAfter k ((s.begun t).fld (pglPage k) PGL_PC_PC) []
      ((s.pglDev t k).putD k (s.pglFlds t k) [] (BitVec.ofNat 24 ((s.pglDev t k).devTime / 1024))))) :=
  State.exec_pglNext (op := 0x09) (used := useNone) rfl h (by simp only [hd, if_true])

/-- An enabled M1 that does not trap is what S reads. -/
theorem Dev.srcS_load {d : Dev} {f : PglFields} (hen : memEn f.m1 = true) (htrap : (d.getCore k).readTrap f.m1 = none) :
    d.srcS k f = .val (SMap.get 0 (d.getCore k).data ((d.getCore k).memAddr f.m1)) := by
  simp only [Dev.srcS, Core.source, hen, htrap, if_true]

theorem exec_pglLd (hd : isDest (s.pglFlds t k).d = true) (hen : memEn (s.pglFlds t k).m1 = true)
    (hs : (s.pglDev t k).srcS k (s.pglFlds t k) = .val a) (h : s.runsOp t k 0x06 = true) :
    exec (.pglLd t k) s = .next (s.put (Dev.pglAfter k ((s.begun t).fld (pglPage k) PGL_PC_PC) [(s.pglFlds t k).m1]
      ((s.pglDev t k).putD k (s.pglFlds t k) [(s.pglFlds t k).m1] a))) :=
  State.exec_pglNext (op := 0x06) (used := useM1) rfl h
    (by simp only [hd, hen, hs, Bool.not_true, Bool.false_eq_true, if_false, if_true])

theorem exec_pglLd_trap {c : Nat} (hd : isDest (s.pglFlds t k).d = true) (hen : memEn (s.pglFlds t k).m1 = true)
    (hs : (s.pglDev t k).srcS k (s.pglFlds t k) = .trap c) (h : s.runsOp t k 0x06 = true) :
    exec (.pglLd t k) s = .next (s.put (((s.begun t).zldDue k).coreTrap k c)) :=
  State.exec_pglTrap (op := 0x06) (used := useM1) rfl h
    (by simp only [hd, hen, hs, Bool.not_true, Bool.false_eq_true, if_false, if_true])

theorem exec_pglSt (hs : (s.pglDev t k).srcS k (s.pglFlds t k) = .val a)
    (htrap : memEn (s.pglFlds t k).m2 = true → ((s.pglDev t k).getCore k).memTrap (s.pglFlds t k).m2 = none)
    (h : s.runsOp t k 0x07 = true) :
    exec (.pglSt t k) s = .next (s.put (Dev.pglAfter k ((s.begun t).fld (pglPage k) PGL_PC_PC) [(s.pglFlds t k).m1, (s.pglFlds t k).m2]
      ((s.pglDev t k).setCore k ((((s.pglDev t k).getCore k).store (s.pglFlds t k).m2 a).posts
        [(s.pglFlds t k).m1, (s.pglFlds t k).m2])))) := by
  have hnone : (if memEn (s.pglFlds t k).m2 = true then ((s.pglDev t k).getCore k).memTrap (s.pglFlds t k).m2 else none) = none := by
    split
    · next hen => exact htrap hen
    · rfl
  exact State.exec_pglNext (op := 0x07) (used := useBoth) rfl h (by simp only [hs, hnone])

theorem exec_pglLdst (hs : ((s.pglDev t k).getCore k).readReg ((s.pglDev t k).iph k) (s.pglFlds t k).s = some a)
    (hd : isDest (s.pglFlds t k).d = true) (h1 : memEn (s.pglFlds t k).m1 = true)
    (htrap1 : ((s.pglDev t k).getCore k).readTrap (s.pglFlds t k).m1 = none)
    (htrap2 : memEn (s.pglFlds t k).m2 = true → ((s.pglDev t k).getCore k).memTrap (s.pglFlds t k).m2 = none)
    (h : s.runsOp t k 0x08 = true) :
    exec (.pglLdst t k) s = .next (s.put (Dev.pglAfter k ((s.begun t).fld (pglPage k) PGL_PC_PC) [(s.pglFlds t k).m1, (s.pglFlds t k).m2]
      (Dev.putD k (s.pglFlds t k) [(s.pglFlds t k).m1, (s.pglFlds t k).m2]
        (SMap.get 0 ((s.pglDev t k).getCore k).data (((s.pglDev t k).getCore k).memAddr (s.pglFlds t k).m1))
        ((s.pglDev t k).setCore k (((s.pglDev t k).getCore k).store (s.pglFlds t k).m2 a))))) := by
  have hnone : (if memEn (s.pglFlds t k).m2 = true then ((s.pglDev t k).getCore k).memTrap (s.pglFlds t k).m2 else none) = none := by
    split
    · next hen => exact htrap2 hen
    · rfl
  exact State.exec_pglNext (op := 0x08) (used := useBoth) rfl h
    (by simp only [hs, hd, h1, htrap1, hnone, if_true, Bool.not_true, Bool.false_eq_true, if_false])

/-- A word with a double-bit error traps, its address and mode being good. -/
theorem Core.readTrap_ecc {x : Core} {m : Nat} (hmode : memMode m ≠ 3) (haddr : x.memAddr m < 49152)
    (hecc : 2 ≤ SMap.get 0 x.ecc (x.memAddr m)) : x.readTrap m = some trapEcc := by
  have hmem : x.memTrap m = none := by
    rw [Core.memTrap, if_neg (mt beq_iff_eq.1 hmode), if_neg (show ¬ pglDataWords ≤ x.memAddr m from Nat.not_le.2 haddr)]
  simp only [Core.readTrap, hmem, hecc, if_true]

end

/-- Settles O42: each move answers `next` with its write, and a load that traps leaves what the step found. -/
theorem pergolaMovesComplete : Obligations.PergolaMovesComplete := by
  refine ⟨fun s t k h => State.exec_pglNext (op := 0x01) (used := useNone) rfl h rfl, fun s t k => ?_, fun s t k h => ?_,
    fun s t k a h => ?_, fun s t k a h => ?_, fun s t k h => ?_⟩
  · intro d f pc hd
    exact ⟨exec_pglLdi hd, exec_pglGett hd⟩
  · intro d f pc hd hen htrap
    exact exec_pglLd hd hen (Dev.srcS_load hen htrap) h
  · intro d f pc hs x
    refine ⟨fun hen htrap => ?_, fun hen => ?_⟩
    · rw [exec_pglSt hs (fun _ => htrap) h, Core.store, if_pos hen]
    · have hoff : ¬ memEn (s.pglFlds t k).m2 = true := by
        intro hon
        cases hon.symm.trans hen
      rw [exec_pglSt hs (fun hon => absurd hon hoff) h, Core.store, if_neg hoff]
  · intro d f pc x hs hd h1 htrap1 h2 htrap2
    rw [exec_pglLdst hs hd h1 htrap1 (fun _ => htrap2) h, Core.store, if_pos h2]
  · intro d f x hd hen hmode haddr hecc
    refine exec_pglLd_trap hd hen ?_ h
    have htrap : ((s.pglDev t k).getCore k).readTrap f.m1 = some trapEcc := by
      rw [State.getCore_pglDev]
      exact Core.readTrap_ecc hmode haddr hecc
    simp only [Dev.srcS, Core.source, show memEn (s.pglFlds t k).m1 = true from hen,
      show ((s.pglDev t k).getCore k).readTrap (s.pglFlds t k).m1 = some trapEcc from htrap, if_true]

end Sys2Proof.Machine
end

section
/-! A core that has stopped has no access waiting (14_pergola_dsp.md, R302, R318). -/
namespace Sys2Proof.Machine

variable {α : Type}

theorem SMap.erase_erase (m : SMap α) (k : Nat) : SMap.erase (SMap.erase m k) k = SMap.erase m k := by
  induction m with
  | nil => rfl
  | cons e m ih =>
    obtain ⟨k', v⟩ := e
    by_cases h : k' = k
    · simp only [SMap.erase, h, if_true, ih]
    · simp only [SMap.erase, h, if_false, ih]

theorem SMap.insert_insert (m : SMap α) (k : Nat) (v : α) : SMap.insert (SMap.insert m k v) k v = SMap.insert m k v := by
  induction m with
  | nil => simp [SMap.insert]
  | cons e m ih =>
    obtain ⟨k', v'⟩ := e
    by_cases hlt : k < k'
    · simp [SMap.insert, hlt]
    · by_cases heq : k = k'
      · simp [SMap.insert, heq]
      · simp [SMap.insert, hlt, heq, ih]

/-- A second write of the same value changes nothing. -/
theorem SMap.put_put [DecidableEq α] (dv : α) (m : SMap α) (k : Nat) (v : α) :
    SMap.put dv (SMap.put dv m k v) k v = SMap.put dv m k v := by
  by_cases h : v = dv
  · simp only [SMap.put, h, if_true, SMap.erase_erase]
  · simp only [SMap.put, h, if_false, SMap.insert_insert]

/-- Core k's record is written back as it stands, and no access of it waits. -/
structure Dev.Idle (k : Nat) (d : Dev) : Prop where
  stands : SMap.put {} d.cores k (d.getCore k) = d.cores
  access : (d.getCore k).access = []

theorem Dev.Idle.congr {k : Nat} {d e : Dev} (h : Dev.Idle k d) (hc : e.cores = d.cores) : Dev.Idle k e :=
  ⟨by rw [Dev.getCore, hc]; exact h.stands, by rw [Dev.getCore, hc]; exact h.access⟩

theorem Dev.idle_setCore {k : Nat} (d : Dev) {x : Core} (h : x.access = []) : Dev.Idle k (d.setCore k x) where
  stands := by rw [Dev.getCore_setCore]; exact SMap.put_put _ _ _ _
  access := by rw [Dev.getCore_setCore, h]

theorem Dev.readCoreWord_cores (k w : Nat) (d : Dev) : (d.readCoreWord k w).2.cores = d.cores := by
  unfold Dev.readCoreWord
  split
  · rfl
  · exact Dev.corrects_cores k 1 d
  · rfl

theorem Dev.portAnswer_cores (ini : Initiator) (ws : List Word) (d : Dev) : (d.portAnswer ini ws).cores = d.cores := by
  cases ini <;> rfl

theorem Dev.idle_accessDo {k : Nat} {d : Dev} (h : Dev.Idle k d) (a : PglAccess) : Dev.Idle k (d.accessDo k a) := by
  unfold Dev.accessDo
  split
  · exact Dev.idle_setCore d h.access
  · exact h.congr ((Dev.portAnswer_cores _ _ _).trans (Dev.readCoreWord_cores _ _ _))

theorem Dev.idle_foldl {k : Nat} (l : List PglAccess) : ∀ {d : Dev}, Dev.Idle k d → Dev.Idle k (l.foldl (Dev.accessDo k) d) := by
  induction l with
  | nil => exact id
  | cons a l ih => exact fun h => ih (Dev.idle_accessDo h a)

/-- Once every waiting access has been made, none is left. -/
theorem Dev.idle_accessNow (k : Nat) (d : Dev) : Dev.Idle k (d.accessNow k) :=
  Dev.idle_foldl _ (Dev.idle_setCore d (List.drop_length (l := (d.getCore k).access)))

theorem Dev.idle_coreStop (k st : Nat) (d : Dev) : Dev.Idle k (d.coreStop k st) := Dev.idle_accessNow k _

theorem Dev.Idle.accessNow_eq {k : Nat} {d : Dev} (h : Dev.Idle k d) : d.accessNow k = d := by
  rw [Dev.accessNow, h.access, Dev.accessServe, h.access]
  have hset : d.setCore k { d.getCore k with access := [] } = d.setCore k (d.getCore k) := by rw [← h.access]
  have hback : d.setCore k (d.getCore k) = { d with cores := d.cores } := by rw [Dev.setCore, h.stands]
  exact hset.trans hback

/-- A command whose instruction leaves its core without waiting accesses. -/
theorem State.exec_pglWait_idle {s : State} {t k op : Nat} {i : Instr} {used : PglFields → List Nat} {run : PglFields → Dev → PglRes}
    {d : Dev} (hi : exec i s = s.cmd t (okCore k) (Dev.pglStep k op used run)) (h : s.runsOp t k op = true)
    (hrun : run (s.pglFlds t k) (s.pglDev t k) = .wait d) (hidle : Dev.Idle k d) : exec i s = .next (s.put d) := by
  by_cases hstate : d.coreState k = pglRunning
  · exact State.exec_pglWait_running hi h hrun hstate
  · rw [State.exec_pglWait_still hi h hrun hstate, hidle.accessNow_eq]

end Sys2Proof.Machine
end

section
/-! Branches, loops, repeats, HALT and traps of a core (14_pergola_dsp.md, R300, R307, R310, R317, R318). -/
namespace Sys2Proof.Machine

section
variable {s : State} {t k : Nat}

/-- The repeats that a taken branch finds are those of the core it acts on. -/
theorem State.reps_zldDue (hreps : ((s.pglDev t k).getCore k).reps = []) : (((s.begun t).zldDue k).getCore k).reps = [] := by
  rw [← State.getCore_pglDev, hreps]

/-- K0 to K15 have the codes 32 to 47. -/
theorem Core.writePhys_static (x : Core) {p : Nat} (hlo : 32 ≤ p) (hhi : p < 48) (w : W24) :
    x.writePhys p w = { x with k := SMap.put 0 x.k (p - 32) w } := by
  rw [Core.writePhys, if_neg (by omega), if_pos hhi]

theorem exec_pglBr {c : Bool} (hreps : ((s.pglDev t k).getCore k).reps = [])
    (hcond : ((s.pglDev t k).getCore k).cond ((s.pglDev t k).on (pglPage k) PGL_STATUS_OVF0) ((s.pglDev t k).on (pglPage k) PGL_STATUS_OVF1)
      ((s.pglDev t k).on (pglPage k) PGL_STATUS_ZSTALE) ((s.pglFlds t k).t % 16) = some c) (h : s.runsOp t k 0x20 = true) :
    exec (.pglBr t k) s = .next (s.put (if c = true then Dev.pglJump k ((s.pglFlds t k).imm % 65536) (s.pglDev t k)
      else Dev.pglAfter k ((s.begun t).fld (pglPage k) PGL_PC_PC) [] (s.pglDev t k))) := by
  cases c with
  | false => exact State.exec_pglNext (op := 0x20) (used := useNone) rfl h (by simp only [hcond])
  | true => exact State.exec_pglJump (op := 0x20) (used := useNone) rfl h rfl (State.reps_zldDue hreps) (by simp only [hcond])

theorem exec_pglCall (hreps : ((s.pglDev t k).getCore k).reps = []) (h : s.runsOp t k 0x21 = true) :
    exec (.pglCall t k) s = .next (s.put (Dev.pglJump k ((s.pglFlds t k).imm % 65536)
      ((s.pglDev t k).setCore k { (s.pglDev t k).getCore k with
        k := SMap.put 0 ((s.pglDev t k).getCore k).k 14 (BitVec.ofNat 24 ((s.begun t).fld (pglPage k) PGL_PC_PC + 1)) }))) := by
  obtain ⟨-, hk, -⟩ := State.runsOp_iff.1 h
  refine State.exec_pglJump (op := 0x21) (used := useNone) rfl h rfl (State.reps_zldDue hreps) ?_
  dsimp only
  rw [(s.pglDev_keepsPc t hk).pc, Core.writePhys_static _ (by decide) (by decide)]

theorem exec_pglRet (hreps : ((s.pglDev t k).getCore k).reps = []) (h : s.runsOp t k 0x22 = true) :
    exec (.pglRet t k) s = .next (s.put (Dev.pglJump k ((SMap.get 0 ((s.pglDev t k).getCore k).k 14).toNat % 65536) (s.pglDev t k))) :=
  State.exec_pglJump (op := 0x22) (used := useNone) rfl h rfl (State.reps_zldDue hreps) rfl

/-- The device after LBR itself: the counter one lower, the iteration phase advanced. -/
def Dev.lbrCounted (k : Nat) (f : PglFields) (d : Dev) : Dev :=
  Dev.setFld (d.setCore k { d.getCore k with k := SMap.put 0 (d.getCore k).k (f.d - 32) (SMap.get 0 (d.getCore k).k (f.d - 32) - 1) })
    (pglPage k) PGL_STATUS_IPH (d.iph k + 1)

theorem exec_pglLbr (hreps : ((s.pglDev t k).getCore k).reps = []) (hlo : 32 ≤ (s.pglFlds t k).d) (hhi : (s.pglFlds t k).d < 48)
    (h : s.runsOp t k 0x23 = true) :
    exec (.pglLbr t k) s = .next (s.put (if SMap.get 0 ((s.pglDev t k).getCore k).k ((s.pglFlds t k).d - 32) - 1 = 0
      then Dev.pglAfter k ((s.begun t).fld (pglPage k) PGL_PC_PC) [] ((s.pglDev t k).lbrCounted k (s.pglFlds t k))
      else Dev.pglJump k ((s.pglFlds t k).imm % 65536) ((s.pglDev t k).lbrCounted k (s.pglFlds t k)))) := by
  have hwrite := Core.writePhys_static ((s.pglDev t k).getCore k) hlo hhi
  have hiph : ∀ x : Core, ((s.pglDev t k).setCore k x).iph k = (s.pglDev t k).iph k := fun _ => rfl
  by_cases hzero : SMap.get 0 ((s.pglDev t k).getCore k).k ((s.pglFlds t k).d - 32) - 1 = 0
  · rw [if_pos hzero]
    exact State.exec_pglNext (op := 0x23) (used := useNone) rfl h
      (by simp only [hlo, hhi, hzero, hwrite, hiph, Dev.pglAdvance, Dev.lbrCounted, decide_true, Bool.and_self, beq_self_eq_true, if_true])
  · rw [if_neg hzero]
    exact State.exec_pglJump (op := 0x23) (used := useNone) rfl h rfl (State.reps_zldDue hreps)
      (by simp only [hlo, hhi, hwrite, hiph, Dev.pglAdvance, Dev.lbrCounted, decide_true, Bool.and_self, beq_iff_eq, hzero, if_true,
        if_false])

/-- BRPT outside NORMAL, with no repeat open and a count that is not 0. -/
theorem exec_pglBrpt (hreps : ((s.pglDev t k).getCore k).reps = []) (hlo : 32 ≤ (s.pglFlds t k).d) (hhi : (s.pglFlds t k).d < 48)
    (hmode : (s.pglDev t k).coreMode k ≠ modeNormal) (hn : SMap.get 0 ((s.pglDev t k).getCore k).k ((s.pglFlds t k).d - 32) ≠ 0)
    (h : s.runsOp t k 0x30 = true) :
    exec (.pglBrpt t k) s = .next (s.put (((s.pglDev t k).executed k 0).setPc k
      (((s.begun t).fld (pglPage k) PGL_PC_PC + 1) % 65536, [(((s.begun t).fld (pglPage k) PGL_PC_PC + 1) % 65536,
        (s.pglFlds t k).imm % 65536, (SMap.get 0 ((s.pglDev t k).getCore k).k ((s.pglFlds t k).d - 32)).toNat)]))) := by
  obtain ⟨-, hk, hrunning, -⟩ := State.runsOp_iff.1 h
  have hcount : (SMap.get 0 ((s.pglDev t k).getCore k).k ((s.pglFlds t k).d - 32)).toNat ≠ 0 :=
    fun hzero => hn (BitVec.eq_of_toNat_eq hzero)
  refine State.exec_pglWait_running (op := 0x30) (used := useNone) rfl h
    (by simpa [hreps, hlo, hhi, hmode, (s.pglDev_keepsPc t hk).pc] using hcount) ?_
  have hstatus := ((Dev.keepsArith_executed hk 0 (s.pglDev t k)).trans (Dev.keepsArith_setPc k (((s.begun t).fld (pglPage k) PGL_PC_PC + 1) % 65536,
    [(((s.begun t).fld (pglPage k) PGL_PC_PC + 1) % 65536, (s.pglFlds t k).imm % 65536,
      (SMap.get 0 ((s.pglDev t k).getCore k).k ((s.pglFlds t k).d - 32)).toNat)]) _)).status
  rw [← hrunning, ← (s.pglDev_keepsPc t hk).state, Dev.coreState, Dev.fld, hstatus]
  rfl

/-- HALT. -/
theorem exec_pglHalt (h : s.runsOp t k 0x02 = true) :
    exec (.pglHalt t k) s = .next (s.put (
      let e := ((s.pglDev t k).bump (pglPage k) PGL_INSTR_CNT).setFld (pglPage k) PGL_CTRL_RUN 0
      let e := (if e.coreMode k = modeBoot then e.setFld (pglPage k) PGL_CTRL_MODE modeNormal else e).coreStop k pglStopped
      if e.safetyCore k = true then e.ldgFault 4 else e)) := by
  refine State.exec_pglWait_idle (op := 0x02) (used := useNone) rfl h (by simp only [beq_iff_eq]) ?_
  extract_lets e₁ e₂
  have hidle : Dev.Idle k e₂ := Dev.idle_coreStop k pglStopped _
  split
  · exact hidle.congr (Dev.ldgFault_cores 4 e₂)
  · exact hidle

/-- An opcode that no row of Table 14-3 has. -/
theorem exec_pglIllegalOpcode (hop : pglOpcode (s.pglFlds t k).op = false) (h : s.runsOp t k (s.pglFlds t k).op = true) :
    exec (.pglIllegalOpcode t k) s = .next (s.put (((s.begun t).zldDue k).coreTrap k 1)) := by
  have hexec : exec (.pglIllegalOpcode t k) s = s.cmd t (okCore k) (fun d => d.pglIllegal k) := rfl
  rw [hexec, State.cmd_runsOp h, Dev.pglIllegal, State.pglStepIf_runs (is := fun o => !pglOpcode o) h (by rw [hop]; rfl), Dev.finish]

end

/-- Settles O44: each control instruction answers `next`, a branch or a trap; BRPT leaves its core running and HALT leaves it without
waiting accesses, so that a step makes none after them. -/
theorem pergolaControlCompletes : Obligations.PergolaControlCompletes := by
  refine ⟨fun s t k c h => ?_, fun s t k => ?_, fun s t k h => State.exec_pglNext (op := 0x24) (used := useNone) rfl h rfl,
    fun s t k h => exec_pglHalt h, fun s t k h => State.exec_pglTrap (op := 0x03) (used := useNone) rfl h rfl,
    fun s t k hop h => exec_pglIllegalOpcode hop h⟩
  · intro d f pc p hreps hcond
    exact exec_pglBr hreps hcond h
  · intro d f pc x hreps
    exact ⟨exec_pglCall hreps, exec_pglRet hreps, fun h hlo hhi => exec_pglLbr hreps hlo hhi h,
      fun h hlo hhi hmode hn => exec_pglBrpt hreps hlo hhi hmode hn h⟩

end Sys2Proof.Machine
end

section
/-! The queues of a core: an instruction that waits gives way to the accesses that wait (14_pergola_dsp.md, R302, R308). -/
namespace Sys2Proof.Machine
-- A `decide +kernel` waits for every proof before it: in turn, none of them waits in a thread of its own.
set_option Elab.async false

/-- Core 31 runs a POP on an empty queue while a write of its data word 0 waits. -/
def popWithWaitingWrite : State :=
  let d := State.reset.dev
  let d := ((d.setFld (pglPage 31) PGL_STATUS_STATE pglRunning).setFld (pglPage 31) PGL_PC_PC 0xFFFF).setCore 31
    { access := [⟨.control, 0, some 5, 0⟩] }
  { State.reset with dev := { d with variant := .aq, code := [(65536 * 3 + 65535, (⟨0x28, 0, 0, 0, 0, 0⟩ : PglFields).word)] } }

/-- The accesses that wait for core 31 after a step. -/
def waitingAccesses (o : Host.Outcome State Fault Refusal) : Nat :=
  match o with
  | .next s => (s.dev.getCore 31).access.length
  | _ => 0

/-- Refutes O45: a POP that finds its queue empty lets core 31 stand in POP, and the waiting write is then made at once, which the
statement's next state leaves waiting. -/
theorem not_pergolaQueuesComplete : ¬ Obligations.PergolaQueuesComplete := by
  intro h
  obtain ⟨hpop, -⟩ := h
  have hwait := (hpop popWithWaitingWrite 7 31 (by decide +kernel) (by decide +kernel)).2 (by decide +kernel)
  have hcount : waitingAccesses (exec (.pglPop 7 31) popWithWaitingWrite) = 0 := by decide +kernel
  have hleft : waitingAccesses (.next (popWithWaitingWrite.put ((popWithWaitingWrite.pglDev 7 31).setCoreState 31 pglInPop))) = 1 := by
    decide +kernel
  rw [hwait, hleft] at hcount
  cases hcount

end Sys2Proof.Machine
end

section
/-! The frame of a core's instruction (14_pergola_dsp.md, R302, R307). -/
namespace Sys2Proof.Machine

/-! ### What going on to the next address leaves -/

/-- Two records of a core that agree but in data memory, waiting accesses, ZLDs, repeats and counts. -/
structure Core.SameState (x y : Core) : Prop where
  v : y.v = x.v
  k : y.k = x.k
  a0 : y.a0 = x.a0
  a1 : y.a1 = x.a1
  z : y.z = x.z
  n : y.n = x.n
  c : y.c = x.c
  queue : y.queue = x.queue
  out : y.out = x.out

/-- `e` differs from `d` in core k's page and record alone, and there not in what `Core.SameState` names. -/
structure Dev.CoreFrame (k : Nat) (d e : Dev) : Prop where
  others : ∀ j, j ≠ k → e.getCore j = d.getCore j
  code : e.code = d.code
  bins : e.bins = d.bins
  zoom : e.zoom = d.zoom
  slots : e.slots = d.slots
  evm : e.evm = d.evm
  regs : ∀ p off, off < 0x1000 → p ≠ pglPage k → e.reg p off = d.reg p off
  core : (d.getCore k).SameState (e.getCore k)

theorem Core.SameState.refl (x : Core) : x.SameState x := ⟨rfl, rfl, rfl, rfl, rfl, rfl, rfl, rfl, rfl⟩

theorem Core.SameState.trans {x y z : Core} (h : x.SameState y) (g : y.SameState z) : x.SameState z :=
  ⟨g.v.trans h.v, g.k.trans h.k, g.a0.trans h.a0, g.a1.trans h.a1, g.z.trans h.z, g.n.trans h.n, g.c.trans h.c, g.queue.trans h.queue,
    g.out.trans h.out⟩

theorem Dev.CoreFrame.refl (k : Nat) (d : Dev) : d.CoreFrame k d := ⟨fun _ _ => rfl, rfl, rfl, rfl, rfl, rfl, fun _ _ _ _ => rfl, .refl _⟩

theorem Dev.CoreFrame.trans {k : Nat} {a b c : Dev} (h : Dev.CoreFrame k a b) (g : Dev.CoreFrame k b c) : Dev.CoreFrame k a c where
  others j hj := (g.others j hj).trans (h.others j hj)
  code := g.code.trans h.code
  bins := g.bins.trans h.bins
  zoom := g.zoom.trans h.zoom
  slots := g.slots.trans h.slots
  evm := g.evm.trans h.evm
  regs p off hoff hp := (g.regs p off hoff hp).trans (h.regs p off hoff hp)
  core := h.core.trans g.core

theorem Dev.coreFrame_setCore {k : Nat} (d : Dev) {x : Core} (h : (d.getCore k).SameState x) : Dev.CoreFrame k d (d.setCore k x) where
  others _ hj := Dev.getCore_setCore_other d x hj
  code := rfl
  bins := rfl
  zoom := rfl
  slots := rfl
  evm := rfl
  regs _ _ _ _ := rfl
  core := by rw [Dev.getCore_setCore]; exact h

theorem Dev.coreFrame_setReg {k off : Nat} (d : Dev) (w : Word) (hoff : off < 0x1000) :
    Dev.CoreFrame k d (d.setReg (pglPage k) off w) :=
  ⟨fun _ _ => rfl, rfl, rfl, rfl, rfl, rfl, fun _ _ hlt hp => Dev.reg_setReg_other d w (regKey_page hp hoff hlt), .refl _⟩

theorem Dev.coreFrame_portAnswer (k : Nat) (ini : Initiator) (ws : List Word) (d : Dev) : Dev.CoreFrame k d (d.portAnswer ini ws) := by
  cases ini <;> exact ⟨fun _ _ => rfl, rfl, rfl, rfl, rfl, rfl, fun _ _ _ _ => rfl, .refl _⟩

/-- No word that a waiting read names has a bit error. -/
def Dev.cleanReads (k : Nat) (l : List PglAccess) (d : Dev) : Prop :=
  ∀ a ∈ l, a.value = none → SMap.get 0 (d.getCore k).ecc a.word = 0

theorem Dev.readCoreWord_clean {k w : Nat} {d : Dev} (h : SMap.get 0 (d.getCore k).ecc w = 0) : d.readCoreWord k w = (d.coreWord k w, d) := by
  simp only [Dev.readCoreWord, h]

/-- A waiting access, a read of a word with no bit error if it is one. -/
theorem Dev.coreFrame_accessDo {k : Nat} {d : Dev} {a : PglAccess} (h : a.value = none → SMap.get 0 (d.getCore k).ecc a.word = 0) :
    Dev.CoreFrame k d (d.accessDo k a) := by
  unfold Dev.accessDo
  split
  · exact Dev.coreFrame_setCore d ⟨rfl, rfl, rfl, rfl, rfl, rfl, rfl, rfl, rfl⟩
  · next hread =>
    rw [Dev.readCoreWord_clean (h hread)]
    exact Dev.coreFrame_portAnswer k _ _ d

/-- A store leaves no bit error, and a read leaves the words. -/
theorem Dev.cleanReads_accessDo {k : Nat} {d : Dev} {a : PglAccess} {l : List PglAccess} (h : d.cleanReads k (a :: l)) :
    (d.accessDo k a).cleanReads k l := by
  have htail : d.cleanReads k l := fun b hb => h b (List.mem_cons_of_mem _ hb)
  unfold Dev.accessDo
  split
  · intro b hb hread
    rw [Dev.setCoreWord, Dev.getCore_setCore]
    show SMap.get 0 (SMap.put 0 (d.getCore k).ecc a.word 0) b.word = 0
    by_cases hw : b.word = a.word
    · rw [hw]
      exact SMap.get_put_self _ _ _ _
    · exact (SMap.get_put_other _ _ _ _ hw).trans (htail b hb hread)
  · next hread =>
    rw [Dev.readCoreWord_clean (h a List.mem_cons_self hread)]
    intro b hb hbread
    rw [Dev.getCore, Dev.portAnswer_cores]
    exact htail b hb hbread

theorem Dev.coreFrame_accesses {k : Nat} (l : List PglAccess) : ∀ {d : Dev}, d.cleanReads k l →
    Dev.CoreFrame k d (l.foldl (Dev.accessDo k) d) := by
  induction l with
  | nil => exact fun _ => .refl k _
  | cons a l ih => exact fun h => (Dev.coreFrame_accessDo (h a List.mem_cons_self)).trans (ih (Dev.cleanReads_accessDo h))

theorem Dev.coreFrame_accessServe {k : Nat} (n : Nat) {d : Dev} (h : d.cleanReads k (d.getCore k).access) :
    Dev.CoreFrame k d (d.accessServe k n) := by
  have htaken : (d.setCore k { d.getCore k with access := (d.getCore k).access.drop n }).cleanReads k ((d.getCore k).access.take n) := by
    intro a ha hread
    rw [Dev.getCore_setCore]
    exact h a (List.mem_of_mem_take ha) hread
  exact (Dev.coreFrame_setCore (x := { d.getCore k with access := (d.getCore k).access.drop n }) d
    ⟨rfl, rfl, rfl, rfl, rfl, rfl, rfl, rfl, rfl⟩).trans (Dev.coreFrame_accesses _ htaken)

theorem Dev.coreFrame_accessStep {k : Nat} (used : Nat) {d : Dev} (h : d.cleanReads k (d.getCore k).access) :
    Dev.CoreFrame k d (d.accessStep k used) := by
  unfold Dev.accessStep
  dsimp only
  split
  · exact .refl k d
  · split
    · exact Dev.coreFrame_accessServe _ h
    · split
      · exact Dev.coreFrame_setCore d ⟨rfl, rfl, rfl, rfl, rfl, rfl, rfl, rfl, rfl⟩
      · have hheld : Dev.CoreFrame k d (d.bump (pglPage k) PGL_HOLD_CNT) := Dev.coreFrame_setReg d _ (by decide)
        have hclean : (d.bump (pglPage k) PGL_HOLD_CNT).cleanReads k ((d.bump (pglPage k) PGL_HOLD_CNT).getCore k).access := h
        exact hheld.trans (Dev.coreFrame_accessServe 2 hclean)

/-- The device once an executed instruction is counted, before the waiting accesses. -/
def Dev.counted (k : Nat) (d : Dev) : Dev :=
  (d.setCore k { d.getCore k with
    zld := ageZld 1 (d.getCore k).zld, instrs := (d.getCore k).instrs.map (fun n => min (n + 1) (2 ^ 24 - 1)) }).bump
      (pglPage k) PGL_INSTR_CNT

theorem Dev.executed_eq (k used : Nat) (d : Dev) : d.executed k used = (d.counted k).accessStep k used := rfl

theorem Dev.coreFrame_counted (k : Nat) (d : Dev) : Dev.CoreFrame k d (d.counted k) :=
  (Dev.coreFrame_setCore (x := { d.getCore k with
    zld := ageZld 1 (d.getCore k).zld, instrs := (d.getCore k).instrs.map (fun n => min (n + 1) (2 ^ 24 - 1)) }) d
      ⟨rfl, rfl, rfl, rfl, rfl, rfl, rfl, rfl, rfl⟩).trans (Dev.coreFrame_setReg _ _ (by decide))

theorem Dev.getCore_counted (k : Nat) (d : Dev) : (d.counted k).getCore k = { d.getCore k with
    zld := ageZld 1 (d.getCore k).zld, instrs := (d.getCore k).instrs.map (fun n => min (n + 1) (2 ^ 24 - 1)) } := Dev.getCore_setCore _ _ _

theorem Dev.coreFrame_pglAfter {k : Nat} (pc : Nat) (ms : List Nat) {d : Dev} (h : d.cleanReads k (d.getCore k).access) :
    Dev.CoreFrame k d (d.pglAfter k pc ms) := by
  have hclean : (d.counted k).cleanReads k ((d.counted k).getCore k).access := by
    intro a ha hread
    rw [Dev.getCore_counted] at ha ⊢
    exact h a ha hread
  have hexec : Dev.CoreFrame k d (d.executed k (accesses ms)) := (Dev.coreFrame_counted k d).trans (Dev.coreFrame_accessStep _ hclean)
  have hset (e : Dev) (x : Nat × List (Nat × Nat × Nat)) : Dev.CoreFrame k e (e.setPc k x) :=
    (Dev.coreFrame_setCore (x := { e.getCore k with reps := x.2 }) e ⟨rfl, rfl, rfl, rfl, rfl, rfl, rfl, rfl, rfl⟩).trans
      (Dev.coreFrame_setReg _ _ (by decide))
  exact hexec.trans (hset _ _)

/-- With no access waiting the data memory stays. -/
theorem Dev.data_pglAfter {k : Nat} (pc : Nat) (ms : List Nat) {d : Dev} (h : (d.getCore k).access = []) :
    ((d.pglAfter k pc ms).getCore k).data = (d.getCore k).data := by
  have hstep : d.executed k (accesses ms) = d.counted k := by
    rw [Dev.executed_eq, Dev.accessStep, Dev.getCore_counted, h]
  have hset (e : Dev) (x : Nat × List (Nat × Nat × Nat)) : (e.setPc k x).getCore k = { e.getCore k with reps := x.2 } :=
    Dev.getCore_setCore e k _
  rw [Dev.pglAfter, hset, hstep, Dev.getCore_counted]

/-! ### What writing D leaves -/

/-- A post-increment writes the field's pointer. -/
theorem Core.memPost_eq (x : Core) (m : Nat) : ∃ q, x.memPost m = { x with k := q } ∧
    ∀ i, (memMode m = 1 → memPtr m ≠ i) → SMap.get 0 q i = SMap.get 0 x.k i := by
  unfold Core.memPost
  split
  · next hmode => exact ⟨_, rfl, fun i hi => SMap.get_put_other _ _ _ _ (Ne.symm (hi (beq_iff_eq.1 hmode)))⟩
  · exact ⟨x.k, rfl, fun _ _ => rfl⟩

/-- The post-increments write the pointers of the fields that are enabled and have the mode. -/
theorem Core.posts_eq (ms : List Nat) : ∀ x : Core, ∃ q, x.posts ms = { x with k := q } ∧
    ∀ i, (∀ m ∈ ms, memEn m = true → memMode m = 1 → memPtr m ≠ i) → SMap.get 0 q i = SMap.get 0 x.k i := by
  induction ms with
  | nil => exact fun x => ⟨x.k, rfl, fun _ _ => rfl⟩
  | cons m ms ih =>
    intro x
    have hhead : ∃ q, (if memEn m then x.memPost m else x) = { x with k := q } ∧
        ∀ i, (memEn m = true → memMode m = 1 → memPtr m ≠ i) → SMap.get 0 q i = SMap.get 0 x.k i := by
      split
      · next hen =>
        obtain ⟨q, hq, hi⟩ := x.memPost_eq m
        exact ⟨q, hq, fun i h => hi i (h hen)⟩
      · exact ⟨x.k, rfl, fun _ _ => rfl⟩
    obtain ⟨q, hq, hqi⟩ := hhead
    obtain ⟨r, hr, hri⟩ := ih { x with k := q }
    refine ⟨r, ?_, fun i hi => ?_⟩
    · rw [Core.posts, List.foldl_cons, hq]
      exact hr
    · rw [hri i (fun m' hm' => hi m' (List.mem_cons_of_mem _ hm')), hqi i (hi m List.mem_cons_self)]

/-- What a core keeps when a 24-bit destination is written. -/
structure Core.KeepsBeside (x y : Core) : Prop where
  a0 : y.a0 = x.a0
  a1 : y.a1 = x.a1
  z : y.z = x.z
  n : y.n = x.n
  c : y.c = x.c
  data : y.data = x.data
  queue : y.queue = x.queue
  out : y.out = x.out

theorem Core.KeepsBeside.refl (x : Core) : x.KeepsBeside x := ⟨rfl, rfl, rfl, rfl, rfl, rfl, rfl, rfl⟩

theorem Core.keepsBeside_writePhys {x y : Core} (h : x.KeepsBeside y) (p : Nat) (w : W24) : x.KeepsBeside (y.writePhys p w) := by
  obtain ⟨ha0, ha1, hz, hn, hc, hdata, hqueue, hout⟩ := h
  unfold Core.writePhys
  split
  · exact ⟨ha0, ha1, hz, hn, hc, hdata, hqueue, hout⟩
  · split
    · exact ⟨ha0, ha1, hz, hn, hc, hdata, hqueue, hout⟩
    · exact ⟨ha0, ha1, hz, hn, hc, hdata, hqueue, hout⟩

theorem Core.keepsBeside_posts (x : Core) (ms : List Nat) : x.KeepsBeside (x.posts ms) := by
  obtain ⟨q, hq, -⟩ := Core.posts_eq ms x
  rw [hq]
  exact ⟨rfl, rfl, rfl, rfl, rfl, rfl, rfl, rfl⟩

/-- A rotating register other than the one written. -/
theorem Core.v_writePhys_other (x : Core) {p i : Nat} (w : W24) (h : p ≠ i) : SMap.get 0 (x.writePhys p w).v i = SMap.get 0 x.v i := by
  unfold Core.writePhys
  split
  · exact SMap.get_put_other _ _ _ _ (Ne.symm h)
  · split <;> rfl

/-- A static register other than the one written. -/
theorem Core.k_writePhys_other (x : Core) {p i : Nat} (w : W24) (h : p ≠ 32 + i) : SMap.get 0 (x.writePhys p w).k i = SMap.get 0 x.k i := by
  unfold Core.writePhys
  split
  · rfl
  · split
    · exact SMap.get_put_other _ _ _ _ (by omega)
    · rfl

theorem Dev.putD_eq {k : Nat} {f : PglFields} {ms : List Nat} (d : Dev) (w : W24) (h : pointerClash f ms = false) :
    d.putD k f ms w = d.setCore k (((d.getCore k).posts ms).writePhys (physOf (d.iph k) f.d) w) := by
  rw [Dev.putD, h]
  rfl

/-- Writing D writes one core's record, and counts at most a draw. -/
theorem Dev.putD_core (k : Nat) (f : PglFields) (ms : List Nat) (w : W24) (d : Dev) :
    ∃ c x, d.putD k f ms w = Dev.setCore { d with freeCtr := c } k x ∧ (d.getCore k).KeepsBeside x := by
  by_cases hclash : pointerClash f ms = true
  · refine ⟨d.freeCtr + 1, if Config.free d.freeCtr % 2 == 0 then ((d.getCore k).posts ms).writePhys (physOf (d.iph k) f.d) w
      else (d.getCore k).posts ms, ?_, ?_⟩
    · rw [Dev.putD, hclash]
      rfl
    · split
      · exact Core.keepsBeside_writePhys (Core.keepsBeside_posts _ _) _ _
      · exact Core.keepsBeside_posts _ _
  · refine ⟨d.freeCtr, _, d.putD_eq w (Bool.eq_false_iff.2 hclash), Core.keepsBeside_writePhys (Core.keepsBeside_posts _ _) _ _⟩

/-- Settles O46: the counts, the waiting accesses and the next address are of the core's own page and record, and so is D. -/
theorem pergolaInstructionsKeepTheRest : Obligations.PergolaInstructionsKeepTheRest := by
  refine ⟨fun d k pc ms => ?_, fun d k f ms w => ?_⟩
  · intro e hclean
    obtain ⟨hothers, hcode, hbins, hzoom, hslots, hevm, hregs, hcore⟩ := Dev.coreFrame_pglAfter pc ms hclean
    obtain ⟨hv, hk, ha0, ha1, hz, hn, hc, hqueue, hout⟩ := hcore
    exact ⟨hothers, hcode, hbins, hzoom, hslots, hevm, hregs, hv, hk, ha0, ha1, hz, hn, hc, hqueue, hout,
      fun hidle => Dev.data_pglAfter pc ms hidle⟩
  · intro e
    obtain ⟨c, x, he, hkeeps⟩ := Dev.putD_core k f ms w d
    have hx : e.getCore k = x := by rw [show e = _ from he, Dev.getCore_setCore]
    obtain ⟨ha0, ha1, hz, hn, hc, hdata, hqueue, hout⟩ := hkeeps
    refine ⟨fun j hj => ?_, ?_, ?_, ?_, ?_, ?_⟩
    · rw [show e = _ from he, Dev.getCore_setCore_other _ _ hj]
      rfl
    · rw [show e = _ from he]
      rfl
    · rw [show e = _ from he]
      rfl
    · rw [show e = _ from he]
      rfl
    · rw [show e = _ from he]
      rfl
    · dsimp only
      refine ⟨by rw [hx, ha0], by rw [hx, ha1], by rw [hx, hz], by rw [hx, hn], by rw [hx, hc], by rw [hx, hdata], by rw [hx, hqueue],
        by rw [hx, hout], fun hclash => ?_⟩
      have hput : e.getCore k = ((d.getCore k).posts ms).writePhys (physOf (d.iph k) f.d) w := by
        rw [show e = _ from d.putD_eq w hclash, Dev.getCore_setCore]
      obtain ⟨q, hq, hpost⟩ := Core.posts_eq ms (d.getCore k)
      rw [hput]
      refine ⟨fun i _ hne => ?_, fun i _ hne hptr => ?_⟩
      · rw [Core.v_writePhys_other _ _ hne, hq]
      · rw [Core.k_writePhys_other _ _ hne, hq]
        exact hpost i hptr

end Sys2Proof.Machine
end

section
/-! A DMA beat between two places of shared SRAM (15_dma.md, R326 to R328). -/
namespace Sys2Proof.Machine

/-! ### Channels -/

@[simp] theorem Dev.getDma_setDma (d : Dev) (c : Nat) (x : DmaCh) : (d.setDma c x).getDma c = x := SMap.get_put_self _ _ _ _

/-- The channel whose turn it is runs a descriptor. -/
theorem Dev.dmaTurn_runs {d : Dev} {c : Nat} (h : d.dmaTurn = some c) : c < 24 ∧ d.dmaState c = dmaRun := by
  have hcan : d.canIssue c = true := List.find?_some h
  obtain ⟨i, -, hi⟩ := List.mem_map.1 (List.mem_of_find?_eq_some h)
  have hc : c < 24 := hi ▸ Nat.mod_lt _ (by decide)
  refine ⟨hc, ?_⟩
  unfold Dev.canIssue at hcan
  dsimp only at hcan
  split at hcan
  · cases hcan
  · simp only [Bool.and_eq_true, beq_iff_eq, and_assoc] at hcan
    exact hcan.1

/-- The state of a channel leaves its COUNT_REM. -/
theorem Dev.countRem_setDmaState {c : Nat} (hc : c < 24) (st : Nat) (d : Dev) :
    (d.setDmaState c st).fld (dmaPage c) DMA_COUNT_REM_COUNT = d.fld (dmaPage c) DMA_COUNT_REM_COUNT := by
  have hcommon : ∀ off, off < 0x1000 → regKey (dmaPage c) DMA_COUNT_REM ≠ regKey 0xAF off := by
    intro off hoff
    simp only [regKey, dmaPage, DMA_COUNT_REM]
    omega
  rw [Dev.setDmaState, Dev.fld_setFld_other _ _ _ _ _ _ (hcommon DMA_ACTIVE (by decide)),
    Dev.fld_setFld_other _ _ _ _ _ _ (hcommon DMA_HALTED (by decide)),
    Dev.fld_setFld_other _ _ _ _ _ _ (regKey_off (by decide))]

/-- The device once n bytes of a descriptor have been issued: the count that remains, the bytes moved, the beats outstanding. -/
theorem Dev.dmaIssued_facts {c : Nat} (hc : c < 24) {ds : DmaDesc} (hcount : ds.count < 2 ^ 24) (n : Nat) (d : Dev) :
    ((d.dmaIssued c n ds).getDma c).beats = (d.getDma c).beats ∧ ((d.dmaIssued c n ds).getDma c).moved = (d.getDma c).moved + n ∧
    (d.dmaIssued c n ds).fld (dmaPage c) DMA_COUNT_REM_COUNT = ds.count - ((d.getDma c).moved + n) ∧ (d.dmaIssued c n ds).dmaLast = d.dmaLast := by
  have hrem (e : Dev) (v : Nat) (hv : v < 2 ^ 24) : (e.setFld (dmaPage c) DMA_COUNT_REM_COUNT v).fld (dmaPage c) DMA_COUNT_REM_COUNT = v := by
    rw [Dev.fld_setFld_self _ _ _ _ (by decide) (by decide)]
    exact Nat.mod_eq_of_lt hv
  have hchan (x : DmaCh) (v : Nat) : ((d.setDma c x).setFld (dmaPage c) DMA_COUNT_REM_COUNT v).getDma c = x := Dev.getDma_setDma d c x
  have hst (e : Dev) (st : Nat) : (e.setDmaState c st).getDma c = e.getDma c ∧ (e.setDmaState c st).dmaLast = e.dmaLast := ⟨rfl, rfl⟩
  unfold Dev.dmaIssued
  dsimp only
  split
  · rw [(hst _ _).1, (hst _ _).2, Dev.countRem_setDmaState hc, hchan, hrem _ _ (by omega)]
    exact ⟨rfl, rfl, rfl, rfl⟩
  · rw [hchan, hrem _ _ (by omega)]
    exact ⟨rfl, rfl, rfl, rfl⟩

/-! ### The beat -/

theorem fourByte_low {a : Nat} (h : a < 0x800000) : fourByte a = false := decide_eq_false (by omega)

theorem Dev.dmaFails_low (d : Dev) {a : Nat} (h : a < 0x800000) (n : Nat) : d.dmaFails a n = false := by
  rw [Dev.dmaFails, fourByte_low h]
  rfl

/-- A beat between two places of SRAM takes the bytes of its source and stores them. -/
theorem State.dmaTry_low {b : DmaBeat} (hdata : b.data = none) (hshuf : b.desc.shuf = 0) (hsrc : b.src < 0x800000) (hdst : b.dst < 0x800000)
    (s : State) :
    s.dmaTry b = ({ b with data := some (memBytes s.mem b.src b.n), err := false },
      { s with mem := memPutBytes s.mem b.dst (memBytes s.mem b.src b.n) }) := by
  simp only [State.dmaTry, State.dmaRead, State.dmaPut, hdata, hshuf, Dev.dmaFails_low _ hsrc, Dev.dmaFails_low _ hdst, fourByte_low hsrc,
    fourByte_low hdst, Bool.false_eq_true, if_false, Bool.not_false, if_true, Nat.reduceBEq]

/-- The size of a beat of a plain descriptor. -/
theorem DmaDesc.beatSize_low {x : DmaDesc} (hs : x.srcMode = 0) (hd : x.dstMode = 0) (hshuf : x.shuf = 0) {a b : Nat} (ha : a < 0x800000)
    (hb : b < 0x800000) (moved : Nat) : x.beatSize moved a b = min (x.count - moved) (min (32 - a % 32) (32 - b % 32)) := by
  simp only [DmaDesc.beatSize, hs, hd, hshuf, beatLimit, fourByte_low ha, fourByte_low hb, blockLeft, Nat.reduceBEq, Bool.false_eq_true,
    if_false, Bool.or_self]

/-- The beat that channel c issues of a plain descriptor, the bytes of its source in it. -/
def Dev.plainBeat (c : Nat) (ds : DmaDesc) (m : Mem) (d : Dev) : DmaBeat :=
  let x := d.getDma c
  let n := min (ds.count - x.moved) (min (32 - (ds.src + x.moved) % 32) (32 - (ds.dst + x.moved) % 32))
  ⟨x.ord, ds, x.moved, ds.src + x.moved, ds.dst + x.moved, n, some (memBytes m (ds.src + x.moved) n), 0, 0, false⟩

/-- Issuing a beat of a plain descriptor stores its bytes and puts it behind those outstanding. -/
theorem State.dmaIssue_low {c : Nat} {ds : DmaDesc} {s : State} (hs : ds.srcMode = 0) (hd : ds.dstMode = 0) (hshuf : ds.shuf = 0)
    (hsrc : ds.src + (s.dev.getDma c).moved < 0x800000) (hdst : ds.dst + (s.dev.getDma c).moved < 0x800000)
    (hrun : s.dev.dmaState c = dmaRun) :
    s.dmaIssue c ds =
      let x := s.dev.getDma c
      let b := s.dev.plainBeat c ds s.mem
      { s with
        mem := memPutBytes s.mem b.dst (memBytes s.mem b.src b.n)
        dev := (s.dev.setDma c { x with beats := x.beats ++ [b], ringNext := (x.ringNext + 0) % s.dev.ringLen c }).dmaIssued c b.n ds } := by
  unfold State.dmaIssue
  dsimp only
  simp only [hs, hd, Nat.reduceBEq, Bool.false_and, Bool.false_eq_true, if_false, beq_self_eq_true, if_true,
    DmaDesc.beatSize_low hs hd hshuf hsrc hdst]
  rw [State.dmaTry_low rfl hshuf hsrc hdst]
  simp only [hrun, bne_self_eq_false, Bool.false_eq_true, if_false]
  rfl

/-- Byte i of a block stored elsewhere. -/
theorem memByte_copy (m : List Host.Cell) (src dst n : Nat) {i : Nat} (hi : i < n) :
    memByte (memPutBytes m dst (memBytes m src n)) (dst + i) = memByte m (src + i) := by
  have hlen : i < (memBytes m src n).length := by simpa [memBytes] using hi
  rw [memByte_putBytes_self _ _ _ _ hlen]
  simp [memBytes]

theorem memByte_copy_other (m : List Host.Cell) (src dst n : Nat) {a : Nat} (h : a < dst ∨ dst + n ≤ a) :
    memByte (memPutBytes m dst (memBytes m src n)) a = memByte m a :=
  memByte_putBytes_other _ _ _ _ (by simpa [memBytes] using h)

/-- What issuing a beat of a plain descriptor comes to: the bytes stored, the beats outstanding, the count that remains. -/
theorem State.dmaIssue_facts {c : Nat} {ds : DmaDesc} {s : State} (hc : c < 24) (hs : ds.srcMode = 0) (hd : ds.dstMode = 0)
    (hshuf : ds.shuf = 0) (hcount : ds.count < 2 ^ 24) (hsrc : ds.src + (s.dev.getDma c).moved < 0x800000)
    (hdst : ds.dst + (s.dev.getDma c).moved < 0x800000) (hrun : s.dev.dmaState c = dmaRun) :
    let n := (s.dev.plainBeat c ds s.mem).n
    let dst := ds.dst + (s.dev.getDma c).moved
    (s.dmaIssue c ds).mem = memPutBytes s.mem dst (memBytes s.mem (ds.src + (s.dev.getDma c).moved) n) ∧
    ((s.dmaIssue c ds).dev.getDma c).beats.length = (s.dev.getDma c).beats.length + 1 ∧
    ((s.dmaIssue c ds).dev.getDma c).moved = (s.dev.getDma c).moved + n ∧
    (s.dmaIssue c ds).dev.fld (dmaPage c) DMA_COUNT_REM_COUNT = ds.count - ((s.dev.getDma c).moved + n) ∧
    (s.dmaIssue c ds).dev.dmaLast = s.dev.dmaLast := by
  intro n dst
  rw [State.dmaIssue_low hs hd hshuf hsrc hdst hrun]
  dsimp only
  obtain ⟨hbeats, hmoved, hrem, hlast⟩ := Dev.dmaIssued_facts hc hcount n (s.dev.setDma c { s.dev.getDma c with
    beats := (s.dev.getDma c).beats ++ [s.dev.plainBeat c ds s.mem], ringNext := ((s.dev.getDma c).ringNext + 0) % s.dev.ringLen c })
  rw [Dev.getDma_setDma] at hbeats hmoved hrem
  exact ⟨rfl, (congrArg List.length hbeats).trans List.length_append, hmoved, hrem, hlast⟩

theorem exec_dmaBeatIssue {s : State} {t : Nat} (h : s.up t = true) : exec (.dmaBeatIssue t) s = .next (s.ready t).dmaBeat := by
  have hexec : exec (.dmaBeatIssue t) s = s.cmdS t true State.dmaBeat := rfl
  rw [hexec, State.cmdS_up h]

/-- The channel whose turn it is issues its beat as the last one that did. -/
theorem State.dmaBeat_turn {s : State} {c : Nat} {ds : DmaDesc} (hturn : s.dev.dmaTurn = some c) (hdesc : (s.dev.getDma c).desc = some ds) :
    s.dmaBeat = State.dmaIssue c ds { s with dev := { s.dev with dmaLast := c } } := by
  simp only [State.dmaBeat, hturn, hdesc]

/-- Settles O51: the beat stores the bytes it has read, and what follows its issue counts them. -/
theorem dmaBeatsCopyWhatTheyRead : Obligations.DmaBeatsCopyWhatTheyRead := by
  intro s t c ds hup d x hturn hdesc hs hd hshuf hmoved hcount src dst n hsrc hdst
  obtain ⟨hc, hrun⟩ := Dev.dmaTurn_runs hturn
  have hn : 0 < n := by
    simp only [n]
    omega
  have hexec : exec (.dmaBeatIssue t) s = .next (State.dmaIssue c ds { s.ready t with dev := { d with dmaLast := c } }) := by
    rw [exec_dmaBeatIssue hup, State.dmaBeat_turn (s := s.ready t) hturn hdesc]
    rfl
  clear_value d
  obtain ⟨hmem, hrest⟩ := State.dmaIssue_facts (s := { s.ready t with dev := { d with dmaLast := c } }) hc hs hd hshuf hcount hsrc hdst hrun
  have hcopy : ∀ m : List Host.Cell, m = memPutBytes s.mem dst (memBytes s.mem src n) →
      (∀ i, i < n → memByte m (dst + i) = memByte s.mem (src + i)) ∧ (∀ a, a < dst ∨ dst + n ≤ a → memByte m a = memByte s.mem a) := by
    rintro m rfl
    exact ⟨fun i hi => memByte_copy s.mem src dst n hi, fun a ha => memByte_copy_other s.mem src dst n ha⟩
  obtain ⟨hbytes, hothers⟩ := hcopy _ hmem
  exact ⟨_, hexec, hn, hbytes, hothers, hrest⟩

end Sys2Proof.Machine
end

section
/-! Transfers of the ports (20_registers_events.md, R436, R437, R441). -/
namespace Sys2Proof.Machine

/-! ### Reads -/

section
variable {s : State} {ini : Initiator} {n a : Nat}

/-- A read of words that no running core holds. -/
theorem State.portRead_words (hreach : s.dev.reaches ini = true) (hrun : s.dev.runningWords ini n a = none) :
    s.portRead ini n a = let r := s.readWords ini n a
      { r.2 with dev := r.2.dev.deliver2 ini r.1 } := by
  simp only [State.portRead, hreach, hrun, if_true]

/-- A read of words of a running core's data memory. -/
theorem State.portRead_running {k w : Nat} (hreach : s.dev.reaches ini = true) (hrun : s.dev.runningWords ini n a = some (k, w)) :
    s.portRead ini n a =
      s.put ((List.range n).foldl (fun d i => d.pglAccess ini k (w + i) none) (s.dev.deliver2 ini [])) := by
  simp only [State.portRead, hreach, hrun, if_true]
  rfl

theorem State.portRead_unreached (hreach : s.dev.reaches ini = false) : s.portRead ini n a = s := by
  simp only [State.portRead, hreach, Bool.false_eq_true, if_false]

end

/-- The management port reaches no core's memory. -/
theorem Dev.runningWords_management (n a : Nat) (d : Dev) : d.runningWords .management n a = none := by
  have hplace : ∀ k w, placeOf .management a ≠ .data k w := by
    intro k w
    unfold placeOf
    dsimp only
    repeat' split
    all_goals simp_all
  unfold Dev.runningWords
  split
  · next k w h => exact absurd h (hplace k w)
  · rfl

/-- No word lies in a running core where none is read. -/
theorem Dev.runningWords_zero (ini : Initiator) (a : Nat) (d : Dev) : d.runningWords ini 0 a = none := by
  unfold Dev.runningWords
  split <;> rfl

/-! ### Writes -/

theorem State.portWrites_reached {s : State} {ini : Initiator} (hreach : s.dev.reaches ini = true) (ws : List Word) (a : Nat) :
    s.portWrites ini ws a = s.writeWords ini ws a := if_pos hreach

theorem State.portWrites_unreached {s : State} {ini : Initiator} (hreach : s.dev.reaches ini = false) (ws : List Word) (a : Nat) :
    s.portWrites ini ws a = s := if_neg (by rw [hreach]; decide)

theorem State.writeWords_one (s : State) (ini : Initiator) (w : Word) (a : Nat) :
    s.writeWords ini [w] a = s.placeWrite ini (placeOf ini (a % 2 ^ 32)) w := ite_self _

/-- An address of the window of single bits, of an initiator that has one. -/
theorem placeOf_alias {ini : Initiator} {a : Nat} (hini : ini ≠ .jtag) (hlo : 0x60000000 ≤ a) (hhi : a < 0x616A0000) (hal : a % 4 = 0) :
    placeOf ini (a % 2 ^ 32) = .bit ((a - 0x60000000) / 128 * 4 / 0x1000) ((a - 0x60000000) / 128 * 4 % 0x1000)
      ((a - 0x60000000) / 4 % 32) := by
  rw [Nat.mod_eq_of_lt (by omega)]
  have hjtag : (ini == .jtag) = false := by cases ini <;> simp_all
  simp only [placeOf, hal, bne_self_eq_false, hjtag, Bool.false_eq_true, if_false, Bool.and_eq_true, decide_eq_true_eq,
    (show ¬ a < 0x800000 by omega), (show ¬ (0x10000000 ≤ a ∧ a < 0x14000000) by omega), (show ¬ (0x18000000 ≤ a ∧ a < 0x18100000) by omega),
    (show ¬ (0x18200000 ≤ a ∧ a < 0x18208000) by omega), (show ¬ (0x20000000 ≤ a ∧ a < 0x20800000) by omega),
    (show ¬ (0x20800000 ≤ a ∧ a < 0x20A00000) by omega), (show ¬ (0x40000000 ≤ a ∧ a < 0x400B5000) by omega), hlo, hhi, and_self, if_true]

/-- A write of one bit: of the register, the bits beside it as they are held, but for those that act by themselves. -/
theorem State.placeWrite_bit (s : State) (d : Dev) (ini : Initiator) (r b : Nat) (w : Word) :
    (s.put d).placeWrite ini (.bit (r / 0x1000) (r % 0x1000) b) w = s.put (
      let x := setBits (d.heldWord ini (r / 0x1000) (r % 0x1000) &&& holdMask (r / 0x1000) (r % 0x1000)) b b (bitAt w.toNat 0).toNat
      match d.aliasApart (r / 0x1000) (r % 0x1000) b x with
      | some e => e
      | none => d.pageWrite s.mem ini (r / 0x1000) (r % 0x1000) x) := rfl

/-! ### The commands -/

section
variable {s : State} {t : Nat}

theorem State.reaches_ready {ini : Initiator} (h : s.servedTo t ini = true) : (s.ready t).dev.reaches ini = true := by
  simp only [State.servedTo, Bool.and_eq_true] at h
  exact h.2

theorem exec_xspiRead (h : s.up t = true) (a n : Nat) : exec (.xspiRead t a n) s = .next ((s.ready t).portRead .control n a) :=
  State.cmdS_up h (State.portRead .control n a)

theorem exec_mgmtRead (h : s.up t = true) (a n : Nat) : exec (.mgmtRead t a n) s = .next ((s.ready t).portRead .management n a) :=
  State.cmdS_up h (State.portRead .management n a)

theorem exec_xspiPageProgram (h : s.up t = true) (a : Nat) (ws : List Word) :
    exec (.xspiPageProgram t a ws) s = .next ((s.ready t).writeWords .control ws a) :=
  State.cmdS_up h (State.portWrites .control ws a)

theorem exec_mgmtWrite (h : s.up t = true) (a : Nat) (ws : List Word) :
    exec (.mgmtWrite t a ws) s = .next ((s.ready t).writeWords .management ws a) :=
  State.cmdS_up h (State.portWrites .management ws a)

theorem exec_rcRegisterRead (h : s.up t = true) (ini : Initiator) (a : Nat) :
    exec (.rcRegisterRead t ini a) s = .next ((s.ready t).portRead ini 1 a) :=
  State.cmdS_up h (fun s => s.portRead ini 1 a)

theorem exec_bitAliasWrite (h : s.up t = true) {ini : Initiator} {a : Nat} (ha : okAlias a = true) (w : Word) :
    exec (.bitAliasWrite t ini a w) s = .next ((s.ready t).portWrites ini [w] a) := by
  have hexec : exec (.bitAliasWrite t ini a w) s = s.cmdS t (okAlias a) (fun s => s.portWrites ini [w] a) := rfl
  rw [hexec, ha, State.cmdS_up h]

/-- An initiator whose way is locked writes no bit, whatever the address. -/
theorem exec_bitAliasWrite_unreached {ini : Initiator} (hup : s.up t = true) (h : (s.begun t).reaches ini = false) (a : Nat) (w : Word) :
    exec (.bitAliasWrite t ini a w) s = .next (s.ready t) := by
  by_cases ha : okAlias a = true
  · rw [exec_bitAliasWrite hup ha, State.portWrites_unreached (s := s.ready t) h]
  · have hexec : exec (.bitAliasWrite t ini a w) s = s.cmdS t (okAlias a) (fun s => s.portWrites ini [w] a) := rfl
    rw [hexec, State.cmdS_down (by rw [Bool.eq_false_iff.2 ha]; rfl)]

theorem exec_registerWrite_unreached {ini : Initiator} (hup : s.up t = true) (h : (s.begun t).reaches ini = false) (a : Nat) (w : Word) :
    exec (.registerWrite t ini a w) s = .next (s.ready t) := by
  have hexec : exec (.registerWrite t ini a w) s = s.cmdS t true (fun s => s.portWrites ini [w] a) := rfl
  rw [hexec, State.cmdS_up hup, State.portWrites_unreached (s := s.ready t) h]

end

/-- Settles O5. -/
theorem emptyTransfersMoveNothing : Obligations.EmptyTransfersMoveNothing := by
  intro s t a h
  have hnone (ini : Initiator) : (s.ready t).dev.runningWords ini 0 a = none := Dev.runningWords_zero ini a _
  refine ⟨?_, ?_, exec_xspiPageProgram h a [], exec_mgmtWrite h a []⟩
  · rw [exec_xspiRead h, State.portRead_words rfl (hnone _)]
    rfl
  · rw [exec_mgmtRead h, State.portRead_words rfl (hnone _)]
    rfl

/-- Settles O13: each transfer is a read or a write of words, and one word lies at one place. -/
theorem portTransfersComplete : Obligations.PortTransfersComplete := by
  refine ⟨fun s t a n h hrun => ?_, fun s t a n h => ?_, fun s t a n k w h hrun => ?_, fun s t a ws h => exec_xspiPageProgram h a ws,
    fun s t a ws h => exec_mgmtWrite h a ws, fun s t a ini w h => exec_registerWrite_served h a w, fun s t a ini h hrun => ?_,
    fun s t a k w ini h hrun => ?_, fun s t a ini w h hini hlo hhi hal => ?_, fun s t a ini w h hlocked => ⟨?_, ?_, ?_⟩⟩
  · rw [exec_xspiRead h, State.portRead_words (s := s.ready t) rfl hrun]
    rfl
  · rw [exec_mgmtRead h, State.portRead_words (s := s.ready t) rfl (Dev.runningWords_management n a _)]
    rfl
  · rw [exec_xspiRead h, State.portRead_running (s := s.ready t) rfl hrun]
    rfl
  · rw [exec_rcRegisterRead (State.servedTo_up h), State.portRead_words (s := s.ready t) (State.reaches_ready h) hrun]
    rfl
  · rw [exec_rcRegisterRead (State.servedTo_up h), State.portRead_running (s := s.ready t) (State.reaches_ready h) hrun]
    rfl
  · have ha : okAlias a = true := by simp only [okAlias, Bool.and_eq_true, decide_eq_true_eq]; omega
    rw [exec_bitAliasWrite (State.servedTo_up h) ha, State.portWrites_reached (State.reaches_ready h), State.writeWords_one,
      placeOf_alias hini hlo hhi hal]
    exact congrArg Host.Outcome.next (State.placeWrite_bit s (s.begun t) ini _ _ w)
  · exact exec_registerWrite_unreached h hlocked a w
  · rw [exec_rcRegisterRead h, State.portRead_unreached (s := s.ready t) hlocked]
  · exact exec_bitAliasWrite_unreached h hlocked a w

end Sys2Proof.Machine
end

section
/-! The commands of the ports, the common registers, the reset causes and the state requests (20_registers_events.md, 21_power_startup.md). -/
namespace Sys2Proof.Machine
-- A `decide +kernel` waits for every proof before it: in turn, none of them waits in a thread of its own.
set_option Elab.async false

/-- Equal devices make equal answers. -/
theorem State.answers_congr {s : State} {d e : Dev} (h : d = e) :
    (.next (s.put d) : Host.Outcome State Fault Refusal) = .next (s.put e) := h ▸ rfl

/-! ### The state after reset -/

/-- Settles O10: each fact is read off the reset state. -/
theorem resetStateFacts : Obligations.ResetStateFacts := by
  refine ⟨by decide +kernel, rfl, rfl, rfl, ?_, ?_, ?_, ?_, ?_, rfl, ?_⟩ <;> decide +kernel

/-! ### The ports -/

theorem Dev.bumpFirst_unseen {d : Dev} {p off : Nat} (h : (d.bump p off).wasSeen p off = false) (b : Nat) :
    d.bumpFirst p off b = ((d.bump p off).markSeen p off).raise p b := by
  simp only [Dev.bumpFirst, h, Bool.false_eq_true, if_false]

theorem Dev.bumpFirst_seen {d : Dev} {p off : Nat} (h : (d.bump p off).wasSeen p off = true) (b : Nat) :
    d.bumpFirst p off b = d.bump p off := by
  simp only [Dev.bumpFirst, h, if_true]

theorem Dev.takeAddress_free {d : Dev} (h : d.on 0x00 DEV_PORT_STATUS_I3C = false) (a : Nat) :
    d.takeAddress a = (d.setFld 0x00 DEV_PORT_STATUS_I3C 1).setFld 0x00 DEV_PORT_STATUS_DYN_ADDR a := by
  simp only [Dev.takeAddress, h, Bool.false_eq_true, if_false]

theorem Dev.enterAddress_free {d : Dev} (h : d.on 0x00 DEV_PORT_STATUS_I3C = false) (a : Nat) :
    d.enterAddress a = ((d.deliver2 .management provisionalId).setFld 0x00 DEV_PORT_STATUS_I3C 1).setFld 0x00 DEV_PORT_STATUS_DYN_ADDR a := by
  rw [Dev.enterAddress, h, if_neg Bool.false_ne_true]
  exact Dev.takeAddress_free (d := d.deliver2 .management provisionalId) h a

section
variable {s : State} {t : Nat}

theorem exec_xspiBadCommand (h : s.up t = true) : exec (.xspiBadCommand t) s = .next (s.put ((s.begun t).bumpFirst 0x00 DEV_BAD_CMD 3)) :=
  State.cmd_up h Dev.badCmd

theorem exec_setdasa (h : s.up t = true) {a7 : Nat} (ha : a7 < 128) : exec (.setdasa t a7) s = .next (s.put ((s.begun t).takeAddress a7)) := by
  have hexec : exec (.setdasa t a7) s = s.cmd t (okDynAddr a7) (fun d => d.takeAddress a7) := rfl
  rw [hexec, show okDynAddr a7 = true from decide_eq_true ha, State.cmd_up h]

theorem exec_entdaa (h : s.up t = true) {a7 : Nat} (ha : a7 < 128) : exec (.entdaa t a7) s = .next (s.put ((s.begun t).enterAddress a7)) := by
  have hexec : exec (.entdaa t a7) s = s.cmd t (okDynAddr a7) (fun d => d.enterAddress a7) := rfl
  rw [hexec, show okDynAddr a7 = true from decide_eq_true ha, State.cmd_up h]

end

/-- Settles O14. -/
theorem portCommandsComplete : Obligations.PortCommandsComplete := by
  refine ⟨fun s t h => ⟨State.cmd_up h _, State.cmd_up h fun d => d, State.cmd_up h _,
    State.cmd_up h fun d => (d.setFld 0x00 DEV_PORT_STATUS_I3C 0).setFld 0x00 DEV_PORT_STATUS_DYN_ADDR 0⟩, fun s t h hfirst => ?_, fun s t h hseen => ?_,
    fun s t a7 h ha hfree => ⟨?_, ?_⟩⟩
  · rw [exec_xspiBadCommand h, Dev.bumpFirst_unseen hfirst]
  · rw [exec_xspiBadCommand h, Dev.bumpFirst_seen hseen]
  · rw [exec_setdasa h ha, Dev.takeAddress_free hfree]
  · rw [exec_entdaa h ha, Dev.enterAddress_free hfree]

/-! ### The common registers -/

/-- A write of a common register, with what the common write gives. -/
theorem State.rowWrite_common {s : State} {t : Nat} {ini : Initiator} {p off : Nat} {w : Word} {e : Dev} (hp : p < 0xB5)
    (h : s.writable t ini p off = true) (hc : (s.landed t p off).writeCommon s.mem ini p off w = some e) :
    s.rowWrite t (okPage p) ini p off w = .next (s.put e) := by
  rw [show okPage p = true from decide_eq_true hp, State.rowWrite_served (State.writable_served h)]
  simp only [State.writable, Bool.and_eq_true, Bool.not_eq_true'] at h
  simp only [State.landed] at h hc
  simp only [Dev.pageWrite, h.2, hc, Bool.false_eq_true, if_false]

/-- The common registers that only answer the host land without a trace. -/
theorem State.landed_quiet (s : State) (t p : Nat) {off : Nat} (h : isQuiet off = true) : s.landed t p off = s.begun t := if_pos h

/-- A write under a full mask that clears nothing leaves the word. -/
theorem BitVec.write_full {n : Nat} (old w x : BitVec n) :
    ((old &&& ~~~(BitVec.allOnes n ||| x)) ||| (w &&& (BitVec.allOnes n ||| x))) &&& ~~~(w &&& 0#n) = w := by
  rw [BitVec.allOnes_or]
  simp

/-- A register whose bits are all RW takes the word. -/
theorem Dev.merged_rw {p off : Nat} (h : (regDef p off).map (fun r => (r.rw, r.w1c)) = some (BitVec.allOnes 32, 0)) (w : Word) (d : Dev) :
    d.merged p off w = d.setReg p off w := by
  obtain ⟨r, hr, hrw⟩ := Option.map_eq_some_iff.1 h
  obtain ⟨hall, hclear⟩ := Prod.mk.inj hrw
  rw [Dev.merged_some hr, Dev.mergeWrite, hall, hclear]
  exact congrArg _ (BitVec.write_full (d.reg p off) w _)

/-- What a register takes is written at its place. -/
theorem Dev.merged_eq (p off : Nat) (w : Word) (d : Dev) : ∃ v, d.merged p off w = d ∨ d.merged p off w = d.setReg p off v := by
  cases hr : regDef p off with
  | none => exact ⟨0, .inl (by simp only [Dev.merged, hr])⟩
  | some r => exact ⟨_, .inr (Dev.merged_some hr w d)⟩

/-- A write leaves every other register. -/
theorem Dev.reg_merged_other (d : Dev) {p off p' off' : Nat} (w : Word) (h : regKey p' off' ≠ regKey p off) :
    (d.merged p off w).reg p' off' = d.reg p' off' := by
  obtain ⟨v, he | he⟩ := Dev.merged_eq p off w d <;> rw [he]
  exact Dev.reg_setReg_other d v h

theorem eventCounter_rw : ∀ n < 16, (regDef 0x02 (EVM_CNT + 4 * n)).map (fun r => (r.rw, r.w1c)) = some (BitVec.allOnes 32, 0) := by
  decide +kernel

/-- A write of a register of the pages below 8: its merge, and then what its block does. -/
theorem State.rowWrite_management {s : State} {t : Nat} {ini : Initiator} {p off : Nat} (h : s.servedTo t ini = true) (hp : p < 8)
    (ho : isOwn off = true) (hs : (regDef p off).isSome = true) (hr : (s.begun t).refused p off = 0) (w : Word) :
    s.rowWrite t true ini p off w
      = .next (s.put (((s.begun t).merged p off w).afterManagement s.mem p off ((s.begun t).reg p off) w)) := by
  rw [State.rowWrite_lowOf h (.inl hp) ho, Dev.ownOf_management hp hs hr]

theorem bitsOf_low (w : Word) (n : Nat) : bitsOf w n 0 = w.toNat % 2 ^ (n + 1) := rfl

/-- Settles O15: the commands of the common registers write them, the others write a register of EVM. -/
theorem commonRegisterCommandsComplete : Obligations.CommonRegisterCommandsComplete := by
  refine ⟨fun s t p ini w hp h => ?_, fun s t p ini hp h hfree => ?_, fun s t p ini w hp h => ?_, fun s t p ini hp h hdue => ?_,
    fun s t ini seq h => ?_, fun s t ini h => ⟨?_, ?_⟩, fun s t n ini w hn h => ?_⟩
  · exact State.rowWrite_common hp h (by rw [State.landed_quiet s t p rfl]; rfl)
  · refine State.rowWrite_common hp h ?_
    simp only [Dev.writeCommon, hfree, Bool.not_false, Bool.and_true, decide_eq_true_eq, Bool.and_eq_true]
    rfl
  · exact State.rowWrite_common hp h (by rw [State.landed_quiet s t p rfl]; rfl)
  · have hexec : exec (.mbxSnapshot t ini p) s = s.cmd t (okPage p) (fun d => d.mbxTake ini p) := rfl
    rw [hexec, show okPage p = true from decide_eq_true hp, State.cmd_up h]
    simp only [Dev.mbxTake, hdue, Bool.not_true, Bool.false_eq_true, if_false]
  · exact State.rowWrite_management h (by decide) rfl (by decide +kernel) rfl seq
  · exact State.rowWrite_management h (by decide) rfl (by decide +kernel) rfl 1
  · exact State.rowWrite_management h (by decide) rfl (by decide +kernel) rfl 1
  · have hexec : exec (.eventCounterLoad t ini n w) s = s.rowWrite t (okCounter n) ini 0x02 (EVM_CNT + 4 * n) w := rfl
    have hrw := eventCounter_rw n hn
    have hsome : (regDef 0x02 (EVM_CNT + 4 * n)).isSome = true := by
      rw [← Option.isSome_map, hrw]; rfl
    have hne (o : Nat) (ho : o < 0xC0 ∨ 0x100 ≤ o) : EVM_CNT + 4 * n ≠ o := by
      show 0xC0 + 4 * n ≠ o; omega
    have hown : isOwn (EVM_CNT + 4 * n) = true := by
      simp only [isOwn, Bool.and_eq_true, bne_iff_ne]
      exact ⟨⟨⟨hne _ (by decide), hne _ (by decide)⟩, hne _ (by decide)⟩, hne _ (by decide)⟩
    have hafter (d : Dev) (old : Word) : d.afterManagement s.mem 0x02 (EVM_CNT + 4 * n) old w = d := by
      simp [Dev.afterManagement, hne EVM_SOFT (by decide), hne EVM_LOG_POP (by decide), hne EVM_LOG_CTRL (by decide)]
    rw [hexec, show okCounter n = true from decide_eq_true hn, State.rowWrite_management h (by decide) hown hsome rfl, Dev.merged_rw hrw,
      hafter]

/-! ### Resets -/

theorem Dev.causeEnd_inForce {d : Dev} {b : Nat} (h : bitAt d.pwr.causes b = true) :
    d.causeEnd b = { d with pwr := { d.pwr with causes := withoutBit d.pwr.causes b, freeAt := d.now } } := if_pos h

/-- A write of another page leaves the device state. -/
theorem Dev.awake_merged {p off : Nat} (hp : p ≠ 0) (hoff : off < 0x1000) (w : Word) (d : Dev) : (d.merged p off w).awake = d.awake := by
  unfold Dev.awake Dev.devState Dev.fld
  rw [Dev.reg_merged_other d w (regKey_page (Ne.symm hp) hoff (by decide))]

theorem Dev.softReset_awake {d : Dev} (h : d.awake = true) :
    d.softReset = Dev.inReset 5 false { d with pwr := { d.pwr with freeAt := max d.pwr.freeAt (d.now + 800000) } } := by
  have hout : d.devState ≠ stReset := bne_iff_ne.1 h
  rw [Dev.softReset, Dev.resetBegin, if_neg]
  · rfl
  · exact fun h => hout (beq_iff_eq.1 h)

theorem Dev.bootEntry_free {d : Dev} (hst : d.devState = stReset) (hc : d.pwr.causes = 0) (ht : d.pwr.freeAt + 4000000 ≤ d.now) :
    d.bootEntry = Dev.setState stBoot { d with otp := { d.otp with bootAt := d.now } } := by
  have ht' : d.pwr.freeAt + Config.us 50 ≤ d.now := ht
  rw [Dev.bootEntry, hst, hc, decide_eq_true ht']
  rfl

/-- Settles O16. -/
theorem resetCausesComplete : Obligations.ResetCausesComplete := by
  refine ⟨fun s t _ _ => rfl, fun s t h hb => ?_, fun s t h hb => ?_, fun s t r h hr hb => exec_brownout h (hasBrownout_iff.2 hr) hb,
    fun s t hb => ?_, fun s t hb => ?_, fun s t r hr hb => ?_, fun s t ini h => ?_, fun s t hst hc ht => ?_⟩
  · exact (State.always_eq s t Dev.resetLFall).trans (by rw [Dev.resetLFall, Dev.causeBegin_awake h hb])
  · exact (State.always_eq s t Dev.pwrgoodFall).trans (by rw [Dev.pwrgoodFall, Dev.causeBegin_awake h hb])
  · exact (State.always_eq s t Dev.resetLRise).trans (by rw [Dev.resetLRise, Dev.causeEnd_inForce hb])
  · exact (State.always_eq s t Dev.pwrgoodRise).trans (by rw [Dev.pwrgoodRise, Dev.causeEnd_inForce hb])
  · have hrail := hasBrownout_iff.2 hr
    have hexec : exec (.brownoutEnd t r) s = s.always t (fun d => if okRail r then d.brownoutEnd r else d) := rfl
    rw [hexec, State.always_eq, if_pos (okRail_of_hasBrownout hrail), Dev.brownoutEnd, if_pos hrail, Dev.causeEnd_inForce hb]
  · have hexec : exec (.softReset t ini) s = s.rowWrite t true ini 0x01 PWR_RESET_CTRL 0x52E50001 := rfl
    rw [hexec, State.rowWrite_management h (by decide) rfl (by decide +kernel) rfl]
    exact State.answers_congr (Dev.softReset_awake ((Dev.awake_merged (by decide) (by decide) _ _).trans (State.servedTo_up h)))
  · exact (State.always_eq s t Dev.bootEntry).trans (by rw [Dev.bootEntry_free hst hc ht])

/-! ### Requests -/

theorem Dev.stateRequest_allowed {d : Dev} {r : Nat} (h : d.requestRefusal r = 0) :
    d.stateRequest r = ((d.setFld 0x01 PWR_REQ_STATUS_LAST r).setFld 0x01 PWR_REQ_STATUS_ERR 0).enterState r := by
  simp only [Dev.stateRequest, h, beq_self_eq_true, if_true]

/-- A code that no state of Table 21-4 has is refused in every state. -/
theorem Dev.requestRefusal_other {d : Dev} {r : Nat} (h : r < 3 ∨ r = 7) : d.requestRefusal r = reqTransition := by
  have hne (st : Nat) (hst : 3 ≤ st ∧ st ≤ 6) : (r == st) = false := beq_eq_false_iff_ne.2 (by omega)
  simp only [Dev.requestRefusal, hne stStandby (by decide), hne stArmed (by decide), hne stScanning (by decide), hne stSafeHold (by decide),
    Bool.or_false, Bool.and_false, Bool.false_eq_true, if_false]

/-- Settles O18. -/
theorem stateRequestsComplete : Obligations.StateRequestsComplete := by
  have hreq (s : State) (t : Nat) (ini : Initiator) (h : s.servedTo t ini = true) (w : Word) :
      s.rowWrite t true ini 0x01 PWR_STATE_REQ w = .next (s.put ((Dev.merged 0x01 PWR_STATE_REQ w (s.begun t)).stateRequest (bitsOf w 2 0))) :=
    State.rowWrite_management h (by decide) rfl (by decide +kernel) rfl w
  refine ⟨fun s t ini h => ?_, fun s t r ini h hr hother => ?_⟩
  · intro q
    refine ⟨fun hok => ?_, fun hok => ?_, fun hok => ?_, fun hok => ?_⟩
    · exact (hreq s t ini h 3).trans (State.answers_congr (Dev.stateRequest_allowed hok))
    · exact (hreq s t ini h 4).trans (State.answers_congr (Dev.stateRequest_allowed hok))
    · exact (hreq s t ini h 5).trans (State.answers_congr (Dev.stateRequest_allowed hok))
    · exact (hreq s t ini h 6).trans (State.answers_congr (Dev.stateRequest_allowed hok))
  · have hexec : exec (.stateRequestOther t ini r) s = s.rowWrite t (okOtherRequest r) ini 0x01 PWR_STATE_REQ (BitVec.ofNat 32 r) := rfl
    have hok : okOtherRequest r = true := by simp only [okOtherRequest]; simp; omega
    have hbits : bitsOf (BitVec.ofNat 32 r) 2 0 = r := by simp [bitsOf]; omega
    rw [hexec, hok, hreq s t ini h, hbits, Dev.stateRequest_refused (by rw [Dev.requestRefusal_other hother]; decide),
      Dev.requestRefusal_other hother]

end Sys2Proof.Machine
end

section
/-! Reading the fields of an instruction word (14_pergola_dsp.md, Table 14-2). -/
namespace Sys2Proof.Machine

theorem PglFields.toNat_word {f : PglFields} (hop : f.op < 64) (hd : f.d < 64) (hs : f.s < 64) (ht : f.t < 64) (hm1 : f.m1 < 4096)
    (hm2 : f.m2 < 4096) :
    f.word.toNat = f.op * 2 ^ 42 + f.d * 2 ^ 36 + f.s * 2 ^ 30 + f.t * 2 ^ 24 + f.m1 * 2 ^ 12 + f.m2 := by
  rw [PglFields.word, BitVec.toNat_ofNat, Nat.mod_eq_of_lt (by omega)]

/-- The fields of a word put together are its number. -/
theorem pglFields_sum (w : BitVec 48) :
    (pglFields w).op * 2 ^ 42 + (pglFields w).d * 2 ^ 36 + (pglFields w).s * 2 ^ 30 + (pglFields w).t * 2 ^ 24 + (pglFields w).m1 * 2 ^ 12
      + (pglFields w).m2 = w.toNat := by
  have hw := w.isLt
  simp only [pglFields]
  omega

/-- Settles O48: both directions are the digits of a number below 2^48. -/
theorem instructionFieldsRoundTrip : Obligations.InstructionFieldsRoundTrip := by
  refine ⟨fun f hop hd hs ht hm1 hm2 => ?_, fun w => ?_, fun w => ?_⟩
  · have hw := PglFields.toNat_word hop hd hs ht hm1 hm2
    obtain ⟨op, d, s, t, m1, m2⟩ := f
    simp only [pglFields, hw, PglFields.mk.injEq] at *
    omega
  · rw [PglFields.word, pglFields_sum, BitVec.ofNat_toNat, BitVec.setWidth_eq]
  · simp only [pglFields, PglFields.imm]
    omega

end Sys2Proof.Machine
end

section
/-! The clocks, the power domains and the time base (06_points_time.md, 21_power_startup.md). -/
namespace Sys2Proof.Machine
-- A `decide +kernel` waits for every proof before it: in turn, none of them waits in a thread of its own.
set_option Elab.async false

/-! ### PLLs -/

section
variable {d : Dev}

theorem Dev.pllLock_first (hfree : d.released = true) (hpll : d.pllLocked = false) (hrun : d.dtb.run = false) :
    d.pllLock = { d.setFld 0x01 PWR_STATUS_PLL_LOCKED 1 with dtb := { d.dtb with run := true, dt := 0 } } := by
  have hrun' : (d.setFld 0x01 PWR_STATUS_PLL_LOCKED 1).dtb.run = false := hrun
  simp only [Dev.pllLock, hfree, hpll, hrun', Bool.not_true, Bool.not_false, Bool.or_self, Bool.false_eq_true, if_true, if_false]
  rfl

theorem Dev.pllLock_again (hfree : d.released = true) (hpll : d.pllLocked = false) (hrun : d.dtb.run = true) :
    d.pllLock = let e := d.setFld 0x01 PWR_STATUS_PLL_LOCKED 1
      if e.isFollower then { e with dtb := { e.dtb with reacquire := true } } else e := by
  have hrun' : (d.setFld 0x01 PWR_STATUS_PLL_LOCKED 1).dtb.run = true := hrun
  simp only [Dev.pllLock, hfree, hpll, hrun', Bool.not_true, Bool.or_self, Bool.false_eq_true, if_false]

theorem Dev.pllUnlock_locked (hpll : d.pllLocked = true) :
    d.pllUnlock =
      let d := (((d.setFld 0x01 PWR_STATUS_PLL_LOCKED 0).bump 0x01 PWR_UNLOCK_CNT).setFld 0x01 PWR_STATUS_TIME_DISC 1).raise 0x01 2
      let d := if d.devState = stArmed ∨ d.devState = stScanning then d.enterState stSafeHold else d
      [0, 1, 2, 3].foldl (fun (d : Dev) k => if d.down k then d else d.scaleLoss k) d := by
  simp only [Dev.pllUnlock, hpll, Bool.not_true, Bool.false_eq_true, if_false, Bool.or_eq_true, beq_iff_eq]
  rfl

theorem Dev.lanePllLock_unlocked (hrun : d.dtb.run = true) (hdown : d.down 8 = false) (hlane : ∃ n, n < 10 ∧ d.laneState n < 2)
    (hpll : d.on 0x01 PWR_STATUS_LANE_PLL_LOCKED = false) :
    d.lanePllLock = Dev.setFld { d with prm := { d.prm with lastAm := none, scramAt := none } } 0x01 PWR_STATUS_LANE_PLL_LOCKED 1 := by
  obtain ⟨n, hn, hpower⟩ := hlane
  have hsome : (List.range 10).all (fun n => 2 ≤ d.laneState n) = false :=
    List.all_eq_false.2 ⟨n, List.mem_range.2 hn, by rw [decide_eq_true_eq]; omega⟩
  simp only [Dev.lanePllLock, hrun, hdown, hsome, hpll, Bool.not_true, Bool.or_self, Bool.false_eq_true, if_false]

theorem Dev.auxPllLock_running (hrun : d.dtb.run = true) : d.auxPllLock = d.setFld 0x01 PWR_STATUS_AUX_PLL_LOCKED 1 := if_pos hrun

/-! ### Power domains -/

theorem Dev.domainGated_switching {m : Mem} {k a : Nat} (h : d.pwr.switch = some (k, true, a)) :
    d.domainGated m =
      let d := d.dmaPowerHalt
      let d := if k < 4 then d.deliveriesLost m k else d
      ((((d.domainLost k).setBit 0x01 PWR_GATE_STATUS (gateBit k)).bump 0x01 PWR_GATE_CNT).raise 0x01 0).gateOver m := by
  simp only [Dev.domainGated, h]

theorem Dev.domainRestored_switching {m : Mem} {k a : Nat} (h : d.pwr.switch = some (k, false, a)) :
    d.domainRestored m =
      let d := ((d.domainLost k).clrBit 0x01 PWR_GATE_STATUS (gateBit k)).raise 0x01 1
      let d := if k < 4 then Dev.loopSync false { d with pwr := { d.pwr with switch := none } } (2 + k) else d
      d.gateOver m := by
  simp only [Dev.domainRestored, h]

theorem Dev.enterFault_awake (h : d.awake = true) (cause : Fld) : d.enterFault cause = (d.setFld 0x00 cause 1).enterState stFault :=
  if_neg fun hst => (bne_iff_ne.1 h) (beq_iff_eq.1 hst)

theorem Dev.domainTimeout_late {k a : Nat} {up : Bool} (hup : d.awake = true) (h : d.pwr.switch = some (k, up, a)) (hlate : a + 80000000 ≤ d.now) :
    d.domainTimeout = (d.setFld 0x00 DEV_FAULT_CAUSE_PWR 1).enterState stFault := by
  have hlate' : a + Config.ms 1 ≤ d.now := hlate
  simp only [Dev.domainTimeout, h, hlate', if_true, Dev.enterFault_awake hup]

end

/-- Settles O20. -/
theorem clocksAndDomainsComplete : Obligations.ClocksAndDomainsComplete := by
  refine ⟨fun s t hfree hpll hrun => ?_, fun s t hfree hpll hrun => ?_, fun s t hpll => ?_, fun s t hrun hdown hlane hpll => ?_,
    fun s t hrun => ?_, fun s t ini w h => ?_, fun s t k a h hsw => ?_, fun s t k a h hsw => ?_, fun s t k a up h hsw hlate => ?_⟩
  · exact (State.always_eq s t Dev.pllLock).trans (State.answers_congr (Dev.pllLock_first hfree hpll hrun))
  · exact (State.always_eq s t Dev.pllLock).trans (State.answers_congr (Dev.pllLock_again hfree hpll hrun))
  · exact (State.always_eq s t Dev.pllUnlock).trans (State.answers_congr (Dev.pllUnlock_locked hpll))
  · exact (State.always_eq s t Dev.lanePllLock).trans (State.answers_congr (Dev.lanePllLock_unlocked hrun hdown hlane hpll))
  · exact (State.always_eq s t Dev.auxPllLock).trans (State.answers_congr (Dev.auxPllLock_running hrun))
  · exact State.rowWrite_management h (by decide) rfl (by decide +kernel) rfl w
  · exact (State.cmdM_up h Dev.domainGated).trans (State.answers_congr (Dev.domainGated_switching hsw))
  · exact (State.cmdM_up h Dev.domainRestored).trans (State.answers_congr (Dev.domainRestored_switching hsw))
  · exact (State.cmd_up h Dev.domainTimeout).trans (State.answers_congr (Dev.domainTimeout_late h hsw hlate))

/-! ### The time base -/

section
variable {d : Dev}

theorem Dev.inLoop_of_follower (h : d.isFollower = true) : d.inLoop = false := by
  simp only [Dev.isFollower, Bool.and_eq_true] at h
  simp only [Dev.inLoop, h.1, Bool.not_true, Bool.false_and]

theorem Dev.timeFrameSend_due (hrun : d.dtb.run = true) (hpart : (d.isLeader || d.inLoop) = true) (hdue : d.edgeTime % d.timePeriod ≤ 2) :
    d.timeFrameSend = { d with dtb := { d.dtb with
      sent := d.dtb.sent ++ [syncFrame 0x5A (d.edgeTime - d.edgeTime % d.timePeriod)]
      busyUntil := d.now + syncBit * (81 + 8) } } := by
  simp only [Dev.timeFrameSend, hrun, hpart, decide_eq_true hdue, Bool.and_self, if_true]

theorem Dev.syncInEdge_own (hfollower : d.isFollower = false) (hloop : d.inLoop = false) :
    d.syncInEdge = let e := d.swapRequest d.edgeTime
      if e.isLeader then e.eventFrameSend d.edgeTime else e := by
  simp only [Dev.syncInEdge, hfollower, hloop, Bool.or_self, Bool.false_eq_true, if_false]

theorem Dev.timeFrameReceive_bad (hpart : (d.isFollower || d.inLoop) = true) (tm : Nat) :
    d.timeFrameReceive tm false = Dev.bumpFirst 0x03 DTB_CRC_ERR 3 d := by
  simp only [Dev.timeFrameReceive, hpart, Bool.not_true, Bool.not_false, Bool.false_eq_true, if_true, if_false, Dev.syncCrcError]

/-- The device with the TIME frame noted. -/
def Dev.timeNoted (tm : Nat) (d : Dev) : Dev := { d with dtb := { d.dtb with lastTm := tm, lastA := d.edgeTime } }

theorem Dev.timeFrameReceive_loop (hloop : d.inLoop = true) (tm : Nat) :
    d.timeFrameReceive tm true
      = (d.timeNoted tm).setFld 0x03 DTB_LOOP_DELAY_DELAY (toBits 16 ((d.edgeTime : Int) - (tm : Int))) := by
  have hloop' : (d.timeNoted tm).inLoop = true := hloop
  unfold Dev.timeNoted at *
  simp only [Dev.timeFrameReceive, hloop, hloop', Bool.or_true, Bool.not_true, Bool.false_eq_true, if_true, if_false]

theorem Dev.timeFrameReceive_follower (hfollower : d.isFollower = true) (tm : Nat) :
    d.timeFrameReceive tm true =
      let e : Int := (d.edgeTime : Int) - ((d.timeNoted tm).fld 0x03 DTB_CABLE_DELAY_DELAY : Int) - (tm : Int)
      (((d.timeNoted tm).setFld 0x03 DTB_PHASE_ERR_E (toBits 16 (clampI (-32767) 32767 e))).setFld 0x03 DTB_STATUS_MISSED 0).follow e := by
  have hloop : (d.timeNoted tm).inLoop = false := Dev.inLoop_of_follower (d := d) hfollower
  unfold Dev.timeNoted at *
  simp only [Dev.timeFrameReceive, hfollower, hloop, Bool.true_or, Bool.not_true, Bool.false_eq_true, if_false]

theorem Dev.eventFrameReceive_follower (h : d.isFollower = true) (f : Nat) :
    d.eventFrameReceive f true = d.swapRequest (d.fullTime f) ∧ d.eventFrameReceive f false = Dev.bumpFirst 0x03 DTB_CRC_ERR 3 d := by
  simp only [Dev.eventFrameReceive, h, Bool.not_true, Bool.not_false, Bool.false_eq_true, if_true, if_false, Dev.syncCrcError, and_self]

theorem Dev.frameMissed_follower (h : d.isFollower = true) :
    d.frameMissed =
      let n := min 255 (d.fld 0x03 DTB_STATUS_MISSED + 1)
      let e := d.setFld 0x03 DTB_STATUS_MISSED n
      if 2 ≤ n ∧ e.on 0x03 DTB_STATUS_LOCKED = true then
        { e.syncLoss with dtb := { e.syncLoss.dtb with reacquire := true } } else e := by
  simp only [Dev.frameMissed, h, Bool.not_true, Bool.false_eq_true, if_false, Bool.and_eq_true, decide_eq_true_eq]

theorem Dev.dtbLoad_own (h : d.isFollower = false) :
    d.dtbLoad = Dev.applyIfIdle { d with dtb := { d.dtb with
      pendLoad := some (d.regN 0x03 DTB_LOAD_HI * 2 ^ 32 + d.regN 0x03 DTB_LOAD_LO) } } :=
  if_neg (by rw [h]; exact Bool.false_ne_true)

theorem Dev.dtbLoad_follower (h : d.isFollower = true) : d.dtbLoad = d := if_pos h

theorem Dev.dtbResync_follower (h : d.isFollower = true) : d.dtbResync = { d with dtb := { d.dtb with reacquire := true } } := if_pos h

theorem Dev.timeSaturate_carried (hcarried : d.dtb.carried = true) (hsat : d.on 0x03 DTB_STATUS_TIME_SAT = false) :
    d.timeSaturate = (d.setFld 0x03 DTB_STATUS_TIME_SAT 1).raise 0x03 4 := by
  simp only [Dev.timeSaturate, hcarried, hsat, Bool.not_false, Bool.and_self, if_true]

/-- What a write of DTB.CTRL does after its merge. -/
theorem Dev.afterManagement_dtbCtrl (m : Mem) (old w : Word) (d : Dev) :
    d.afterManagement m 0x03 DTB_CTRL old w =
      let e := d.dtbCtrlWritten old
      let e := if bitsOf w DTB_CTRL_LOAD.hi DTB_CTRL_LOAD.lo = 1 then e.dtbLoad else e
      if bitsOf w DTB_CTRL_RESYNC.hi DTB_CTRL_RESYNC.lo = 1 then e.dtbResync else e := by
  simp [Dev.afterManagement]

end

/-- A write of DTB.CTRL. -/
theorem State.rowWrite_dtbCtrl {s : State} {t : Nat} {ini : Initiator} (h : s.servedTo t ini = true) (w : Word) :
    s.rowWrite t true ini 0x03 DTB_CTRL w = .next (s.put (
      let e := (Dev.merged 0x03 DTB_CTRL w (s.begun t)).dtbCtrlWritten ((s.begun t).reg 0x03 DTB_CTRL)
      let e := if bitsOf w DTB_CTRL_LOAD.hi DTB_CTRL_LOAD.lo = 1 then e.dtbLoad else e
      if bitsOf w DTB_CTRL_RESYNC.hi DTB_CTRL_RESYNC.lo = 1 then e.dtbResync else e)) := by
  rw [State.rowWrite_management h (by decide) rfl (by decide +kernel) rfl, Dev.afterManagement_dtbCtrl]

/-- A forced field reads as what it was forced to. -/
theorem bitsOf_forced (f : Fld) (w : Word) (hl : f.lo ≤ f.hi) (hh : f.hi < 32) : bitsOf (forced f 1 w) f.hi f.lo = 1 := by
  rw [forced, bitsOf_setBits_self w 1 hl hh, Nat.mod_eq_of_lt]
  exact Nat.one_lt_two_pow (by omega)

/-- Settles O22. -/
theorem timeBaseCommandsComplete : Obligations.TimeBaseCommandsComplete := by
  refine ⟨fun s t h hrun hpart hdue => ?_, fun s t h hfollower hloop => ?_, fun s t tm h hpart => ?_, fun s t tm h hloop => ?_,
    fun s t tm h hfollower => ?_, fun s t f h hfollower => ⟨?_, ?_⟩, fun s t h hfollower => ?_, fun s t ini w h => ?_,
    fun s t ini w h => ?_, fun s t h hcarried hsat => ?_⟩
  · exact (State.cmd_up h Dev.timeFrameSend).trans (State.answers_congr (Dev.timeFrameSend_due hrun hpart hdue))
  · exact (State.cmd_up h Dev.syncInEdge).trans (State.answers_congr (Dev.syncInEdge_own hfollower hloop))
  · exact (State.cmd_up h (Dev.timeFrameReceive tm false)).trans (State.answers_congr (Dev.timeFrameReceive_bad hpart tm))
  · exact (State.cmd_up h (Dev.timeFrameReceive tm true)).trans (State.answers_congr (Dev.timeFrameReceive_loop hloop tm))
  · exact (State.cmd_up h (Dev.timeFrameReceive tm true)).trans (State.answers_congr (Dev.timeFrameReceive_follower hfollower tm))
  · exact (State.cmd_up h (Dev.eventFrameReceive f true)).trans (State.answers_congr (Dev.eventFrameReceive_follower hfollower f).1)
  · exact (State.cmd_up h (Dev.eventFrameReceive f false)).trans (State.answers_congr (Dev.eventFrameReceive_follower hfollower f).2)
  · exact (State.cmd_up h Dev.frameMissed).trans (State.answers_congr (Dev.frameMissed_follower hfollower))
  · intro d hown
    refine (State.rowWrite_dtbCtrl h _).trans (State.answers_congr ?_)
    have hload : (if bitsOf (forced DTB_CTRL_LOAD 1 w) DTB_CTRL_LOAD.hi DTB_CTRL_LOAD.lo = 1 then d.dtbLoad else d) = _ :=
      (if_pos (bitsOf_forced DTB_CTRL_LOAD w (by decide) (by decide))).trans (Dev.dtbLoad_own hown)
    exact congrArg (fun e : Dev => if bitsOf (forced DTB_CTRL_LOAD 1 w) DTB_CTRL_RESYNC.hi DTB_CTRL_RESYNC.lo = 1 then e.dtbResync else e) hload
  · intro v d hfollower
    refine (State.rowWrite_dtbCtrl h _).trans (State.answers_congr ?_)
    have hload : (if bitsOf v DTB_CTRL_LOAD.hi DTB_CTRL_LOAD.lo = 1 then d.dtbLoad else d) = d := by
      rw [Dev.dtbLoad_follower hfollower, ite_self]
    refine (if_pos (bitsOf_forced DTB_CTRL_RESYNC w (by decide) (by decide))).trans ?_
    exact (congrArg Dev.dtbResync hload).trans (Dev.dtbResync_follower hfollower)
  · exact (State.cmd_up h Dev.timeSaturate).trans (State.answers_congr (Dev.timeSaturate_carried hcarried hsat))

end Sys2Proof.Machine
end

section
/-! The cells, timing and histograms of a terrace (02_meadow_trellis.md, 03_sundial_timing.md, 04_orangery_histograms.md). -/
namespace Sys2Proof.Machine

/-- A command of operands that stand for something, in a terrace that functions. -/
theorem State.cmd_terrace {s : State} {t k : Nat} {ok : Bool} (hok : ok = true) (h : s.upIn t k = true) (f : Dev → Dev) :
    s.cmd t ok (fun d => d.inTerrace k f) = .next (s.put (f (s.begun t))) := by
  simp only [State.upIn, Bool.and_eq_true, Bool.not_eq_true'] at h
  rw [hok, State.cmd_up h.1, Dev.inTerrace, h.2]
  rfl

section
variable {d : Dev}

theorem Dev.cellArm_due {b : Nat} {g : GateSet} (hgate : d.armingGate b = some g) (hgated : g.gated = true) (hsome : g.opens < g.closes)
    (hlead : g.opens ≤ d.now + g.lead) (hopen : d.now < g.closes) (harmed : (d.getBank b).armed = none) :
    d.cellArm b = d.setBank b { d.getBank b with armed := some d.now } := by
  simp only [Dev.cellArm, hgate, hgated, decide_eq_true hsome, decide_eq_true hlead, decide_eq_true hopen, harmed, Option.isNone_none,
    Bool.and_self, if_true]

theorem Dev.cellAvalanche_counts {cell raw : Nat} {endLow : Bool} (hlatched : (d.getCell cell).latched = false)
    (hdead : (d.getCell cell).deadEnd ≤ d.now) (harmed : d.pixelArmed (cell / 16) = true) :
    d.cellAvalanche cell raw endLow =
      let c := d.getCell cell
      let run := if d.now ≤ c.deadEnd + 80 ∧ 0 < c.deadEnd then c.run + 1 else 0
      let m := 0x08 + cell / 32768
      let d := (d.setCell cell { deadEnd := d.now + 80 * (4 + min (d.fld m MDW_DEAD_TIME_DT) 12), run := run, latched := run == 1024 }).coincide
        (cell / 16) raw endLow
      if run = 1024 then
        ((d.setFld m MDW_LATCHED_CELLS_COUNT (d.fld m MDW_LATCHED_CELLS_COUNT + 1)).setReg m MDW_LATCH_LAST
          (BitVec.ofNat 32 (2 ^ 31 + cell))).raise m 2
      else d := by
  have hns (n : Nat) : Config.ns n = 80 * n := rfl
  have hterrace : terraceOfPixel (cell / 16) = cell / 32768 := Nat.div_div_eq_div_mul cell 16 2048
  simp only [Dev.cellAvalanche, hlatched, Nat.not_lt.2 hdead, harmed, Bool.not_true, decide_false, Bool.or_self, Bool.false_eq_true, if_false,
    Bool.and_eq_true, decide_eq_true_eq, beq_iff_eq, hterrace, Dev.cellDead, hns, Nat.mul_one]

theorem Dev.stampRelease_known {ch s0 : Nat} {x : Stamp} {rest : List Stamp} (halign : (d.getChan ch).align = x :: rest)
    (hdelay : (d.getBank (ch / 256)).delayOf x.fireDt = some s0) (hdue : x.at_ + 1920 ≤ d.now) :
    d.stampRelease ch =
      let e := (x.ts + 2 ^ 19 - x.fireDt % 2 ^ 19) % 2 ^ 19
      let sb := s0 % 2 ^ 19
      let p := sdlPage (ch / 32)
      let d := d.setChan ch { d.getChan ch with align := rest }
      let q := d.getSdl (ch / 512)
      if e < sb then
        Dev.bedOnce (ch / 32) 1 ((d.setSdl (ch / 512) { q with prestartSum := sat16 (q.prestartSum + 1) }).bumpSat p (SDL_PRESTART_CH + 4 * (ch % 32)))
      else
        let d := if e = sb then Dev.bedOnce (ch / 32) 2 (d.bumpSat p (SDL_ZERO_CH + 4 * (ch % 32))) else d
        let c := d.getChan ch
        let q := d.getSdl (ch / 512)
        if 16 ≤ c.queue.length then
          Dev.bedOnce (ch / 32) 0 ((d.setSdl (ch / 512) { q with dropSum := sat16 (q.dropSum + 1) }).bumpSat p (SDL_DROP_CH + 4 * (ch % 32)))
        else d.setChan ch { c with queue := c.queue ++ [⟨x.half, e == sb, e - sb, x.at_⟩] } := by
  have hdelay' : ((d.getBank (ch / 256)).starts.find? (fun e => e.1 == x.fireDt)).map (·.2) = some s0 := hdelay
  have hnow : ¬ d.now < x.at_ + Config.ns 24 := Nat.not_lt.2 hdue
  simp only [Dev.stampRelease, halign, hdelay', hnow, if_false, beq_iff_eq]

theorem Dev.hopExecute_due {ch x : Nat} {g : GateSet} (hgate : (d.getBank (ch / 256)).gate = some g) (hopen : (d.getBank (ch / 256)).gateOpen = true)
    (hx : (SMap.get [] d.lag (ch / 32))[(d.getHop ch).done]? = some x) (hnow : d.now < g.closes)
    (hin : (d.getBank (ch / 256)).fireAt + 8 * x < g.closes) (hearly : (d.getBank (ch / 256)).fireAt + 8 * x ≤ d.now + 8)
    (hlate : d.now ≤ (d.getBank (ch / 256)).fireAt + 8 * x + 8) :
    d.hopExecute ch = d.hopStep ch (d.now - (d.getBank (ch / 256)).fireAt) true := by
  simp only [Dev.hopExecute, hgate, hx, hopen, decide_eq_true hnow, decide_eq_true hin, decide_eq_true hearly, decide_eq_true hlate,
    Bool.and_self, if_true]

theorem Dev.startPulse_accepted {tr raw : Nat} (hdead : (d.getSdl tr).refDead ≤ d.now) (hlo : 62 ≤ raw) (hhi : raw ≤ 130)
    (hcal : d.calRef tr = false) :
    let e := d.setSdl tr { d.getSdl tr with refDead := d.now + 256 }
    let ts := e.stampNow (widths (e.reg (refPage tr)) SDL_REF_CAL_TAB) raw
    let k := e.getBank (2 * tr)
    k.winOpen = true → k.accepted = none → (ts + 2 ^ 19 - k.fireDt % 2 ^ 19) % 2 ^ 19 < 1600 →
    d.startPulse tr raw =
      ((e.setBank (2 * tr) { k with accepted := some ((ts + 2 ^ 19 - k.fireDt % 2 ^ 19) % 2 ^ 19) }).setFld
        (refPage tr) SDL_START_MISS_RUN_RUN_0 0).dtestPulse 1 (0x00A + tr) := by
  intro e ts k hwin hfree hspan
  have hin : rawOut raw = false := by simp only [rawOut, Nat.not_lt.2 hlo, Nat.not_lt.2 hhi, decide_false, Bool.or_self]
  have hmiss : missRun (2 * tr) = SDL_START_MISS_RUN_RUN_0 := by simp only [missRun, Nat.mul_mod_right, beq_self_eq_true, if_true]
  have hcal' : e.calRef tr = false := hcal
  have hhit : (k.winOpen && k.accepted.isNone && decide ((ts + 2 ^ 19 - k.fireDt % 2 ^ 19) % 2 ^ 19 < 1600)) = true := by
    rw [hwin, hfree, decide_eq_true hspan]; rfl
  simp only [Dev.startPulse, if_neg (Nat.not_lt.2 hdead), hin, Bool.false_eq_true, if_false]
  refine (if_neg (by rw [hcal']; exact Bool.false_ne_true)).trans ?_
  rw [List.find?_cons_of_pos (a := 2 * tr) (l := [2 * tr + 1]) (by exact hhit)]
  dsimp only
  rw [hmiss]

theorem Dev.startClose_accepted {b a : Nat} (hwin : (d.getBank b).winOpen = true) (hdue : (d.getBank b).fireAt + 1600 ≤ d.now)
    (ha : (d.getBank b).accepted = some a) (hopen : (d.getBank b).gateOpen = false) (hdone : (d.getBank b).gateDone = false) :
    d.startClose b =
      let p := refPage (b / 2)
      let sb := if d.on p SDL_START_CTRL_EN then a else d.fld p SDL_START_CTRL_START_NOM
      (d.setRegN p (SDL_START_LAST + 4 * (b % 2)) a).setBank b { d.getBank b with
        winOpen := false, accepted := none, starts := (((d.getBank b).fireDt, sb) :: (d.getBank b).starts).take 4 } := by
  have hdue' : (d.getBank b).fireAt + Config.ns 20 ≤ d.now := hdue
  simp only [Dev.startClose, hwin, decide_eq_true hdue', ha, hopen, hdone, Option.isNone_some, Bool.false_and, Bool.or_false, Bool.and_self,
    Bool.false_eq_true, if_true, if_false, Option.getD_some]

end

/-- Settles O24. -/
theorem cellAndTimingCommandsComplete : Obligations.CellAndTimingCommandsComplete := by
  refine ⟨fun s t bank g hb h hgate hgated hsome hlead hopen harmed => ?_, fun s t cell raw endLow hc h hlatched hdead harmed => ?_,
    fun s t ch s0 x rest hch h halign hdelay hdue => ?_, fun s t ch x g hch h hgate hopen hx hnow hin hearly hlate => ?_,
    fun s t tr raw b htr h hdead hlo hhi hcal hb => ?_, fun s t bank a hb h hwin hdue ha hopen hdone => ?_⟩
  · exact (State.cmd_terrace (decide_eq_true hb) h _).trans (State.answers_congr (Dev.cellArm_due hgate hgated hsome hlead hopen harmed))
  · have hterrace : terraceOfPixel (cell / 16) = cell / 32768 := Nat.div_div_eq_div_mul cell 16 2048
    exact (State.cmd_terrace (decide_eq_true hc) (hterrace ▸ h) _).trans (State.answers_congr (Dev.cellAvalanche_counts hlatched hdead harmed))
  · exact (State.cmd_terrace (decide_eq_true hch) h _).trans (State.answers_congr (Dev.stampRelease_known halign hdelay hdue))
  · exact (State.cmd_terrace (decide_eq_true hch) h _).trans
      (State.answers_congr (Dev.hopExecute_due hgate hopen hx hnow hin hearly hlate))
  · subst hb
    intro d ts hwin hfree hspan
    exact (State.cmd_terrace (decide_eq_true htr) h _).trans (State.answers_congr (Dev.startPulse_accepted hdead hlo hhi hcal hwin hfree hspan))
  · exact (State.cmd_terrace (decide_eq_true hb) h _).trans (State.answers_congr (Dev.startClose_accepted hwin hdue ha hopen hdone))

end Sys2Proof.Machine
end

section
/-! Blanking, routes, the scale loop, tables and increments (02_meadow_trellis.md, 03_sundial_timing.md, 04_orangery_histograms.md). -/
namespace Sys2Proof.Machine
-- A `decide +kernel` waits for every proof before it: in turn, none of them waits in a thread of its own.
set_option Elab.async false

section
variable {d : Dev}

/-! ### Blanking -/

theorem Dev.blankFall_high (h : d.blankLow = false) :
    d.blankFall = [0, 1, 2, 3].foldl (fun (d : Dev) k =>
      let en := d.on (0x08 + k) MDW_BLANK_CTRL_EN
      let d := d.setBlank k { (d.getBlank k).prune d.now with
        lowSince := (if en = true then some d.now else none), longRaised := false, openFrom := some (d.periodStart - 64) }
      if en then d.raise (0x08 + k) 0 else d) { d with blankLow := true } := by
  rw [Dev.blankFall, h, if_neg Bool.false_ne_true]
  rfl

theorem Dev.blankFall_low (h : d.blankLow = true) : d.blankFall = d := if_pos h

theorem Dev.blankLong_due {tr a : Nat} (hlow : (d.getBlank tr).lowSince = some a) (hen : d.on (0x08 + tr) MDW_BLANK_CTRL_EN = true)
    (hmax : 0 < d.fld (0x08 + tr) MDW_BLANK_CTRL_BLANK_MAX) (hlong : a + 80000 * d.fld (0x08 + tr) MDW_BLANK_CTRL_BLANK_MAX < d.now)
    (hraised : (d.getBlank tr).longRaised = false) :
    d.blankLong tr = (d.setBlank tr { d.getBlank tr with longRaised := true }).raise (0x08 + tr) 1 := by
  have hlong' : a + Config.us (d.fld (0x08 + tr) MDW_BLANK_CTRL_BLANK_MAX) < d.now := hlong
  simp only [Dev.blankLong, hlow, hen, decide_eq_true hmax, decide_eq_true hlong', hraised, Bool.not_false, Bool.and_self, if_true]

/-! ### The scale loop -/

theorem Dev.scaleReference_filling {tr raw : Nat} (hpll : d.pllLocked = true) (hlen : (d.getSdl tr).codes.length < 255)
    (hhold : d.on (refPage tr) SDL_START_CTRL_LOCK_HOLD = true) :
    d.scaleReference tr raw = d.setSdl tr { d.getSdl tr with
      codes := (d.getSdl tr).codes ++ [raw], sinceTrim := (d.getSdl tr).sinceTrim + 1 } := by
  have hcodes : ((d.getSdl tr).codes ++ [raw]).drop ((d.getSdl tr).codes.length + 1 - 256) = (d.getSdl tr).codes ++ [raw] := by
    rw [Nat.sub_eq_zero_of_le (by omega), List.drop_zero]
  have hshort : ((d.getSdl tr).codes ++ [raw]).length < 256 := by rw [List.length_append, List.length_singleton]; omega
  have hhold' (x : SdlT) : (d.setSdl tr x).on (refPage tr) SDL_START_CTRL_LOCK_HOLD = true := hhold
  simp only [Dev.scaleReference, hpll, hcodes, hshort, hhold', Bool.not_true, Bool.false_eq_true, if_true, if_false]

theorem clampI_inside {lo hi x : Int} (hlo : lo ≤ x) (hhi : x ≤ hi) : clampI lo hi x = x := by
  unfold clampI; split
  · omega
  · split <;> omega

theorem Dev.scaleReference_locks {tr raw : Nat} {err : Int} (hpll : d.pllLocked = true) (hlen : (d.getSdl tr).codes.length = 256)
    (hhold : d.on (refPage tr) SDL_START_CTRL_LOCK_HOLD = true) (hlocked : d.on (refPage tr) SDL_LOCK_STATUS_LOCKED = false)
    (herr : err = ((d.getSdl tr).codes.drop 1 ++ [raw]).foldl (fun (a : Int) (c : Nat) => a + 4 * ((c : Int) - 64)) 0)
    (hlo : -128 ≤ err) (hhi : err ≤ 128) :
    d.scaleReference tr raw = (((d.setSdl tr { d.getSdl tr with
      codes := (d.getSdl tr).codes.drop 1 ++ [raw], sinceTrim := (d.getSdl tr).sinceTrim + 1 }).setFld
        (refPage tr) SDL_LOCK_STATUS_ERR (toBits 16 err)).setFld (refPage tr) SDL_LOCK_STATUS_LOCKED 1) := by
  have hcodes : ((d.getSdl tr).codes ++ [raw]).drop ((d.getSdl tr).codes.length + 1 - 256) = (d.getSdl tr).codes.drop 1 ++ [raw] := by
    rw [hlen, List.drop_append_of_le_length (by omega)]
  have hfull : ¬ ((d.getSdl tr).codes.drop 1 ++ [raw]).length < 256 := by
    rw [List.length_append, List.length_drop, List.length_singleton]; omega
  have hhold' (x : SdlT) : (d.setSdl tr x).on (refPage tr) SDL_START_CTRL_LOCK_HOLD = true := hhold
  have hlocked' (x : SdlT) : (d.setSdl tr x).on (refPage tr) SDL_LOCK_STATUS_LOCKED = false := hlocked
  simp only [Dev.scaleReference, hpll, hcodes, hfull, hhold', hlocked', ← herr, decide_eq_true hlo, decide_eq_true hhi,
    clampI_inside (lo := -32768) (hi := 32767) (x := err) (by omega) (by omega), Bool.not_true, Bool.not_false, Bool.and_self,
    Bool.false_eq_true, if_true, if_false]

/-! ### Writes of the pages of a terrace -/

theorem Dev.ownOf_sundial {m : Mem} {p off : Nat} {w : Word} (hp : 0x10 ≤ p ∧ p < 0x50) {r : RegDef} (hr : regDef p off = some r) :
    d.ownOf m p off w = d.sdlWrite r p off w := by
  simp only [Dev.ownOf, hr, Dev.ownWrite, Bool.and_eq_true, decide_eq_true_eq, show ¬ p < 8 by omega, hp, and_self, if_true, if_false]

theorem Dev.histogramIncrement_queued {ch : Nat} {e : QEntry} {rest : List QEntry} (h : (d.getChan ch).queue = e :: rest) :
    d.histogramIncrement ch =
      let d := d.setChan ch { d.getChan ch with queue := rest }
      if d.incrementAllowed (ch / 512) e.at_ then d.placeEntry ch e.half e.tof else d := by
  simp only [Dev.histogramIncrement, h]

end

theorem latchClr_defined : ∀ tr < 4, (regDef (0x08 + tr) MDW_LATCH_CLR).isSome = true := by decide +kernel
theorem route_defined : ∀ tr < 4, ∀ n < 64, (regDef (0x0C + tr) (TRL_ROUTE + 4 * n)).isSome = true := by decide +kernel
theorem calCommit_defined : ∀ bed < 64, (regDef (0x10 + bed) SDL_CAL_COMMIT).isSome = true := by decide +kernel
theorem startCtrl_defined : ∀ tr < 4, (regDef (refPage tr) SDL_START_CTRL).isSome = true := by decide +kernel

theorem Dev.ownOf_latchClr (m : Mem) {tr : Nat} (htr : tr < 4) (d : Dev) :
    d.ownOf m (0x08 + tr) MDW_LATCH_CLR 1 = (Dev.merged (0x08 + tr) MDW_LATCH_CLR 1 d).latchClear tr := by
  rw [Dev.ownOf_data (by omega) (latchClr_defined tr htr)]
  simp [Dev.afterData, show 0x08 + tr < 0x0C by omega, bitAt]

theorem Dev.ownOf_route (m : Mem) {tr n : Nat} (htr : tr < 4) (hn : n < 64) (w : Word) (d : Dev) :
    d.ownOf m (0x0C + tr) (TRL_ROUTE + 4 * n) w
      = (Dev.merged (0x0C + tr) (TRL_ROUTE + 4 * n) w d).routeWritten tr (TRL_ROUTE + 4 * n) (d.reg (0x0C + tr) (TRL_ROUTE + 4 * n)) := by
  rw [Dev.ownOf_data (by omega) (route_defined tr htr n hn)]
  have hlo : TRL_ROUTE ≤ TRL_ROUTE + 4 * n := Nat.le_add_right _ _
  have hhi : TRL_ROUTE + 4 * n < TRL_ROUTE + 256 := by omega
  have hpage : ¬ 0x0C + tr < 0x0C ∧ 0x0C + tr < 0x10 := by omega
  simp only [Dev.afterData, hpage, hlo, hhi, decide_true, Bool.and_self, if_true, if_false, Nat.add_sub_cancel_left]

theorem Dev.ownOf_calCommit (m : Mem) {bed : Nat} (hbed : bed < 64) {d : Dev} (h : d.underTest bed = false) (w : Word) :
    d.ownOf m (0x10 + bed) SDL_CAL_COMMIT w = d.commitBed bed w.toNat := by
  obtain ⟨r, hr⟩ := Option.isSome_iff_exists.1 (calCommit_defined bed hbed)
  rw [Dev.ownOf_sundial (by omega) hr]
  simp [Dev.sdlWrite, h, show ¬ SDL_CAL_TAB ≤ SDL_CAL_COMMIT by decide, show ¬ SDL_REF_CAL_TAB ≤ SDL_CAL_COMMIT by decide]

theorem Dev.ownOf_startCtrl (m : Mem) {tr : Nat} (htr : tr < 4) {w : Word} {d : Dev} (hw : bitAt w.toNat 31 = true)
    (h : (Dev.merged (refPage tr) SDL_START_CTRL w d).terraceTest tr = false) :
    d.ownOf m (refPage tr) SDL_START_CTRL w = (Dev.merged (refPage tr) SDL_START_CTRL w d).commitRef tr := by
  obtain ⟨r, hr⟩ := Option.isSome_iff_exists.1 (startCtrl_defined tr htr)
  have hpage : refPage tr % 16 = 0 ∧ (refPage tr - 0x10) / 16 = tr ∧ 0x10 ≤ refPage tr ∧ refPage tr < 0x50 := by
    unfold refPage; omega
  obtain ⟨href, hterrace, hrange⟩ := hpage
  rw [Dev.ownOf_sundial hrange hr]
  rw [Dev.merged_some hr] at h ⊢
  simp [Dev.sdlWrite, hw, hterrace, href, h, show ¬ SDL_START_CTRL = SDL_CAL_COMMIT by decide,
    show ¬ SDL_CAL_TAB ≤ SDL_START_CTRL by decide, show ¬ SDL_REF_CAL_TAB ≤ SDL_START_CTRL by decide]

/-- The bit that a write of one field's word sets. -/
theorem bitAt_setBits_top (w : Word) : bitAt (setBits w 31 31 1).toNat 31 = true :=
  beq_iff_eq.2 (bitsOf_setBits_self w (hi := 31) (lo := 31) 1 (by decide) (by decide))

theorem isOwn_of_range {off : Nat} (hlo : 0x1C ≤ off) (hhi : off < 0xF00) : isOwn off = true := by
  have hne (o : Nat) (ho : o < 0x1C ∨ 0xF00 ≤ o) : (off != o) = true := bne_iff_ne.2 (by omega)
  rw [isOwn, hne _ (by decide), hne _ (by decide), hne _ (by decide), hne _ (by decide)]
  rfl

/-- Settles O25. -/
theorem meadowAndScaleCommandsComplete : Obligations.MeadowAndScaleCommandsComplete := by
  refine ⟨fun s t hhigh => ?_, fun s t hlow => ?_, fun s t => ?_, fun s t tr a htr h hlow hen hmax hlong hraised => ?_,
    fun s t tr ini htr h => ?_, fun s t tr n ini w htr hn h => ?_, fun s t tr raw htr h hpll hlen hhold => ?_,
    fun s t tr raw err htr h hpll hlen hhold hlocked herr hlo hhi => ?_, fun s t bed ini w hbed h hfree => ?_,
    fun s t tr ini w htr h => ?_, fun s t ch e rest hch h hqueue => ?_⟩
  · exact (State.always_eq s t Dev.blankFall).trans (State.answers_congr (Dev.blankFall_high hhigh))
  · exact (State.always_eq s t Dev.blankFall).trans (State.answers_congr (Dev.blankFall_low hlow))
  · exact (State.always_eq s t Dev.blankRise).trans (State.answers_congr (by simp only [Dev.blankRise, beq_iff_eq]; rfl))
  · exact (State.cmd_terrace (decide_eq_true htr) h _).trans (State.answers_congr (Dev.blankLong_due hlow hen hmax hlong hraised))
  · have hexec : exec (.latchClr t ini tr) s = s.rowWrite t (okTerrace tr) ini (0x08 + tr) MDW_LATCH_CLR 1 := rfl
    rw [hexec, show okTerrace tr = true from decide_eq_true htr, State.rowWrite_ownOf h rfl, Dev.ownOf_latchClr _ htr]
    rfl
  · have hexec : exec (.routeWrite t ini tr n w) s = s.rowWrite t (okTerrace tr && okRoute n) ini (0x0C + tr) (TRL_ROUTE + 4 * n) w := rfl
    rw [hexec, show okTerrace tr = true from decide_eq_true htr, show okRoute n = true from decide_eq_true hn]
    have hown : isOwn (TRL_ROUTE + 4 * n) = true :=
      isOwn_of_range (Nat.le_trans (by decide) (Nat.le_add_right TRL_ROUTE _)) (by show 0x100 + 4 * n < 0xF00; omega)
    exact (State.rowWrite_ownOf h hown w).trans (State.answers_congr (Dev.ownOf_route _ htr hn w _))
  · exact (State.cmd_terrace (decide_eq_true htr) h _).trans (State.answers_congr (Dev.scaleReference_filling hpll hlen hhold))
  · exact (State.cmd_terrace (decide_eq_true htr) h _).trans
      (State.answers_congr (Dev.scaleReference_locks hpll hlen hhold hlocked herr hlo hhi))
  · have hexec : exec (.calTableCommit t ini bed w) s = s.rowWrite t (okBed bed) ini (0x10 + bed) SDL_CAL_COMMIT w := rfl
    rw [hexec, show okBed bed = true from decide_eq_true hbed]
    exact (State.rowWrite_ownOf h rfl w).trans (State.answers_congr (Dev.ownOf_calCommit _ hbed hfree w))
  · intro d hfree
    have hexec : exec (.refCalCommit t ini tr w) s = s.rowWrite t (okTerrace tr) ini (refPage tr) SDL_START_CTRL (setBits w 31 31 1) := rfl
    rw [hexec, show okTerrace tr = true from decide_eq_true htr]
    exact (State.rowWrite_ownOf h rfl _).trans (State.answers_congr (Dev.ownOf_startCtrl _ htr (bitAt_setBits_top w) hfree))
  · exact (State.cmd_terrace (decide_eq_true hch) h _).trans (State.answers_congr (Dev.histogramIncrement_queued hqueue))

end Sys2Proof.Machine
end

section
/-! Triggers, shots, fires and gates (01_architecture.md, 04_orangery_histograms.md, 08_bandstand_emitter.md). -/
namespace Sys2Proof.Machine

/-- A command of operands that stand for something, out of RESET. -/
theorem State.cmd_ok {s : State} {t : Nat} {ok : Bool} (h : s.up t = true) (hok : ok = true) (f : Dev → Dev) :
    s.cmd t ok f = .next (s.put (f (s.begun t))) := by
  rw [hok, State.cmd_up h]

/-! ### Triggers -/

section
variable {d : Dev}

theorem Dev.slotTrigger_crossing {m : Mem} {rbM : Bool} {rb : List (Nat × Nat × Nat)} {sm : Sample} {line : Nat} {begins rev : Bool}
    (hmay : d.mayTrigger = true) (hmode : d.fld 0x83 BND_CTRL_TRIG_MODE ≠ 1) (hfresh : d.bnd.fresh = some sm)
    (hcross : d.crossing = some (line, begins, rev)) :
    d.slotTrigger m rbM rb =
      let e := d.trigger m line begins rev sm (d.reachesMore line rev) rbM rb
      if d.reachesMore line rev = true then e else { e with bnd := { e.bnd with fresh := none } } := by
  simp only [Dev.slotTrigger, hmay, beq_eq_false_iff_ne.2 hmode, hfresh, hcross, Bool.not_true, Bool.or_self, Bool.false_eq_true, if_false]

theorem Dev.timedTrigger_due {m : Mem} {rbM : Bool} {rb : List (Nat × Nat × Nat)} {sm : Sample} {x : Nat} (hnext : d.bnd.timedNext = some x)
    (hmay : d.timedPossible = true) (hx : x ≤ d.now) (hsm : SMap.get none d.bnd.samples (d.fld 0x83 BND_CTRL_SRC) = some sm) :
    d.timedTrigger m rbM rb =
      Dev.trigger m (if d.inFrame = true then d.fld 0x83 BND_LINE_LINE + 1 else 0) (!d.inFrame) false sm false rbM rb
        { d with bnd := { d.bnd with timedNext := some (x + Config.ns (100 * d.fld 0x83 BND_TIMED_PERIOD_PERIOD)) } } := by
  have hline : (if (!d.inFrame) = true then 0 else d.fld 0x83 BND_LINE_LINE + 1) = if d.inFrame = true then d.fld 0x83 BND_LINE_LINE + 1 else 0 := by
    cases d.inFrame <;> rfl
  simp only [Dev.timedTrigger, hnext, hmay, Nat.not_lt.2 hx, hsm, hline, Option.getD_some, decide_false, Bool.not_true, Bool.or_self,
    Bool.false_eq_true, if_false]
  rfl

/-! ### The dither sequence and the host table -/

theorem Dev.seqDone_running {on : Bool} {dmax salt w : Nat} (h : d.seqGen.running = some (on, dmax, salt, w)) :
    d.seqDone =
      let n := (d.regN 0x83 BND_SLOT_NUM + 1) % 2 ^ 32
      { d with seqGen := ⟨none, some {
        d := if on = true then ditherCounts d.kdBytes n dmax salt else [], dmax := if on = true then dmax else 0
        listen := if d.keyed w = true then listenKeyed d.kdBytes w n salt else listenPlain w n }⟩ } := by
  simp only [Dev.seqDone, h]

/-- A map filled from 0 up reads as what it was filled with. -/
theorem SMap.get_fill (f : Nat → Nat) (n i : Nat) (hi : i < n) :
    SMap.get 0 ((List.range n).foldl (fun z i => SMap.put 0 z i (f i)) []) i = f i := by
  induction n with
  | zero => omega
  | succ n ih =>
    rw [List.range_succ, List.foldl_append, List.foldl_cons, List.foldl_nil]
    by_cases h : i = n
    · rw [h, SMap.get_put_self]
    · rw [SMap.get_put_other _ _ _ _ h, ih (by omega)]

theorem Dev.ztabFetched_same {m : Mem} {tr : Nat} (hfetch : (d.getOrg tr).fetching = true)
    (hsame : ztabWords m (d.getOrg tr).zbase = (d.getOrg tr).zwas) :
    d.ztabFetched tr m = d.setOrg tr { d.getOrg tr with fetching := false, ztab := ztabWords m (d.getOrg tr).zbase } := by
  simp only [Dev.ztabFetched, Dev.ztabRead, hfetch, hsame, if_true]

theorem Dev.ztabFetched_changed {m : Mem} {tr : Nat} (hfetch : (d.getOrg tr).fetching = true)
    (hchanged : ztabWords m (d.getOrg tr).zbase ≠ (d.getOrg tr).zwas) :
    ∃ z, d.ztabFetched tr m = Dev.setOrg { d with freeCtr := d.freeCtr + 1 } tr { d.getOrg tr with fetching := false, ztab := z } ∧
      ∀ i, i < 2048 → (memWord m ((d.getOrg tr).zbase + 4 * i)).toNat = SMap.get 0 (d.getOrg tr).zwas i →
        SMap.get 0 z i = (memWord m ((d.getOrg tr).zbase + 4 * i)).toNat := by
  refine ⟨(d.ztabRead tr m).1, ?_, fun i hi hkept => ?_⟩
  · simp only [Dev.ztabFetched, Dev.ztabRead, hfetch, hchanged, if_true, if_false, Dev.draw]
    rfl
  · have hnow : SMap.get 0 (ztabWords m (d.getOrg tr).zbase) i = (memWord m ((d.getOrg tr).zbase + 4 * i)).toNat :=
      SMap.get_fill (fun i => (memWord m ((d.getOrg tr).zbase + 4 * i)).toNat) 2048 i hi
    simp only [Dev.ztabRead, hchanged, if_false]
    rw [SMap.get_fill _ 2048 i hi, hnow, hkept, beq_self_eq_true, if_pos rfl]

theorem Dev.longRelease_drained {m : Mem} {tr : Nat} {x : SlotRec} (hdown : d.down tr = false) (hslot : d.openSlot = some x)
    (hphase : (d.getOrg tr).phase = 2) (hbusy : d.acqBusy = false) (hacq : d.bnd.acq = none) (hscan : d.scanBusy tr = false)
    (hdrained : ∀ e ∈ d.chan, e.1 / 512 = tr → e.2.align = [] ∧ e.2.queue = []) :
    d.longRelease m tr =
      let d := (d.release m tr 0 x).windowMoves tr x.num
      let d := d.setOrg tr { d.getOrg tr with phase := if (d.getGzb tr).scan.isSome = true then 3 else 0 }
      if [0, 1, 2, 3].all (fun k => d.down k || (d.getOrg k).phase == 3 || (d.getOrg k).phase == 0) = true then d.closeSlot m x else d := by
  have hpending : d.chan.any (fun (e : Nat × Chan) => e.1 / 512 == tr && (!e.2.align.isEmpty || !e.2.queue.isEmpty)) = false := by
    refine List.any_eq_false.2 fun e he => ?_
    by_cases htr : e.1 / 512 = tr
    · obtain ⟨halign, hqueue⟩ := hdrained e he htr
      simp [halign, hqueue]
    · simp [htr]
  simp only [Dev.longRelease, hslot, hphase, hbusy, hacq, hpending, hdown, hscan, Option.isSome_none, bne_self_eq_false, Bool.or_self,
    Bool.false_eq_true, if_false]
  simp only [Bool.or_assoc]
  rfl

/-! ### Shots and fires -/

theorem Dev.shotStart_due {a : Acq} (hacq : d.bnd.acq = some a) (hfetched : a.fetched = true) (hmore : a.nextShot < a.shots)
    (hdue : a.grid + a.nextShot * a.lShot ≤ d.now) :
    d.shotStart = (List.range 8).foldl (fun d b =>
      let x := d.getBank b
      let i := a.pos b
      let on := a.banks.contains b && a.nextShot < a.bankShots.getD i 0
      d.setBank b { x with
        sched := on, fireAt := a.fireAt a.nextShot i, fireDt := d.timeOf (a.fireAt a.nextShot i), passed := false, anyFired := false
        gated := match x.early with | some e => e.gated | none => x.gatedAt d.now
        gate := if on then x.early else none, early := none, gateOpen := false, gateDone := false, winOpen := false, accepted := none })
      (((List.range 8).foldl (fun (d : Dev) b => (d.gateCloseNow b).readEarly d.now b) d).setAcq
        { a with nextShot := a.nextShot + 1, nextBank := 0 }) := by
  simp only [Dev.shotStart, hacq, hfetched, Nat.not_le.2 hmore, Nat.not_lt.2 hdue, decide_false, Bool.not_true, Bool.or_self,
    Bool.false_eq_true, if_false] <;> rfl

theorem Dev.bankFire_due {isense : List Nat} {vf i : Nat} {a : Acq} (hacq : d.bnd.acq = some a) (hpos : a.nextPos = some i)
    (hshot : 0 < a.nextShot) (hdue : a.fireAt (a.nextShot - 1) i ≤ d.now) :
    d.bankFire isense vf =
      let k := a.nextShot - 1
      let b := a.banks.getD i 0
      let d := ((d.setAcq { a with nextBank := i + 1 }).dtestPulse 1 (2 + b)).thermalOff b
      let x := (a.segs.filter (fun g => g.seg / 8 == b && k < g.shots)).foldl (fun (x : Dev × List PlanSeg) g =>
        ((x.1.fireOne k g).1, if (x.1.fireOne k g).2 = true then x.2 ++ [g] else x.2)) (d, [])
      let d := x.1.setBank b { x.1.getBank b with passed := true, anyFired := !x.2.isEmpty, winOpen := true, accepted := none }
      let d := { d with bnd := { d.bnd with
        pulses := x.2.map (d.pulseOf (a.fireAt k i)), sel := if x.2.isEmpty = true then none else d.bnd.sel, acq := d.bnd.acq.map (Acq.noteFired x.2) } }
      x.2.foldl (fun d g => d.diagnose (d.getBank b).fireDt (d.planEnergy a g) (isense.getD (g.seg % 8) 0) vf false g) d := by
  simp only [Dev.bankFire, hacq, hpos, Nat.ne_of_gt hshot, Nat.not_lt.2 hdue, decide_false, Bool.or_self, Bool.false_eq_true, if_false]

/-! ### Gates -/

theorem Dev.gateOpenNow_due {b : Nat} {g : GateSet} (hdown : d.down (b / 2) = false) (hgate : (d.getBank b).gate = some g)
    (hsched : (d.getBank b).sched = true) (hopen : (d.getBank b).gateOpen = false) (hdone : (d.getBank b).gateDone = false)
    (hsome : g.opens < g.closes) (hdue : g.opens ≤ d.now) :
    d.gateOpenNow b =
      let x := d.getBank b
      (List.range 256).foldl (fun d i => Dev.hopsBefore (g.opens - x.fireAt) d (256 * b + i))
        (d.setBank b { x with gateOpen := true, shots := x.shots + 1 }) := by
  simp only [Dev.gateOpenNow, hgate, hsched, hopen, hdone, decide_eq_true hsome, decide_eq_true hdue, hdown, Bool.not_false, Bool.and_self,
    if_true]

theorem Dev.gateCloseNow_unstarted {b : Nat} {g : GateSet} (hgate : (d.getBank b).gate = some g) (hopen : (d.getBank b).gateOpen = true)
    (hearly : (d.getBank b).early = none) (hdelay : (d.getBank b).delayOf (d.getBank b).fireDt = none) (hdue : g.closes ≤ d.now) :
    d.gateCloseNow b =
      let x := d.getBank b
      let bl := d.getBlank (b / 2)
      let y := d.blankedIn (b / 2) g.opens g.closes
      let tot := bl.remainder + y
      let d := (d.setBank b { x with gateOpen := false, gateDone := true, armed := none }).setBlank (b / 2)
        { bl with remainder := tot % 80000, slotSum := bl.slotSum + y }
      let d := if 0 < y
        then d.bumpBy (0x08 + b / 2) MDW_BLANK_TIME (tot / 80000) else d
      { d with hops := SMap.drop d.hops (fun c => c / 256 == b) } := by
  rw [Bank.delayOf] at hdelay
  simp only [Dev.gateCloseNow, hgate, hopen, hearly, Bank.delayOf, hdelay, decide_eq_true hdue, Bool.and_self, Bool.false_eq_true, if_true,
    if_false]
  rfl

end

/-- Settles O29. -/
theorem slotTriggersAndFiresComplete : Obligations.SlotTriggersAndFiresComplete := by
  refine ⟨fun s t rbM rb sm line begins rev h => ?_, fun s t x rbM rb sm h => ?_, fun s t on dmax salt w h => ?_, fun s t tr htr h hfetch => ?_,
    fun s t tr htr h hfetch hchanged => ?_, fun s t tr x htr h => ?_, fun s t a h => ?_, fun s t vf i isense a h => ?_,
    fun s t b g hb h => ?_, fun s t b g hb h => ?_⟩
  · intro d hmay hmode hfresh hcross
    exact (State.cmdM_up h fun m d => d.slotTrigger m rbM rb).trans (State.answers_congr (Dev.slotTrigger_crossing hmay hmode hfresh hcross))
  · intro d hnext hmay hx hsm
    exact (State.cmdM_up h fun m d => d.timedTrigger m rbM rb).trans (State.answers_congr (Dev.timedTrigger_due hnext hmay hx hsm))
  · intro d hrun
    exact (State.cmd_up h Dev.seqDone).trans (State.answers_congr (Dev.seqDone_running hrun))
  · intro now hsame
    exact (State.cmd_terrace (decide_eq_true htr) h _).trans (State.answers_congr (Dev.ztabFetched_same hfetch hsame))
  · obtain ⟨z, hz, hkept⟩ := Dev.ztabFetched_changed hfetch hchanged
    exact ⟨z, (State.cmd_terrace (decide_eq_true htr) h _).trans (State.answers_congr hz), hkept⟩
  · intro d hslot hphase hbusy hacq hscan hdrained
    have hdown : d.down tr = false := by
      simp only [State.upIn, Bool.and_eq_true, Bool.not_eq_true'] at h; exact h.2
    exact (State.cmd_terrace (decide_eq_true htr) h _).trans
      (State.answers_congr (Dev.longRelease_drained hdown hslot hphase hbusy hacq hscan hdrained))
  · intro d hacq hfetched hmore hdue
    exact (State.cmd_up h Dev.shotStart).trans (State.answers_congr (Dev.shotStart_due hacq hfetched hmore hdue))
  · intro d k hacq hpos hshot hdue
    exact (State.cmd_up h (Dev.bankFire isense vf)).trans (State.answers_congr (Dev.bankFire_due hacq hpos hshot hdue))
  · intro d x hgate hsched hopen hdone hsome hdue
    obtain ⟨hup, hdown⟩ : s.up t = true ∧ d.down (b / 2) = false := by
      simpa only [State.upIn, Bool.and_eq_true, Bool.not_eq_true'] using h
    exact (State.cmd_ok hup (decide_eq_true hb) _).trans
      (State.answers_congr (Dev.gateOpenNow_due hdown hgate hsched hopen hdone hsome hdue))
  · intro d x bl hgate hopen hearly hdelay hdue
    exact (State.cmd_ok h (decide_eq_true hb) _).trans
      (State.answers_congr (Dev.gateCloseNow_unstarted hgate hopen hearly hdelay hdue))

end Sys2Proof.Machine
end

section
/-! The pattern buffers and the probe (08_bandstand_emitter.md). -/
namespace Sys2Proof.Machine
-- A `decide +kernel` waits for every proof before it: in turn, none of them waits in a thread of its own.
set_option Elab.async false

/-! ### Pattern buffers -/

theorem Dev.ownOf_buf (m : Mem) (w : Word) (d : Dev) : d.ownOf m 0x83 BND_BUF w = d.bufWrite m w := by
  obtain ⟨r, hr⟩ := Option.isSome_iff_exists.1 (show (regDef 0x83 BND_BUF).isSome = true by decide +kernel)
  simp only [Dev.ownOf, hr]
  rfl

theorem State.rowWrite_buf {s : State} {t : Nat} {ini : Initiator} (h : s.servedTo t ini = true) (w : Word) :
    s.rowWrite t true ini 0x83 BND_BUF w = .next (s.put ((s.begun t).bufWrite s.mem w)) := by
  rw [State.rowWrite_lowOf h (.inr (by decide)) rfl, Dev.ownOf_buf]

/-- A bit of a word in which it was forced. -/
theorem bitAt_forced (f : Fld) (w : Word) (hf : f.hi = f.lo) (hh : f.hi < 32) : bitAt (forced f 1 w).toNat f.lo = true := by
  have hbits := bitsOf_setBits_self w (hi := f.hi) (lo := f.lo) 1 (by omega) hh
  rw [hf, bitsOf, Nat.sub_self] at hbits
  rw [bitAt, forced, hf]
  exact beq_iff_eq.2 hbits

section
variable {d : Dev} {m : Mem}

theorem Dev.bufWrite_load {w : Word} (hload : bitAt w.toNat 8 = true)
    (hfree : (d.readyWrite (bitAt w.toNat 2)).on 0x83 BND_BUF_LOADING = false) :
    d.bufWrite m w =
      let d := d.readyWrite (bitAt w.toNat 2)
      let base := 4096 * d.fld 0x83 BND_LOAD_SRC_BASE
      if d.on 0x83 BND_BUF_READY = true ∨ Config.sramBytes < base + 524288 then (d.setFld 0x83 BND_BUF_LOAD_ERR 1).raise 0x83 5
      else { (d.setFld 0x83 BND_BUF_LOADING 1).setFld 0x83 BND_BUF_INACTIVE_VALID 0 with
        bnd := { d.bnd with loading := some (imageSlice m base), loadBase := base } } := by
  simp only [Dev.bufWrite, hload, if_true, Dev.patternLoad, hfree, Bool.false_eq_true, if_false, Bool.or_eq_true, decide_eq_true_eq]
  rfl

theorem Dev.bufWrite_ready {w : Word} (hready : bitAt w.toNat 2 = true) (hload : bitAt w.toNat 8 = false)
    (hloading : d.on 0x83 BND_BUF_LOADING = false) (herr : d.on 0x83 BND_BUF_LOAD_ERR = false) (hvalid : d.on 0x83 BND_BUF_INACTIVE_VALID = true) :
    d.bufWrite m w = (d.setFld 0x83 BND_BUF_READY 1).firstSwap := by
  simp only [Dev.bufWrite, hready, hload, Dev.readyWrite, hloading, herr, hvalid, Bool.not_true, Bool.or_self, Bool.false_eq_true, if_false]

theorem Dev.patternLoaded_same {img : SMap Byte} (hload : d.bnd.loading = some img) (hsame : imageSlice m d.bnd.loadBase = img) :
    d.patternLoaded m =
      let d := { d with bnd := if d.on 0x83 BND_BUF_ACTIVE = true then { d.bnd with buf0 := img, loading := none }
                               else { d.bnd with buf1 := img, loading := none } }
      let d := (d.setFld 0x83 BND_BUF_LOADING 0).setReg 0x83 BND_LOAD_CRC
        (crc32c ((List.range 524288).map (fun i => (SMap.get 0 img i).toNat)))
      if hdrN img = 0 ∨ hdrPitch img = 0 then (d.setFld 0x83 BND_BUF_LOAD_ERR 1).raise 0x83 5
      else ((d.setFld 0x83 BND_BUF_LOAD_ERR 0).setFld 0x83 BND_BUF_INACTIVE_VALID 1).raise 0x83 4 := by
  simp only [Dev.patternLoaded, hload, hsame, decide_true, if_true, Bool.or_eq_true, decide_eq_true_eq]

/-- The device with its oldest swap request taken, and that it was due. -/
theorem Dev.syncSwap_due {te : Nat} {rest : List Nat} (hreq : d.bnd.swapReqs = te :: rest)
    (hdue : te + 8000 * max 10 (d.fld 0x83 BND_SYNC_LATENCY_LAT) ≤ d.edgeTime)
    (hswap : Dev.swapOnSync { d with bnd := { d.bnd with swapReqs := rest } } = true) :
    d.syncSwap =
      let d : Dev := { d with bnd := { d.bnd with swapReqs := rest } }
      if d.on 0x83 BND_BUF_READY = false then (d.bump 0x83 BND_SWAP_MISS).raise 0x83 3
      else if d.bnd.swapDue = true then d
      else
        let e := d.endFrame true
        if (e.bnd.acq.all (fun a => a.fetched)) = true then e.swapBuffers else { e with bnd := { e.bnd with swapDue := true } } := by
  have hns : Config.ns (100 * max 10 (d.fld 0x83 BND_SYNC_LATENCY_LAT)) = 8000 * max 10 (d.fld 0x83 BND_SYNC_LATENCY_LAT) := by
    rw [Config.ns, ← Nat.mul_assoc]
  simp only [Dev.syncSwap, hreq, hns, Nat.not_lt.2 hdue, hswap, Bool.not_true, Bool.false_eq_true, if_false, Bool.not_eq_true']
  cases (Dev.endFrame true { d with bnd := { d.bnd with swapReqs := rest } }).bnd.acq <;> rfl

/-! ### BND.CTRL -/

theorem Dev.ownOf_bndCtrl (w : Word) :
    d.ownOf m 0x83 BND_CTRL w =
      let old := d.reg 0x83 BND_CTRL
      let e := Dev.merged 0x83 BND_CTRL w d
      let n := e.reg 0x83 BND_CTRL
      let e := if n.toNat % 2 = 0 then { e with bnd := { e.bnd with acq := e.bnd.acq.map (fun (a : Acq) => { a with disabled := true }) } } else e
      (if (bitAt old.toNat 0 = true ∧ bitAt n.toNat 0 = false) ∨ bitsOf old 3 1 ≠ bitsOf n 3 1
        then Dev.endFrame false { e with bnd := { e.bnd with fresh := none, lastAngle := none, prevAngle := none } } else e).firstSwap.timedCheck := by
  rw [Dev.ownOf_link (by decide) (by decide +kernel)]
  simp only [Dev.afterLink, Dev.bndCtrlWritten, Bool.or_eq_true, Bool.and_eq_true, Bool.not_eq_true', bne_iff_ne]
  rfl

/-! ### The probe -/

theorem Dev.probeFire_allowed {vs vf g : Nat} (hseg : d.probeDue = some g) (hlead : d.probeLead ≤ d.now)
    (hgap : d.probeGap (d.now - d.probeLead) = true) (hcause : d.enableCause = none) (hmissing : d.gth.missing = false) :
    let p : PlanSeg := ⟨g, 4, d.fld 0x84 BND_PROBE_AMP * 51 * d.bnd.factors.getD (g / 8) 256 / 256, 1⟩
    let d0 : Dev := { d with bnd := { d.bnd with gapDone := true } }
    let e := d0.energy g p.code 20
    let d1 := Dev.thermalOff (g / 8) { d0 with gth := d0.gth.debit g d0.edgeTime d0.edgeTime e }
    d0.refusedBy g d0.edgeTime e false = none → d1.bit 0x84 BND_DERATE_STATUS (g / 8) = false →
    d.probeFire vs vf = Dev.diagnose d.edgeTime e vs vf true p (Dev.bump { d1 with
      bnd := { d1.bnd with
        sinks := SMap.put 0 d1.bnd.sinks g p.code, pulses := [d1.pulseOf d1.now p], probing := some (d1.now + 160 + 320)
        sel := some (g / 8, d1.now + 640 - 80 * d1.bnd.blank, d1.now + 160 + 320) } } 0x84 BND_PROBE_CNT) := by
  intro p d0 e d1 hallowed hcool
  have hcause0 : d0.enableCause = none := hcause
  have hamp : d0.fld 0x84 BND_PROBE_AMP = d.fld 0x84 BND_PROBE_AMP := rfl
  have hedge : d0.edgeTime = d.edgeTime := rfl
  simp only [d0] at hcause0 hamp hedge
  simp only [e, p, d0, hedge] at hallowed
  simp only [d1, e, p, d0, hedge] at hcool
  simp only [Dev.probeFire, hseg, hgap, Nat.not_lt.2 hlead, decide_false, Bool.not_true, Bool.or_self, hcause0, hmissing, hamp, hedge,
    hallowed, hcool, Bool.false_eq_true, if_false, d1, e, p, d0, Config.ns, Nat.reduceMul]

theorem Dev.probeLate_late {g a : Nat} (hat : (SMap.get {} d.bnd.diag g).at_ = some a) (hen : d.on 0x84 BND_PROBE_EN = true)
    (hscan : d.devState = stScanning) (hlate : a + 2 * d.probePeriod < d.now) (honce : (SMap.get {} d.bnd.diag g).lateOnce = false) :
    d.probeLate g = Dev.raise 0x84 6 { d with
      bnd := { d.bnd with diag := SMap.put {} d.bnd.diag g { SMap.get {} d.bnd.diag g with lateOnce := true } } } := by
  simp only [Dev.probeLate, hat, hen, hscan, decide_eq_true hlate, honce, beq_self_eq_true, Bool.not_false, Bool.and_self, if_true]

end

/-- A write under no mask that may clear every bit. -/
theorem BitVec.clear_full {n : Nat} (old w : BitVec n) :
    ((old &&& ~~~(0#n ||| 0#n)) ||| (w &&& (0#n ||| 0#n))) &&& ~~~(w &&& BitVec.allOnes n) = old &&& ~~~w := by
  simp

/-- A register whose bits are all W1C clears the bits written 1. -/
theorem Dev.merged_w1c {p off : Nat} (h : (regDef p off).map (fun r => (r.rw, r.rwl, r.w1c)) = some (0, 0, BitVec.allOnes 32)) (w : Word) (d : Dev) :
    d.merged p off w = d.setReg p off (d.reg p off &&& ~~~w) := by
  obtain ⟨r, hr, hcodes⟩ := Option.map_eq_some_iff.1 h
  obtain ⟨hrw, hrest⟩ := Prod.mk.inj hcodes
  obtain ⟨hrwl, hw1c⟩ := Prod.mk.inj hrest
  rw [Dev.merged_some hr, Dev.mergeWrite, hrw, hrwl, hw1c, ite_self]
  exact congrArg _ (BitVec.clear_full (d.reg p off) w)

theorem segFault_w1c (hi : Bool) : (regDef 0x84 (if hi = true then BND_SEG_FAULT_HI else BND_SEG_FAULT_LO)).map (fun r => (r.rw, r.rwl, r.w1c))
    = some (0, 0, BitVec.allOnes 32) := by
  cases hi <;> decide +kernel

/-- Settles O31. -/
theorem patternAndProbeCommandsComplete : Obligations.PatternAndProbeCommandsComplete := by
  refine ⟨fun s t ini w h => ?_, fun s t img h => ?_, fun s t ini w h hready hload hloading herr hvalid => ?_, fun s t te rest h hreq hdue => ?_,
    fun s t ini w h => ?_, fun s t vs vf g h => ?_, fun s t g a hg h => ?_, fun s t ini hi w h => ?_⟩
  · intro v d hfree base
    exact (State.rowWrite_buf h _).trans (State.answers_congr (Dev.bufWrite_load (bitAt_forced BND_BUF_LOAD w rfl (by decide)) hfree))
  · intro d hload hsame
    exact (State.cmdM_up h fun m d => d.patternLoaded m).trans (State.answers_congr (Dev.patternLoaded_same hload hsame))
  · exact (State.rowWrite_buf h _).trans (State.answers_congr (Dev.bufWrite_ready hready hload hloading herr hvalid))
  · intro d hswap
    have hexec := (State.cmd_up h Dev.syncSwap).trans (State.answers_congr (Dev.syncSwap_due hreq hdue hswap))
    refine ⟨fun hmiss => ?_, fun hready hwaits => ?_, fun hready hfree => ?_⟩
    · exact hexec.trans (State.answers_congr (if_pos hmiss))
    · exact hexec.trans (State.answers_congr ((if_neg (by rw [hready]; decide)).trans (if_pos hwaits)))
    · exact hexec.trans (State.answers_congr ((if_neg (by rw [hready]; decide)).trans (if_neg (by rw [hfree]; decide))))
  · intro old after
    have hctrl (w : Word) : s.rowWrite t true ini 0x83 BND_CTRL w = .next (s.put (after w)) :=
      (State.rowWrite_lowOf h (.inr (by decide)) rfl w).trans (State.answers_congr (Dev.ownOf_bndCtrl w))
    exact ⟨hctrl _, hctrl _, hctrl _⟩
  · intro d hseg hlead hgap p hcause hmissing d0 e hallowed d1 hcool
    exact (State.cmd_up h (Dev.probeFire vs vf)).trans
      (State.answers_congr (Dev.probeFire_allowed hseg hlead hgap hcause hmissing hallowed hcool))
  · intro d x hat hen hscan hlate honce
    exact (State.cmd_ok h (decide_eq_true hg) _).trans (State.answers_congr (Dev.probeLate_late hat hen hscan hlate honce))
  · intro off
    refine (State.rowWrite_lowOf h (.inr (by decide)) (by cases hi <;> rfl) w).trans (State.answers_congr ?_)
    rw [Dev.ownOf_link ⟨by decide, by decide, .inl (by decide)⟩ (by cases hi <;> decide +kernel), Dev.merged_w1c (segFault_w1c hi)]
    cases hi <;> rfl

end Sys2Proof.Machine
end

section
/-! Scans, deliveries and the windows of the histograms (04_orangery_histograms.md, 05_gazebo_echoes.md). -/
namespace Sys2Proof.Machine
-- A `decide +kernel` waits for every proof before it: in turn, none of them waits in a thread of its own.
set_option Elab.async false

/-! ### Scans and deliveries -/

section
variable {d : Dev}

theorem Dev.scanNext_idle {ch : Nat} (h : d.scanCredit (ch / 512) = false) : d.scanNext ch = d :=
  if_neg (Bool.eq_false_iff.1 h)

theorem Dev.channelDone_idle {ch : Nat} (h : d.scanCredit (ch / 512) = false) : d.channelDone ch = d :=
  if_neg (Bool.eq_false_iff.1 h)

theorem Dev.channelDone_credit {ch : Nat} (h : d.scanCredit (ch / 512) = true) :
    d.channelDone ch =
      Dev.scanEnd (ch / 512) ((d.extractChannel ch).2.foldl (Dev.ldgWindow (d.getGzb (ch / 512)).num) (d.extractChannel ch).1) := if_pos h

theorem ChScan.lamP_nextY (cs : List Nat) (thr beff : Nat) (c : ChScan) : (c.nextY cs thr beff).lamP = c.lamP := by
  unfold ChScan.nextY
  dsimp only
  split <;> rfl

/-- The threshold of the stages that follow is that of the first, as no stage changes the ambient count. -/
theorem ChScan.foldl_nextY (cs : List Nat) (k q beff : Nat) (l : List Nat) (c : ChScan) :
    l.foldl (fun (x : ChScan) _ => x.nextY cs (threshold x.lamP k q) beff) c = l.foldl (fun x _ => x.nextY cs (threshold c.lamP k q) beff) c := by
  suffices h : ∀ x : ChScan, x.lamP = c.lamP →
      l.foldl (fun (x : ChScan) _ => x.nextY cs (threshold x.lamP k q) beff) x = l.foldl (fun x _ => x.nextY cs (threshold c.lamP k q) beff) x from
    h c rfl
  induction l with
  | nil => exact fun _ _ => rfl
  | cons i l ih =>
    intro x hx
    rw [List.foldl_cons, List.foldl_cons, hx]
    exact ih _ ((ChScan.lamP_nextY cs _ beff x).trans hx)

section
variable {ch : Nat} {r : Release}

/-- The channel of the scan of its terrace. -/
def Dev.scanChan (ch : Nat) (d : Dev) := SMap.get {} (d.getGzb (ch / 512)).chans (ch % 512)

/-- The next word of a channel under scan. -/
def Dev.scanRead (ch : Nat) (r : Release) (d : Dev) := d.readWord ch r (d.scanChan ch).pos

theorem Dev.scanNext_first (hcredit : d.scanCredit (ch / 512) = true) (hscan : (d.getGzb (ch / 512)).scan = some r)
    (hpos : (d.scanChan ch).pos < r.words) (htwo : (d.scanRead ch r).2.twoPass ch r = true) (hfirst : (d.scanChan ch).firstDone = false) :
    d.scanNext ch = (d.scanRead ch r).2.setGzb (ch / 512) { d.getGzb (ch / 512) with
      chans := SMap.put {} (d.getGzb (ch / 512)).chans (ch % 512) ((d.scanChan ch).firstPass (d.scanRead ch r).1 r.words) } := by
  unfold Dev.scanRead Dev.scanChan at *
  simp only [Dev.scanNext, hcredit, Dev.scanWord, hscan, Nat.not_le.2 hpos, htwo, hfirst, Bool.not_false, Bool.and_self, if_true, if_false]

theorem Dev.scanNext_stages (hcredit : d.scanCredit (ch / 512) = true) (hscan : (d.getGzb (ch / 512)).scan = some r)
    (hpos : (d.scanChan ch).pos < r.words) (hpass : (d.scanRead ch r).2.twoPass ch r = false ∨ (d.scanChan ch).firstDone = true) :
    d.scanNext ch =
      let c := d.scanChan ch
      let w := d.scanRead ch r
      let p := gzbPage (ch / 512)
      let f := if c.formed = true then (c, w.2) else w.2.formAmbient ch r c
      let x := w.1.foldl (fun c h => c.addBin (r.sb ch) (deadBins r.wL) h) { f.1 with pos := f.1.pos + 1 }
      let x := (List.range 20).foldl (fun x _ => x.nextY ((List.range (f.2.taps p)).map (f.2.coef p))
        (threshold x.lamP (f.2.fld p GZB_THR_K) (f.2.fld p GZB_THR_C)) r.info.geo.beff) x
      f.2.setGzb (ch / 512) { d.getGzb (ch / 512) with chans := SMap.put {} (d.getGzb (ch / 512)).chans (ch % 512) x } := by
  have hnot : ¬ ((d.scanRead ch r).2.twoPass ch r && !(d.scanChan ch).firstDone) = true := by
    rcases hpass with h | h <;> simp [h]
  unfold Dev.scanRead Dev.scanChan at *
  simp only [Dev.scanNext, hcredit, Dev.scanWord, hscan, Nat.not_le.2 hpos, hnot, Bool.false_eq_true, if_true, if_false,
    ChScan.foldl_nextY]

end

theorem Dev.markerDelivery_starts {tr : Nat} (hbusy : (d.getGzb tr).busy = true) (hstarts : (d.getGzb tr).starts ≠ []) :
    d.markerDelivery tr =
      let g := d.getGzb tr
      let e := if g.opened = true then d else d.latchBeds tr
      let y := (e.pairMarker (!g.opened) tr (Core.beginSlot g.num) (fun _ => g.startEntry)).giveMarker
        (fun _ _ => g.startEntry) (fun _ c => c.beginSlot g.num) g.starts
      y.1.setGzb tr { y.1.getGzb tr with starts := y.2, opened := true } := by
  have hsome : (d.getGzb tr).starts.isEmpty = false := List.isEmpty_eq_false_iff.2 hstarts
  simp only [Dev.markerDelivery, hbusy, hsome, Bool.not_true, Bool.not_false, Bool.false_eq_true, if_true, if_false]

theorem Dev.markerDelivery_ends {tr : Nat} (hbusy : (d.getGzb tr).busy = true) (hstarts : (d.getGzb tr).starts = [])
    (hscan : (d.getGzb tr).scan = none) (hechoes : (d.getGzb tr).echoes = []) :
    d.markerDelivery tr =
      let g := d.getGzb tr
      let y := (d.pairMarker (!g.closing) tr id (fun c => slotEndEntry g.num c.given)).giveMarker
        (fun d k => slotEndEntry g.num (d.getCore k).given) (fun _ c => c) g.ends
      y.1.setGzb tr { y.1.getGzb tr with ends := y.2, closing := true, busy := !y.2.isEmpty } := by
  simp only [Dev.markerDelivery, hbusy, hstarts, hscan, hechoes, List.isEmpty_nil, Option.isSome_none, Bool.not_true, Bool.or_self,
    Bool.false_eq_true, if_false]

/-- A record that the device's turn and the rooms of its consumers let go. -/
theorem Dev.recordDelivery_accepted {m : Mem} {ch : Nat} {e : Echo}
    (hfind : (d.getGzb (ch / 512)).echoes.find? (fun x => x.ch == ch) = some e) (hstarts : (d.getGzb (ch / 512)).starts = [])
    (hbloom : d.bloomReady (d.getGzb (ch / 512)).num ch = true)
    (hturn : e.feedOnly = true ∨ d.prm.mid = none ∨ d.prm.mid = some ch) :
    let tr := ch / 512
    let g := d.getGzb tr
    let b := d.bloom tr e
    (e.feedOnly = true ∨ ((b.2.safetyCore (b.2.bedCore (ch / 32)) = true ∨ b.2.coreRoom (b.2.bedCore (ch / 32)) = true) ∧
      (b.2.offerRecord g.num (b.1.record g.num)).2 = true)) →
    d.recordDelivery m ch =
      let o := (b.2.offerRecord g.num (b.1.record g.num)).1
      let o := if e.feedOnly = true then b.2
        else Dev.bedPush b.1 g.num { o with prm := { o.prm with mid := if e.last = true then none else some ch } }
      let o := if o.variant = .is then
          let q := o.ldgEcho m g.num b.1
          let v := q.pairPush (pairCore tr) (b.1.entry g.num)
          if q.coreRoom (pairCore tr) = true then v.noteGiven (pairCore tr) else v
        else o
      Dev.recordsIn tr (o.setGzb tr { o.getGzb tr with echoes := (o.getGzb tr).echoes.erase e }) := by
  intro tr g b hroom
  by_cases hfeed : e.feedOnly = true
  · simp only [Dev.recordDelivery, hfind, hstarts, hbloom, hfeed, List.isEmpty_nil, Bool.true_or, Bool.not_true, Bool.or_self, Bool.false_and,
      Bool.false_eq_true, if_true, if_false, beq_iff_eq, b, tr, g]
  · obtain ⟨hcores, hoffer⟩ := hroom.resolve_left hfeed
    have hmid : (d.prm.mid.isNone || d.prm.mid == some ch) = true := by
      rcases hturn.resolve_left hfeed with h | h <;> simp [h]
    have hrooms : (!b.2.safetyCore (b.2.bedCore (ch / 32)) && !b.2.coreRoom (b.2.bedCore (ch / 32))) = false := by
      rcases hcores with h | h <;> simp [h]
    rw [Bool.not_eq_true] at hfeed
    simp only [b, tr, g] at hrooms hoffer
    simp only [Dev.recordDelivery, hfind, hstarts, hbloom, hfeed, hmid, hrooms, hoffer, List.isEmpty_nil, Bool.false_or, Bool.not_true,
      Bool.not_false, Bool.or_self, Bool.true_and, Bool.false_eq_true, if_true, if_false, beq_iff_eq, b, tr, g]

end

/-! ### The windows -/

theorem placeOf_bins {ch off : Nat} (hch : ch < 2048) (hoff : off < 0x8000) (hal : off % 4 = 0) :
    placeOf .control (0x10000000 + 0x8000 * ch + off) = .bins ch off := by
  have h1 : (0x10000000 + 0x8000 * ch + off) % 4 = 0 := by omega
  have h2 : ¬ 0x10000000 + 0x8000 * ch + off < 0x800000 := by omega
  have h3 : 0x10000000 ≤ 0x10000000 + 0x8000 * ch + off ∧ 0x10000000 + 0x8000 * ch + off < 0x14000000 := by omega
  have h4 : (0x10000000 + 0x8000 * ch + off - 0x10000000) / 0x8000 = ch := by omega
  have h5 : (0x10000000 + 0x8000 * ch + off) % 0x8000 = off := by omega
  simp only [placeOf, h1, h2, h3, h4, h5, bne_self_eq_false, beq_self_eq_true, Bool.false_eq_true, Bool.and_self, decide_true, if_true, if_false]

theorem placeOf_zoom {off : Nat} (hoff : off < 0x100000) (hal : off % 4 = 0) : placeOf .control (0x18000000 + off) = .zoom off := by
  have h1 : (0x18000000 + off) % 4 = 0 := by omega
  have h2 : ¬ 0x18000000 + off < 0x800000 := by omega
  have h3 : ¬ 0x18000000 + off < 0x14000000 := by omega
  have h4 : 0x18000000 ≤ 0x18000000 + off ∧ 0x18000000 + off < 0x18100000 := by omega
  have h5 : 0x18000000 + off - 0x18000000 = off := by omega
  simp only [placeOf, h1, h2, h3, h4, h5, bne_self_eq_false, beq_self_eq_true, Bool.false_eq_true, Bool.and_self, Bool.and_false, decide_true,
    decide_false, if_true, if_false]

theorem placeOf_zpos {off : Nat} (hoff : off < 0x8000) (hal : off % 4 = 0) : placeOf .control (0x18200000 + off) = .zpos off := by
  have h1 : (0x18200000 + off) % 4 = 0 := by omega
  have h2 : ¬ 0x18200000 + off < 0x800000 := by omega
  have h3 : ¬ 0x18200000 + off < 0x14000000 := by omega
  have h4 : ¬ 0x18200000 + off < 0x18100000 := by omega
  have h5 : 0x18200000 ≤ 0x18200000 + off ∧ 0x18200000 + off < 0x18208000 := by omega
  have h6 : 0x18200000 + off - 0x18200000 = off := by omega
  simp only [placeOf, h1, h2, h3, h4, h5, h6, bne_self_eq_false, beq_self_eq_true, Bool.false_eq_true, Bool.and_self, Bool.and_false, decide_true,
    decide_false, if_true, if_false]

section
variable {s : State} {a : Nat} {x : Place}

theorem State.windowAccess_write (ha : a < 2 ^ 32) (hx : placeOf .control a = x) (w : Word) :
    s.windowAccess a true (some w) = s.placeWrite .control x w := by
  have hwrites : s.windowAccess a true (some w) = s.portWrites .control [w] a := rfl
  rw [hwrites, State.portWrites_reached rfl, State.writeWords_one, Nat.mod_eq_of_lt ha, hx]

theorem State.windowAccess_read (ha : a < 2 ^ 32) (hx : placeOf .control a = x) (hdata : ∀ k w, x ≠ .data k w) :
    s.windowAccess a true none =
      { (s.placeRead .control x).2 with dev := (s.placeRead .control x).2.dev.deliver2 .control [(s.placeRead .control x).1] } := by
  have hreads : s.windowAccess a true none = s.portRead .control 1 a := rfl
  have hrun : s.dev.runningWords .control 1 a = none := by
    unfold Dev.runningWords
    split
    · next k w h => exact absurd (hx.symm.trans h) (hdata k w)
    · rfl
  rw [hreads, State.portRead_words rfl hrun]
  have hwords : s.readWords .control 1 a = ([(s.placeRead .control x).1], (s.placeRead .control x).2) := by
    simp only [State.readWords, State.busRead, Nat.mod_eq_of_lt ha, hx]
  rw [hwords]

end

section
variable {s : State} {ch off : Nat}

theorem State.halfWrite_bins (hch : ch < 2048) (hoff : off < 0x8000) (hal : off % 2 = 0) (hlive : s.dev.down (ch / 512) = false) (v : Nat) :
    s.halfWrite (0x10000000 + 0x8000 * ch + off) v = s.put (s.dev.windowWrite16 ch off v) := by
  have h1 : (0x10000000 + 0x8000 * ch + off) % 2 = 0 := by omega
  have h2 : (0x10000000 + 0x8000 * ch + off) % 4 = off % 4 := by omega
  have h3 : 0x10000000 + 0x8000 * ch + off - off % 4 = 0x10000000 + 0x8000 * ch + (off - off % 4) := by omega
  have h4 : off - off % 4 + off % 4 = off := by omega
  have hdead : s.dev.placeDead (.bins ch (off - off % 4)) = false := hlive
  simp only [State.halfWrite, h1, h2, h3, placeOf_bins hch (show off - off % 4 < 0x8000 by omega) (by omega), hdead, h4, beq_self_eq_true, if_true,
    Bool.false_eq_true, if_false, State.put]

theorem State.halfRead_bins (hch : ch < 2048) (hoff : off < 0x8000) (hal : off % 2 = 0) (hlive : s.dev.down (ch / 512) = false) :
    s.halfRead (0x10000000 + 0x8000 * ch + off)
      = (BitVec.ofNat 32 (s.dev.windowRead16 ch off).1, s.put (s.dev.windowRead16 ch off).2) := by
  have h1 : (0x10000000 + 0x8000 * ch + off) % 2 = 0 := by omega
  have h2 : (0x10000000 + 0x8000 * ch + off) % 4 = off % 4 := by omega
  have h3 : 0x10000000 + 0x8000 * ch + off - off % 4 = 0x10000000 + 0x8000 * ch + (off - off % 4) := by omega
  have h4 : off - off % 4 + off % 4 = off := by omega
  have hdead : s.dev.placeDead (.bins ch (off - off % 4)) = false := hlive
  simp only [State.halfRead, h1, h2, h3, placeOf_bins hch (show off - off % 4 < 0x8000 by omega) (by omega), hdead, h4, beq_self_eq_true, if_true,
    Bool.false_eq_true, if_false, State.put]

theorem State.halfWrite_zoom (hoff : off < 0x100000) (hal : off % 2 = 0) (hlive : s.dev.down (off / 512 / 512) = false) (v : Nat) :
    s.halfWrite (0x18000000 + off) v = s.put (s.dev.zoomWrite16 off v) := by
  have h1 : (0x18000000 + off) % 2 = 0 := by omega
  have h2 : (0x18000000 + off) % 4 = off % 4 := by omega
  have h3 : 0x18000000 + off - off % 4 = 0x18000000 + (off - off % 4) := by omega
  have h4 : off - off % 4 + off % 4 = off := by omega
  have h5 : (off - off % 4) / 512 / 512 = off / 512 / 512 := by omega
  have hdead : s.dev.placeDead (.zoom (off - off % 4)) = false := (congrArg s.dev.down h5).trans hlive
  simp only [State.halfWrite, h1, h2, h3, placeOf_zoom (show off - off % 4 < 0x100000 by omega) (by omega), hdead, h4, beq_self_eq_true, if_true,
    Bool.false_eq_true, if_false, State.put]

theorem State.halfRead_zoom (hoff : off < 0x100000) (hal : off % 2 = 0) (hlive : s.dev.down (off / 512 / 512) = false) :
    s.halfRead (0x18000000 + off) = (BitVec.ofNat 32 (s.dev.zoomRead16 off).1, s.put (s.dev.zoomRead16 off).2) := by
  have h1 : (0x18000000 + off) % 2 = 0 := by omega
  have h2 : (0x18000000 + off) % 4 = off % 4 := by omega
  have h3 : 0x18000000 + off - off % 4 = 0x18000000 + (off - off % 4) := by omega
  have h4 : off - off % 4 + off % 4 = off := by omega
  have h5 : (off - off % 4) / 512 / 512 = off / 512 / 512 := by omega
  have hdead : s.dev.placeDead (.zoom (off - off % 4)) = false := (congrArg s.dev.down h5).trans hlive
  simp only [State.halfRead, h1, h2, h3, placeOf_zoom (show off - off % 4 < 0x100000 by omega) (by omega), hdead, h4, beq_self_eq_true, if_true,
    Bool.false_eq_true, if_false, State.put]

theorem State.halfWrite_zpos (hoff : off < 0x8000) (hal : off % 4 = 0) (v : Nat) : s.halfWrite (0x18200000 + off) v = s := by
  have h1 : (0x18200000 + off) % 2 = 0 := by omega
  have h2 : (0x18200000 + off) % 4 = 0 := by omega
  simp only [State.halfWrite, h1, h2, Nat.sub_zero, placeOf_zpos hoff hal, beq_self_eq_true, if_true, ite_self]

theorem State.placeWrite_bins (hlive : s.dev.down (ch / 512) = false) (w : Word) :
    s.placeWrite .control (.bins ch off) w = s.put (if s.dev.windowBin ch off = none then s.dev.windowBusy (ch / 512)
      else (s.dev.windowWrite16 ch off (bitsOf w 15 0)).windowWrite16 ch (off + 2) (bitsOf w 31 16)) := by
  have hdead : s.dev.placeDead (.bins ch off) = false := hlive
  simp only [State.placeWrite, hdead, Bool.false_eq_true, if_false, Option.isNone_iff_eq_none, State.put]
  split <;> rfl

theorem State.placeRead_bins (hlive : s.dev.down (ch / 512) = false) :
    s.placeRead .control (.bins ch off) =
      if s.dev.windowBin ch off = none then (0, s.put (s.dev.windowBusy (ch / 512)))
      else
        let lo := s.dev.windowRead16 ch off
        let hi := lo.2.windowRead16 ch (off + 2)
        (BitVec.ofNat 32 (hi.1 * 65536 + lo.1), s.put hi.2) := by
  have hdead : s.dev.placeDead (.bins ch off) = false := hlive
  simp only [State.placeRead, hdead, Bool.false_eq_true, if_false, Option.isNone_iff_eq_none, State.put]

theorem State.placeWrite_zoom (hlive : s.dev.down (off / 512 / 512) = false) (w : Word) :
    s.placeWrite .control (.zoom off) w = s.put (if s.dev.zoomHalf (off / 512 / 512) = none then s.dev.windowBusy (off / 512 / 512)
      else (s.dev.zoomWrite16 off (bitsOf w 15 0)).zoomWrite16 (off + 2) (bitsOf w 31 16)) := by
  have hdead : s.dev.placeDead (.zoom off) = false := hlive
  simp only [State.placeWrite, hdead, Bool.false_eq_true, if_false, Option.isNone_iff_eq_none, State.put]
  split <;> rfl

theorem State.placeRead_zoom (hlive : s.dev.down (off / 512 / 512) = false) :
    s.placeRead .control (.zoom off) =
      if s.dev.zoomHalf (off / 512 / 512) = none then (0, s.put (s.dev.windowBusy (off / 512 / 512)))
      else
        let lo := s.dev.zoomRead16 off
        let hi := lo.2.zoomRead16 (off + 2)
        (BitVec.ofNat 32 (hi.1 * 65536 + lo.1), s.put hi.2) := by
  have hdead : s.dev.placeDead (.zoom off) = false := hlive
  simp only [State.placeRead, hdead, Bool.false_eq_true, if_false, Option.isNone_iff_eq_none, State.put]

theorem State.placeRead_zpos (hlive : s.dev.down (off / 16 / 512) = false) :
    s.placeRead .control (.zpos off) = ((s.dev.zoomPosition off).1, s.put (s.dev.zoomPosition off).2) := by
  have hdead : s.dev.placeDead (.zpos off) = false := hlive
  simp only [State.placeRead, hdead, Bool.false_eq_true, if_false, State.put]

end

/-! ### Writes of Orangery and Gazebo -/

theorem gzbCtrl_defined : ∀ tr < 4, (regDef (gzbPage tr) GZB_CTRL).isSome = true := by decide +kernel
theorem orgClear_defined : ∀ tr < 4, (regDef (orgPage tr) ORG_CLEAR).isSome = true := by decide +kernel
theorem orgCtrl_defined : ∀ tr < 4, (regDef (orgPage tr) ORG_CTRL).isSome = true := by decide +kernel

section
variable {m : Mem} {tr : Nat} (htr : tr < 4) (w : Word) (d : Dev)
include htr

theorem Dev.ownOf_gzbCtrl : d.ownOf m (gzbPage tr) GZB_CTRL w
    = (Dev.merged (gzbPage tr) GZB_CTRL w d).gzbCtrlWritten m tr (d.reg (gzbPage tr) GZB_CTRL) := by
  have hp : ¬ gzbPage tr < 0x0C ∧ ¬ gzbPage tr < 0x10 ∧ ¬ gzbPage tr < 0x54 ∧ gzbPage tr - 0x54 = tr := by unfold gzbPage; omega
  rw [Dev.ownOf_data (by unfold gzbPage; omega) (gzbCtrl_defined tr htr)]
  simp only [Dev.afterData, hp, beq_self_eq_true, if_true, if_false]

theorem orgPage_rows : ¬ orgPage tr < 0x0C ∧ ¬ orgPage tr < 0x10 ∧ orgPage tr < 0x54 ∧ orgPage tr - 0x50 = tr := by
  unfold orgPage; omega

theorem Dev.ownOf_orgCtrl : d.ownOf m (orgPage tr) ORG_CTRL w
    = (Dev.merged (orgPage tr) ORG_CTRL w d).orgCtrlWritten tr (d.reg (orgPage tr) ORG_CTRL) := by
  rw [Dev.ownOf_data (by unfold orgPage; omega) (orgCtrl_defined tr htr)]
  simp only [Dev.afterData, orgPage_rows htr, beq_self_eq_true, if_true, if_false]

theorem Dev.ownOf_orgClear : d.ownOf m (orgPage tr) ORG_CLEAR 1 = (Dev.merged (orgPage tr) ORG_CLEAR 1 d).orgClear tr := by
  have hoff : (ORG_CLEAR == ORG_CTRL) = false := by decide
  have hbit : bitAt (1 : Word).toNat 0 = true := by decide
  rw [Dev.ownOf_data (by unfold orgPage; omega) (orgClear_defined tr htr)]
  simp only [Dev.afterData, orgPage_rows htr, hoff, hbit, beq_self_eq_true, Bool.false_eq_true, if_true, if_false]

end

/-- A row on the page of a terrace. -/
theorem State.rowWrite_terrace {s : State} {t tr p off : Nat} {ini : Initiator} (htr : tr < 4) (h : s.writable t ini p off = true)
    (ho : isOwn off = true) (w : Word) :
    s.rowWrite t (okTerrace tr) ini p off w = .next (s.put ((s.landed t p off).ownOf s.mem p off w)) := by
  rw [show okTerrace tr = true from decide_eq_true htr, State.rowWrite_ownOf h ho]

theorem State.upIn_parts {s : State} {t k : Nat} (h : s.upIn t k = true) : s.up t = true ∧ (s.begun t).down k = false := by
  simpa only [State.upIn, Bool.and_eq_true, Bool.not_eq_true'] using h

theorem exec_orgWindowAccess {s : State} {t a : Nat} (h : s.up t = true) (hlo : 0x10000000 ≤ a) (hhi : a < 0x14000000) (op : WindowOp) :
    exec (.orgWindowAccess t a op) s = .next ((s.ready t).windowAccess a op.wide op.word) := by
  have hexec : exec (.orgWindowAccess t a op) s = s.cmdS t (okReadWindow a) (fun s => s.windowAccess a op.wide op.word) := rfl
  rw [hexec, show okReadWindow a = true by simp [okReadWindow, hlo, hhi], State.cmdS_up h]

theorem exec_zoomWindowAccess {s : State} {t a : Nat} (h : s.up t = true) (hlo : 0x18000000 ≤ a) (hhi : a < 0x18208000) (op : WindowOp) :
    exec (.zoomWindowAccess t a op) s = .next ((s.ready t).windowAccess a op.wide op.word) := by
  have hexec : exec (.zoomWindowAccess t a op) s = s.cmdS t (okZoomWindow a) (fun s => s.windowAccess a op.wide op.word) := rfl
  rw [hexec, show okZoomWindow a = true by simp [okZoomWindow, hlo, hhi], State.cmdS_up h]

/-- Settles O32. -/
theorem echoCommandsComplete : Obligations.EchoCommandsComplete := by
  refine ⟨fun s t ch r hch h => ?_, fun s t ch r hch h => ?_, fun s t ch hch h hidle => ⟨?_, ?_⟩, fun s t tr htr h => ?_, fun s t tr htr h => ?_,
    fun s t ch e hch h => ?_, fun s t tr ini w htr h => ?_, fun s t ini w h => ?_, fun s t ini salt w => ?_, fun s t tr ini htr h => ?_,
    fun s t tr ini w htr h => ?_, fun s t ch off w hch hoff hal h => ?_, fun s t ch off w hch hoff hal h => ?_, fun s t off w hoff hal h => ?_,
    fun s t off w hoff hal h => ?_, fun s t off wide w hoff hal h => ?_⟩
  · intro d g c w hcredit hscan hpos
    refine ⟨fun hfirst => ?_, fun hpass => ?_⟩
    · exact (State.cmd_terrace (decide_eq_true hch) h _).trans (State.answers_congr (Dev.scanNext_first hcredit hscan hpos hfirst.1 hfirst.2))
    · exact (State.cmd_terrace (decide_eq_true hch) h _).trans (State.answers_congr (Dev.scanNext_stages hcredit hscan hpos hpass))
  · intro d c hcredit hscan hextracted hpos hpass x
    exact (State.cmd_terrace (decide_eq_true hch) h _).trans (State.answers_congr (Dev.channelDone_credit hcredit))
  · exact (State.cmd_terrace (decide_eq_true hch) h _).trans (State.answers_congr (Dev.scanNext_idle hidle))
  · exact (State.cmd_terrace (decide_eq_true hch) h _).trans (State.answers_congr (Dev.channelDone_idle hidle))
  · intro d g hbusy hstarts
    exact (State.cmd_terrace (decide_eq_true htr) h _).trans (State.answers_congr (Dev.markerDelivery_starts hbusy hstarts))
  · intro d g hbusy hstarts hscan hechoes
    exact (State.cmd_terrace (decide_eq_true htr) h _).trans (State.answers_congr (Dev.markerDelivery_ends hbusy hstarts hscan hechoes))
  · intro d tr g hfind hstarts hbloom hturn b hroom
    exact (State.cmd_ok h (decide_eq_true hch) _).trans (State.answers_congr (Dev.recordDelivery_accepted hfind hstarts hbloom hturn hroom))
  · intro d e
    refine (State.rowWrite_terrace htr h rfl _).trans (State.answers_congr ((Dev.ownOf_gzbCtrl htr _ _).trans ?_))
    simp only [Dev.gzbCtrlWritten, Bool.and_eq_true, Bool.not_eq_true']
    rfl
  · refine (State.rowWrite_ownOf h rfl w).trans (State.answers_congr ?_)
    rw [Dev.ownOf_data (by decide) (by decide +kernel)]
    rfl
  · intro off h
    have hown : isOwn off = true := by cases salt <;> rfl
    have hdef : (regDef 0x54 off).isSome = true := by cases salt <;> decide +kernel
    refine (State.rowWrite_ownOf h hown w).trans (State.answers_congr ?_)
    rw [Dev.ownOf_data (by decide) hdef]
    cases salt <;> rfl
  · exact (State.rowWrite_terrace htr h rfl _).trans (State.answers_congr (Dev.ownOf_orgClear htr _))
  · exact ⟨(State.rowWrite_terrace htr h rfl _).trans (State.answers_congr (Dev.ownOf_orgCtrl htr _ _)),
      (State.rowWrite_terrace htr h rfl _).trans (State.answers_congr (Dev.ownOf_orgCtrl htr _ _))⟩
  · intro d a
    obtain ⟨hup, hlive⟩ := State.upIn_parts h
    have hplace := placeOf_bins hch hoff hal
    have hexec := exec_orgWindowAccess (a := a) hup (by omega) (by omega)
    have hwrite : exec (.orgWindowAccess t a ⟨true, some w⟩) s = .next ((s.ready t).placeWrite .control (.bins ch off) w) :=
      (hexec _).trans (congrArg _ (State.windowAccess_write (by omega) hplace w))
    have hread := (hexec ⟨true, none⟩).trans (congrArg _ (State.windowAccess_read (by omega) hplace (by simp)))
    rw [hwrite, hread, State.placeWrite_bins (s := s.ready t) hlive, State.placeRead_bins (s := s.ready t) hlive]
    refine ⟨fun hbusy => ?_, fun hidle => ?_⟩
    · rw [if_pos (show (s.ready t).dev.windowBin ch off = none from hbusy), if_pos (show (s.ready t).dev.windowBin ch off = none from hbusy)]
      exact ⟨rfl, rfl⟩
    · rw [if_neg (show ¬ (s.ready t).dev.windowBin ch off = none from hidle), if_neg (show ¬ (s.ready t).dev.windowBin ch off = none from hidle)]
      exact ⟨rfl, rfl⟩
  · intro d a
    obtain ⟨hup, hlive⟩ := State.upIn_parts h
    have hexec := exec_orgWindowAccess (a := a) hup (by omega) (by omega)
    refine ⟨(hexec _).trans (congrArg _ (State.halfWrite_bins (s := s.ready t) hch hoff hal hlive _)), (hexec _).trans (congrArg _ ?_)⟩
    simp only [State.windowAccess, a, State.halfRead_bins (s := s.ready t) hch hoff hal hlive]
    rfl
  · intro d
    obtain ⟨hup, hlive⟩ := State.upIn_parts h
    have hplace := placeOf_zoom hoff hal
    have hexec := exec_zoomWindowAccess (a := 0x18000000 + off) hup (by omega) (by omega)
    have hwrite : exec (.zoomWindowAccess t (0x18000000 + off) ⟨true, some w⟩) s = .next ((s.ready t).placeWrite .control (.zoom off) w) :=
      (hexec _).trans (congrArg _ (State.windowAccess_write (by omega) hplace w))
    have hread := (hexec ⟨true, none⟩).trans (congrArg _ (State.windowAccess_read (by omega) hplace (by simp)))
    rw [hwrite, hread, State.placeWrite_zoom (s := s.ready t) hlive, State.placeRead_zoom (s := s.ready t) hlive]
    refine ⟨fun hbusy => ?_, fun hidle => ?_⟩
    · rw [if_pos (show (s.ready t).dev.zoomHalf _ = none from hbusy), if_pos (show (s.ready t).dev.zoomHalf _ = none from hbusy)]
      exact ⟨rfl, rfl⟩
    · rw [if_neg (show ¬ (s.ready t).dev.zoomHalf _ = none from hidle), if_neg (show ¬ (s.ready t).dev.zoomHalf _ = none from hidle)]
      exact ⟨rfl, rfl⟩
  · intro d
    obtain ⟨hup, hlive⟩ := State.upIn_parts h
    have hexec := exec_zoomWindowAccess (a := 0x18000000 + off) hup (by omega) (by omega)
    refine ⟨(hexec _).trans (congrArg _ (State.halfWrite_zoom (s := s.ready t) hoff hal hlive _)), (hexec _).trans (congrArg _ ?_)⟩
    simp only [State.windowAccess, State.halfRead_zoom (s := s.ready t) hoff hal hlive]
    rfl
  · obtain ⟨hup, hlive⟩ := State.upIn_parts h
    have hplace := placeOf_zpos hoff hal
    have hexec := exec_zoomWindowAccess (a := 0x18200000 + off) hup (by omega) (by omega)
    refine ⟨(hexec _).trans (congrArg _ ?_), (hexec _).trans (congrArg _ ?_)⟩
    · rw [State.windowAccess_read (by omega) hplace (by simp), State.placeRead_zpos (s := s.ready t) hlive]
      rfl
    · cases wide
      · exact State.halfWrite_zpos hoff hal _
      · exact State.windowAccess_write (by omega) hplace w

end Sys2Proof.Machine
end

section
/-! Reception on the lanes and the link (07_promenade_lanes.md). -/
namespace Sys2Proof.Machine
-- A `decide +kernel` waits for every proof before it: in turn, none of them waits in a thread of its own.
set_option Elab.async false

/-- A command on a lane while the lane cluster is powered. -/
theorem Dev.onLanes_powered {d : Dev} (h : d.lanesGated = false) (f : Dev → Dev) : d.onLanes f = f d :=
  if_neg (Bool.eq_false_iff.1 h)

section
variable {d : Dev} {n : Nat}

/-! ### Locks -/

theorem Dev.cdrLock_on (hon : d.laneOn n = true) (hsignal : d.on (lanePage n) PRM_LANE_STATUS_LOS = false ∨ d.deaf n = true) :
    d.cdrLock n = Dev.laneChanged n (Dev.setFld (if d.on (lanePage n) PRM_LANE_STATUS_CDR_LOCK = true then d
      else d.setLane n { d.lane n with validFrom := d.now }) (lanePage n) PRM_LANE_STATUS_CDR_LOCK 1) := by
  have hgo : (d.laneOn n && (!d.on (lanePage n) PRM_LANE_STATUS_LOS || d.deaf n)) = true := by
    rcases hsignal with h | h <;> simp [hon, h]
  simp only [Dev.cdrLock, hgo, if_true]

theorem Dev.blockLock_found (hon : d.laneOn n = true) (hfree : d.on (lanePage n) PRM_LANE_STATUS_BLOCK_LOCK = false)
    (hclock : d.on (lanePage n) PRM_LANE_STATUS_CDR_LOCK = true ∨ (n < 8 ∧ d.loopback = 2)) (hvalid : 8 ≤ n ∨ d.headersValid n = true) :
    d.blockLock n = Dev.laneChanged n
      ((d.setLane n { d.lane n with invalid := [], bad := 0 }).setFld (lanePage n) PRM_LANE_STATUS_BLOCK_LOCK 1) := by
  have hgo : (d.laneOn n && (d.on (lanePage n) PRM_LANE_STATUS_CDR_LOCK || (decide (n < 8) && d.loopback == 2)) &&
      (decide (8 ≤ n) || d.headersValid n)) = true := by
    simp only [Bool.and_eq_true, Bool.or_eq_true, decide_eq_true_eq, beq_iff_eq]
    exact ⟨⟨hon, hclock⟩, hvalid⟩
  simp only [Dev.blockLock, hfree, hgo, Bool.false_eq_true, if_true, if_false]

theorem Dev.invalidHeader_searching (hon : d.laneOn n = true) (hclock : d.on (lanePage n) PRM_LANE_STATUS_CDR_LOCK = true)
    (hdeaf : d.deaf n = false) (hn : n < 8) (hfree : d.on (lanePage n) PRM_LANE_STATUS_BLOCK_LOCK = false) :
    d.invalidHeader n = d.setLane n { d.lane n with slip := ((d.lane n).slip + 1) % 66, validFrom := d.now } := by
  simp only [Dev.invalidHeader, hon, hclock, hdeaf, Nat.not_le.2 hn, hfree, Bool.not_true, Bool.not_false, Bool.or_self, Bool.false_eq_true,
    if_true, if_false]

theorem Dev.invalidHeader_locked (hon : d.laneOn n = true) (hclock : d.on (lanePage n) PRM_LANE_STATUS_CDR_LOCK = true)
    (hdeaf : d.deaf n = false) (hn : n < 8) (hlock : d.on (lanePage n) PRM_LANE_STATUS_BLOCK_LOCK = true) :
    d.invalidHeader n =
      let inv := ((d.lane n).invalid.filter (fun a => (d.now - a) * 10 < 1024 * 4224)) ++ [d.now]
      let e := (d.bump (lanePage n) PRM_HDR_ERR).setLane n { d.lane n with invalid := inv }
      if 32 ≤ inv.length then e.dropBlock n |>.laneChanged n else e := by
  simp only [Dev.invalidHeader, hon, hclock, hdeaf, Nat.not_le.2 hn, hlock, Bool.not_true, Bool.or_self, Bool.false_eq_true, if_false]
  rfl

theorem Dev.invalidHeader_codeGroup (hon : d.laneOn n = true) (hclock : d.on (lanePage n) PRM_LANE_STATUS_CDR_LOCK = true) (hn : 8 ≤ n) :
    d.invalidHeader n =
      let bad := ((d.lane n).bad - ((d.now - (d.lane n).badAt) / 640 - 1) / 4) + 1
      let e := (d.bump (lanePage n) PRM_HDR_ERR).setLane n { d.lane n with bad := bad, badAt := d.now }
      if 4 ≤ bad ∧ e.on (lanePage n) PRM_LANE_STATUS_BLOCK_LOCK = true then e.dropBlock n else e := by
  have hdeaf : d.deaf n = false := by simp [Dev.deaf, Nat.not_lt.2 hn]
  simp only [Dev.invalidHeader, hon, hclock, hdeaf, hn, Bool.not_true, Bool.or_self, Bool.false_eq_true, if_true, if_false,
    Dev.codeGroupError, Bool.and_eq_true, decide_eq_true_eq]

theorem Dev.unknownBlock_locked (hon : d.laneOn n = true) (hlock : d.on (lanePage n) PRM_LANE_STATUS_BLOCK_LOCK = true) (hn : n < 8)
    (hdeaf : d.deaf n = false) : d.unknownBlock n = d.bump (lanePage n) PRM_HDR_ERR := by
  simp only [Dev.unknownBlock, hon, hlock, hdeaf, decide_eq_true hn, Bool.not_false, Bool.and_self, if_true]

/-! ### Alignment markers -/

theorem Dev.amHear_locked (hn : n < 8) (hon : d.laneOn n = true) (hlock : d.on (lanePage n) PRM_LANE_STATUS_BLOCK_LOCK = true) {l : LaneRx} (hl : d.lane n = l)
    (id : Nat) (far : Bool) :
    d.amHear n id far =
      let e := (d.setFld (lanePage n) PRM_LANE_STATUS_AM_LANE id).setFld (lanePage n) PRM_LANE_STATUS_FAR_ALIGNED far.toNat
      let zero := (List.range 8).any (fun m => match (e.lane m).farZeroAt with
        | some a => amPeriod / 2 < e.now - a && e.now - a ≤ amPeriod + amPeriod / 2 | none => false)
      let v := { l with farZeroAt := if far = true then l.farZeroAt else some e.now }
      let e := e.setLane n (if d.on (lanePage n) PRM_LANE_STATUS_AM_LOCK = true ∧ l.amId ≠ id % 256 then v
        else { v with amAt := some e.now, amPrev := l.amAt, amId := id % 256 })
      let e := if (match l.amAt with | some a => onePeriod a d.now && l.amId == id % 256 | none => false) = true then e.setFld (lanePage n) PRM_LANE_STATUS_AM_LOCK 1 else e
      (if far = false ∧ zero = true then e.leaveAligned else e).linkEvaluate := by
  simp only [Dev.amHear, Nat.not_le.2 hn, hon, hlock, decide_false, Bool.not_true, Bool.or_self, Bool.false_eq_true, if_false, Bool.and_eq_true,
    Bool.not_eq_true', bne_iff_ne, hl] <;> rfl

theorem Dev.amReceive_locked (hn : n < 8) (hlock : d.on (lanePage n) PRM_LANE_STATUS_BLOCK_LOCK = true)
    (hdeaf : d.deaf n = false) (id status : Nat) :
    d.amReceive n id status = Dev.amHear n id (bitAt status 2) (if d.loopback = 3 ∧ d.laneSends n = true
      then { d with prm := { d.prm with relayed := SMap.put Block.none d.prm.relayed n (Block.am id status) } } else d) := by
  simp only [Dev.amReceive, hdeaf, decide_eq_true hn, hlock, Bool.true_and, Bool.and_true, Bool.false_eq_true, if_false, Bool.and_eq_true,
    beq_iff_eq]

theorem Dev.amLoss_due {a : Nat} (hn : n < 8) (ham : (d.lane n).amAt = some a) (hlock : d.on (lanePage n) PRM_LANE_STATUS_AM_LOCK = true)
    (hdue : 4 * amPeriod ≤ d.now - a + 4400) :
    d.amLoss n = ((d.setFld (lanePage n) PRM_LANE_STATUS_AM_LOCK 0).setLane n { d.lane n with amAt := none, amPrev := none }).linkEvaluate := by
  simp only [Dev.amLoss, ham, hlock, decide_eq_true hdue, decide_true, Bool.and_self, if_true, Dev.laneChanged, hn, Dev.dropAm]

/-! ### Losses -/

theorem Dev.losAssert_live (hgated : d.lanesGated = false) (hon : d.laneState n < 2) (hlos : d.on (lanePage n) PRM_LANE_STATUS_LOS = false) :
    d.losAssert n =
      let e := ((d.setFld (lanePage n) PRM_LANE_STATUS_LOS 1).bump (lanePage n) PRM_LOS_CNT).raise (lanePage n) 0
      if n < 8 ∧ e.nearEnd = true then e else Dev.laneChanged n (Dev.dropBlock n (e.setFld (lanePage n) PRM_LANE_STATUS_CDR_LOCK 0)) := by
  simp only [Dev.losAssert, hgated, Nat.not_le.2 hon, hlos, decide_false, Bool.or_self, Bool.false_eq_true, if_false, Bool.and_eq_true,
    decide_eq_true_eq]

theorem Dev.lossOfLock_live (hgated : d.lanesGated = false) (hon : d.laneState n < 2) :
    d.lossOfLock n =
      let e := (d.bump (lanePage n) PRM_LOL_CNT).raise (lanePage n) 1
      if n < 8 ∧ e.nearEnd = true then e else Dev.laneChanged n (Dev.dropBlock n (e.setFld (lanePage n) PRM_LANE_STATUS_CDR_LOCK 0)) := by
  simp only [Dev.lossOfLock, hgated, Nat.not_le.2 hon, decide_false, Bool.or_self, Bool.false_eq_true, if_false, Bool.and_eq_true,
    decide_eq_true_eq]

theorem Dev.prbsError_checking (hon : d.laneOn n = true) (hcheck : bitAt (d.fld (lanePage n) PRM_LANE_CTRL_PRBS) 1 = true) :
    d.prbsError n = if (d.lane n).prbsFrom + (if n < 8 then 205 else 2048) ≤ d.now then d.bumpFirst (lanePage n) PRM_PRBS_ERR 3
      else d.setLane n { d.lane n with prbsFrom := d.now } := by
  simp only [Dev.prbsError, hon, hcheck, Bool.and_self, if_true, bits32]
  rfl

theorem Dev.sgmiiWord_locked (hn : n = 8 ∨ n = 9) (hvar : d.variant = .is) (hon : d.laneOn n = true)
    (hlock : d.on (lanePage n) PRM_LANE_STATUS_BLOCK_LOCK = true) (up gig full : Bool) :
    d.sgmiiWord n up gig full = Dev.setFld { d with prm := { d.prm with sgmiiAck := SMap.put false d.prm.sgmiiAck n true } }
      (lanePage n) PRM_LANE_STATUS_FAR_ALIGNED (up && gig && full).toNat := by
  have hrange : 8 ≤ n ∧ n < 10 := by omega
  simp only [Dev.sgmiiWord, hvar, beq_self_eq_true, decide_eq_true hrange.1, decide_eq_true hrange.2, hon, hlock, Bool.and_self, if_true]

/-! ### Flow control -/

theorem Dev.xoff_aligned (haligned : d.prm.aligned = true) (hfree : d.prm.holdFrom = none) :
    d.xoff = ((Dev.setFld { d with prm := { d.prm with
        holdFrom := some d.now, warned := false, held := d.columnsLeft, holdLimit := d.fld 0x82 PRM_LINK_CFG_XOFF_WARN } }
        0x82 PRM_LINK_STATUS_XOFF 1).bump 0x82 PRM_XOFF_CNT) := by
  simp only [Dev.xoff, haligned, hfree, Option.isNone_none, Bool.and_self, if_true]

theorem Dev.xon_idle {a : Nat} (hheld : d.prm.holdFrom = some a) (hidle : d.prm.inFlight = none) :
    d.xon false = Dev.setFld { d with prm := { d.prm with holdFrom := none, inFlight := none, held := 0 } } 0x82 PRM_LINK_STATUS_XOFF 0 := by
  simp only [Dev.xon, hheld, hidle, Option.isSome_some, Bool.false_eq_true, if_true, if_false]

theorem Dev.xon_sending {a x : Nat} {p : Packet} (hheld : d.prm.holdFrom = some a) (hsend : d.prm.inFlight = some (p, x)) :
    d.xon false =
      let cs := columnsOf (p.blocks (d.fld 0x03 DTB_CTRL_PARK_INDEX))
      let e := d.putColumns (weave d.amPos (cs.drop (cs.length - d.prm.held)))
      Dev.setFld { e with prm := { e.prm with
        inFlight := some (p, d.columnsEnd (spanFrom d.amPos d.prm.held)), holdFrom := none, held := 0 } } 0x82 PRM_LINK_STATUS_XOFF 0 := by
  simp only [Dev.xon, hheld, hsend, Option.isSome_some, Bool.false_eq_true, if_true, if_false]

theorem Dev.xoffLong_due {a : Nat} (hheld : d.prm.holdFrom = some a) (hlimit : 0 < d.prm.holdLimit) (hlong : a + 80000 * d.prm.holdLimit < d.now)
    (hwarned : d.prm.warned = false) : d.xoffLong = Dev.raise 0x82 3 { d with prm := { d.prm with warned := true } } := by
  have hlong' : a + Config.us d.prm.holdLimit < d.now := hlong
  simp only [Dev.xoffLong, hheld, bne_iff_ne.2 (Nat.ne_of_gt hlimit), decide_eq_true hlong', hwarned, Bool.not_false, Bool.and_self, if_true]

end

/-! ### Writes of the control registers -/

theorem laneCtrl_defined : ∀ n < 10, (regDef (lanePage n) PRM_LANE_CTRL).isSome = true := by decide +kernel

theorem Dev.ownOf_laneCtrl (m : Mem) {n : Nat} (hn : n < 10) (w : Word) (d : Dev) :
    d.ownOf m (lanePage n) PRM_LANE_CTRL w
      = (Dev.merged (lanePage n) PRM_LANE_CTRL w d).laneCtrlWritten n (d.reg (lanePage n) PRM_LANE_CTRL) := by
  have hp : lanePage n < 0x82 ∧ lanePage n - 0x78 = n := by unfold lanePage; omega
  rw [Dev.ownOf_link (by unfold lanePage; omega) (laneCtrl_defined n hn)]
  simp only [Dev.afterLink, hp, beq_self_eq_true, if_true]

theorem Dev.ownOf_linkCtrl (m : Mem) (w : Word) (d : Dev) :
    d.ownOf m 0x82 PRM_LINK_CTRL w = (Dev.merged 0x82 PRM_LINK_CTRL w d).linkCtrlWritten := by
  rw [Dev.ownOf_link (by decide) (by decide +kernel)]
  rfl

theorem ite_is_branch {α : Type} (c : Prop) [Decidable c] (a b : α) : (if c then a else b) = a ∨ (if c then a else b) = b := by
  split
  · exact .inl rfl
  · exact .inr rfl

/-- Settles O33. -/
theorem linkReceptionCommandsComplete : Obligations.LinkReceptionCommandsComplete := by
  refine ⟨fun s t n hn h => ?_, fun s t n id status hn h => ?_, fun s t n a hn h hgated ham hlock hdue => ?_, fun s t n hn h => ?_,
    fun s t h hgated => ?_, fun s t n ini w hn h => ?_, fun s t ini w h => ?_, fun s t n hn h hon hcheck => ?_,
    fun s t n up gig full hn h hvar hon hlock => ?_⟩
  · intro d p hon
    have hok : okLane n = true := decide_eq_true hn
    refine ⟨fun hsignal => ?_, fun hfree hclock hvalid => ?_, fun hclock hdeaf hn8 hfree => ?_, fun hclock hdeaf hn8 hlock => ?_,
      fun hclock hn8 => ?_, fun hlock hn8 hdeaf => ?_⟩
    · exact (State.cmd_ok h hok _).trans (State.answers_congr (Dev.cdrLock_on hon hsignal))
    · exact (State.cmd_ok h hok _).trans (State.answers_congr (Dev.blockLock_found hon hfree hclock hvalid))
    · exact (State.cmd_ok h hok _).trans (State.answers_congr (Dev.invalidHeader_searching hon hclock hdeaf hn8 hfree))
    · exact (State.cmd_ok h hok _).trans (State.answers_congr (Dev.invalidHeader_locked hon hclock hdeaf hn8 hlock))
    · exact (State.cmd_ok h hok _).trans (State.answers_congr (Dev.invalidHeader_codeGroup hon hclock hn8))
    · exact (State.cmd_ok h hok _).trans (State.answers_congr (Dev.unknownBlock_locked hon hlock hn8 hdeaf))
  · intro d0 p l hon hlock hdeaf
    refine (State.cmd_ok h (decide_eq_true (show n < 10 by omega)) _).trans (State.answers_congr ((Dev.amReceive_locked hn hlock hdeaf id status).trans ?_))
    have hkept : ∀ D : Dev, (D = { d0 with prm := { d0.prm with relayed := SMap.put Block.none d0.prm.relayed n (Block.am id status) } } ∨ D = d0) →
        D.laneOn n = true ∧ D.on p PRM_LANE_STATUS_BLOCK_LOCK = true ∧ D.lane n = l := by
      rintro D (rfl | rfl) <;> exact ⟨hon, hlock, rfl⟩
    obtain ⟨hon', hlock', hl⟩ := hkept _ (ite_is_branch (d0.loopback = 3 ∧ d0.laneSends n = true) _ _)
    exact Dev.amHear_locked hn hon' hlock' hl id _
  · exact (State.cmd_ok h (decide_eq_true (show n < 10 by omega)) _).trans
      (State.answers_congr ((Dev.onLanes_powered hgated _).trans (Dev.amLoss_due hn ham hlock hdue)))
  · intro d p hgated
    have hok : okLane n = true := decide_eq_true hn
    refine ⟨?_, fun hon => ⟨fun hlos => ?_, ?_⟩⟩
    · exact (State.cmd_ok h hok _).trans (State.answers_congr (Dev.onLanes_powered hgated _))
    · exact (State.cmd_ok h hok _).trans (State.answers_congr (Dev.losAssert_live hgated hon hlos))
    · exact (State.cmd_ok h hok _).trans (State.answers_congr (Dev.lossOfLock_live hgated hon))
  · intro d
    have hlanes (f : Dev → Dev) {e : Dev} (he : f d = e) : s.cmd t true (fun d => d.onLanes f) = .next (s.put e) :=
      (State.cmd_up h _).trans (State.answers_congr ((Dev.onLanes_powered hgated f).trans he))
    refine ⟨fun haligned hfree => hlanes _ (Dev.xoff_aligned haligned hfree), hlanes (Dev.xon true) rfl,
      fun a hheld => ⟨fun hidle => hlanes (Dev.xon false) (Dev.xon_idle hheld hidle),
        fun p x hsend => hlanes (Dev.xon false) (Dev.xon_sending hheld hsend),
        fun hlimit hlong hwarned => hlanes _ (Dev.xoffLong_due hheld hlimit hlong hwarned)⟩⟩
  · intro e
    have hrow := (State.rowWrite_outOf h (.inr (Nat.le_add_right 0x78 n)) rfl w).trans (State.answers_congr (Dev.ownOf_laneCtrl s.mem hn w (s.begun t)))
    refine ⟨?_, ?_⟩
    · have hexec : exec (.prbsWrite t ini n w) s = s.rowWrite t (okLane n) ini (lanePage n) PRM_LANE_CTRL w := rfl
      rw [hexec, show okLane n = true from decide_eq_true hn]
      exact hrow
    · have hexec : exec (.pstateWrite t ini n w) s
          = s.rowWrite t (okLanePage n) ini (lanePage n) (if n == 10 then PRM_LINK_CTRL else PRM_LANE_CTRL) w := rfl
      rw [hexec, show okLanePage n = true from decide_eq_true (by omega), beq_eq_false_iff_ne.2 (show n ≠ 10 by omega)]
      exact hrow
  · intro e
    have hrow := (State.rowWrite_outOf h (.inr (by decide)) rfl w).trans (State.answers_congr (Dev.ownOf_linkCtrl s.mem w (s.begun t)))
    exact ⟨hrow, hrow⟩
  · exact (State.cmd_ok h (decide_eq_true hn) _).trans (State.answers_congr (Dev.prbsError_checking hon hcheck))
  · exact (State.cmd_ok h (decide_eq_true (show n < 10 by omega)) _).trans
      (State.answers_congr (Dev.sgmiiWord_locked hn hvar hon hlock up gig full))

end Sys2Proof.Machine
end

section
/-! Sending on the link (06_points_time.md, 07_promenade_lanes.md). -/
namespace Sys2Proof.Machine

section
variable {d : Dev}

theorem SlotRec.tapList_nil {x : SlotRec} (h : x.taps = []) : x.tapList = [] := by
  simp [SlotRec.tapList, h]

/-- The oldest slot of an aligned link, with nothing staged and no mark, becomes a packet of its header and records. -/
theorem Dev.commitSlot_whole {x : SlotRec} {rest : List SlotRec} {f : FrameRec} (hslots : d.slots = x :: rest) (hacq : x.acquiring = false)
    (hdue : x.due = 0) (haligned : d.prm.aligned = true) (hgated : d.lanesGated = false) (hspace : d.hasSpace 128 = true)
    (hframe : d.frames.find? (fun g => g.num == x.frame) = some f) (hstarted : f.started = true) (htaps : x.taps = []) (hlost : x.lost = false)
    (htouched : x.touched = false) :
    d.commitSlot =
      let e := Dev.createPacket 1 (x.header false ++ x.records) { d with slots := rest } (if x.skipped = true then some x.frame else none)
      (Dev.closeFrame x.frame { e with frames := e.frames.map (fun g => g) }).egressUpdate := by
  have hgated' : Dev.lanesGated { d with slots := rest } = false := hgated
  simp only [Dev.commitSlot, hslots, hacq, hdue, haligned, hspace, hframe, hstarted, SlotRec.tapList_nil htaps, admitTaps, hlost, htouched,
    hgated', bne_self_eq_false, Bool.not_true, Bool.or_self, Bool.and_false, Bool.false_eq_true, if_true, if_false, List.any_nil,
    List.filter_nil, List.length_nil, List.foldl_nil, Nat.lt_irrefl]

theorem Dev.packetSend_oldest {p : Packet} {rest : List Packet} (hqueue : d.prm.queue = p :: rest) (haligned : d.prm.aligned = true)
    (hidle : d.prm.inFlight = none) (hfree : d.prm.holdFrom = none) :
    d.packetSend =
      let e := d.putColumns (weave d.amPos (columnsOf (p.blocks (d.fld 0x03 DTB_CTRL_PARK_INDEX))))
      { e with prm := { e.prm with
          queue := rest, inFlight := some (p, d.columnsEnd (spanFrom d.amPos (packetColumns p.payload.length))) } } := by
  simp only [Dev.packetSend, hqueue, haligned, hidle, hfree, Option.isNone_none, Bool.and_self, if_true]

theorem Dev.markerSend_oldest {m : Marker} {rest : List Marker} (hmarkers : d.evm.markers = m :: rest) (hroom : (d.offerPayload 5 m.payload).2 = true) :
    d.markerSend =
      let e := (d.offerPayload 5 m.payload).1
      { e with evm := Evm.acceptWaiting { e.evm with markers := rest } } := by
  simp only [Dev.markerSend, hmarkers, hroom, if_true]

theorem Dev.amSend_due (hgated : d.lanesGated = false) (hpll : d.on 0x01 PWR_STATUS_LANE_PLL_LOCKED = true)
    (hpower : d.on 0x82 PRM_LINK_CTRL_PSTATE = false) (hloop : d.loopback ≠ 3) (hdue : d.amDue = true) :
    d.amSend =
      let col := (List.range 8).map (fun n => if bitAt (d.fld (lanePage n) PRM_LANE_CTRL_PRBS) 0 = true then Block.none
        else Block.am n (d.fld (lanePage n) PRM_LANE_STATUS_BLOCK_LOCK
          + 2 * d.fld (lanePage n) PRM_LANE_STATUS_AM_LOCK + 4 * d.prm.localAligned.toNat))
      let e : Dev := { d with prm := { d.prm with amSent := d.prm.amSent + 1, amOut := col, lastAm := some d.now } }
      let e := if d.prm.inFlight.isSome = true ∧ d.prm.holdFrom = none then e else e.putColumns [col, List.replicate 8 Block.idle]
      if e.nearEnd = true then
        (List.range 8).foldl (fun (e : Dev) n => if (col.getD n Block.none).bytes.isEmpty = true then e else e.amHear n n d.prm.localAligned) e
      else e := by
  simp only [Dev.amSend, hgated, hpll, hpower, beq_eq_false_iff_ne.2 hloop, hdue, Bool.not_true, Bool.or_self, Bool.false_eq_true, if_false,
    Bool.and_eq_true, Option.isNone_iff_eq_none]
  rfl

end

/-- Settles O34. -/
theorem linkSendingCommandsComplete : Obligations.LinkSendingCommandsComplete := by
  refine ⟨fun s t x rest f h => ?_, fun s t p rest h => ?_, fun s t m rest h => ?_, fun s t h => ?_⟩
  · intro d hslots hacq hdue haligned hgated hspace hframe hstarted htaps hlost htouched
    exact (State.cmd_up h Dev.commitSlot).trans
      (State.answers_congr (Dev.commitSlot_whole hslots hacq hdue haligned hgated hspace hframe hstarted htaps hlost htouched))
  · intro d hqueue haligned hidle hfree
    exact (State.cmd_up h Dev.packetSend).trans (State.answers_congr (Dev.packetSend_oldest hqueue haligned hidle hfree))
  · intro d hmarkers hroom
    exact (State.cmd_up h Dev.markerSend).trans (State.answers_congr (Dev.markerSend_oldest hmarkers hroom))
  · intro d hgated hpll hpower hloop hdue
    exact (State.cmd_up h Dev.amSend).trans (State.answers_congr (Dev.amSend_due hgated hpll hpower hloop hdue))

end Sys2Proof.Machine
end

section
/-! The loops (10_fountain_loops.md). -/
namespace Sys2Proof.Machine
-- A `decide +kernel` waits for every proof before it: in turn, none of them waits in a thread of its own.
set_option Elab.async false

section
variable {d : Dev} {l : Nat}

theorem Dev.loopSample_due (hon : d.loopState l ≠ ftnOffSt ∨ (d.getLoop l).starting = true) (hnew : (d.getLoop l).sampledAt ≠ some d.now)
    (hdue : d.edgeTime % (8000 * d.loopPeriod l) = (50000 * l) % (8000 * d.loopPeriod l)) :
    d.loopSample l =
      let d := (d.overdue l).sampleState l
      let x := d.getLoop l
      let sep := l < 2 && d.on (ftnPage l) FTN_SRC_ANG_SEP
      let n : LoopSample := ⟨x.idx + 1, d.now, .pending, if sep = true then some .pending else none⟩
      let e := d.setLoop l { x with idx := x.idx + 1, samples := x.samples ++ [n], sampledAt := some d.now }
      let e := if d.on (ftnPage l) FTN_SRC_FB_TS = true then e.measArrive l false n.idx (e.tempMeas (d.lf l FTN_SRC_FB_IN))
        else (e.loopRequest l false (e.lf l FTN_SRC_FB_SAR) (d.lf l FTN_SRC_FB_IN)).1
      if sep = true then (e.loopRequest l true (e.lf l FTN_SRC_ANG_SAR) (e.lf l FTN_SRC_ANG_IN)).1 else e := by
  have hruns : (d.loopState l == ftnOffSt && !(d.getLoop l).starting) = false := by
    rcases hon with h | h
    · rw [beq_eq_false_iff_ne.2 h]; rfl
    · rw [h]; exact Bool.and_false _
  have hnew' : ((d.getLoop l).sampledAt == some d.now) = false := beq_eq_false_iff_ne.2 hnew
  simp only [Dev.loopSample, hruns, hnew', hdue, bne_self_eq_false, Bool.or_self, Bool.false_eq_true, if_false]

theorem Dev.loopUpdate_served {x : LoopSample} (h : d.nextServed = some (l, x)) :
    let e := d.setLoop l { d.getLoop l with samples := (d.getLoop l).samples.filter (fun z => z.idx != x.idx) }
    (∀ c f, x.fb = .code c f → d.loopUpdate = e.updateValid l x ((c / 2 : Nat) : Int) (bitAt f 1 || bitAt f 2) f) ∧
    (∀ y f, x.fb = .temp y f → d.loopUpdate = e.updateValid l x y f 0) ∧ (x.fb = .missing → d.loopUpdate = e.updateMissing l) := by
  refine ⟨fun c f hx => ?_, fun y f hx => ?_, fun hx => ?_⟩ <;> simp only [Dev.loopUpdate, h, hx]

theorem Dev.pwmStart_due {a : Nat} (hat : (d.getLoop l).pwmAt = some a) (hdue : a + 256 * (d.getLoop l).pwmPeriod ≤ d.now) :
    d.pwmStart l = d.setLoop l { d.getLoop l with
      pwmAt := some (a + 256 * (d.getLoop l).pwmPeriod), pwmHigh := (d.pwmCounts l).1, pwmPeriod := (d.pwmCounts l).2 } := by
  simp only [Dev.pwmStart, hat, hdue, if_true]

theorem ftnSp_defined : ∀ l < 8, (regDef (ftnPage l) FTN_SP).isSome = true := by decide +kernel
theorem ftnCtrl_defined : ∀ l < 8, (regDef (ftnPage l) FTN_CTRL).isSome = true := by decide +kernel

theorem Dev.ownOf_fountain (m : Mem) {off : Nat} {w : Word} (hl : l < 8) {r : RegDef} (hr : regDef (ftnPage l) off = some r) :
    d.ownOf m (ftnPage l) off w = d.ftnWrite r l off w := by
  have hp : ¬ ftnPage l < 8 ∧ ¬ (0x10 ≤ ftnPage l ∧ ftnPage l < 0x50) ∧ ¬ ftnPage l < 0x58 ∧ ¬ ftnPage l < 0x78 ∧ ¬ ftnPage l < 0x85 ∧
      (ftnPage l == 0x85) = false ∧ ftnPage l < 0x8E ∧ ftnPage l - 0x86 = l := by
    simp only [ftnPage, beq_eq_false_iff_ne]; omega
  simp only [Dev.ownOf, hr, Dev.ownWrite, Bool.and_eq_true, decide_eq_true_eq, hp, Bool.false_eq_true, if_true, if_false]

theorem Dev.ownOf_ftnCtrl (m : Mem) (hl : l < 8) (w : Word) : d.ownOf m (ftnPage l) FTN_CTRL w = d.ftnCtrlWrite l w true := by
  obtain ⟨r, hr⟩ := Option.isSome_iff_exists.1 (ftnCtrl_defined l hl)
  rw [Dev.ownOf_fountain m hl hr, Dev.ftnWrite, if_pos (beq_self_eq_true _)]

theorem Dev.ownOf_ftnSp (m : Mem) (hl : l < 8) (w : Word) : d.ownOf m (ftnPage l) FTN_SP w = d.spWrite l w := by
  obtain ⟨r, hr⟩ := Option.isSome_iff_exists.1 (ftnSp_defined l hl)
  rw [Dev.ownOf_fountain m hl hr, Dev.ftnWrite, if_neg (by decide), if_pos (beq_self_eq_true _)]

/-- A set-point inside the limits is taken as it is; any other is clamped and flagged. -/
theorem Dev.spWrite_eq (w : Word) :
    let c := min (max (signed 16 w.toNat) (d.lq l FTN_SP_LIM_SP_MIN)) (d.lq l FTN_SP_LIM_SP_MAX)
    let e := (d.setFld (ftnPage l) FTN_SP_TARGET (toBits 16 c)).setFld (ftnPage l) FTN_STATE_SP_CLAMPED (if c = signed 16 w.toNat then 0 else 1)
    d.spWrite l w = (if c = signed 16 w.toNat then e else e.raise (ftnPage l) 5).rampFlag l := by
  intro c e
  have hc : d.spClamp l (signed 16 w.toNat) = c := rfl
  by_cases h : c = signed 16 w.toNat <;> simp only [e, Dev.spWrite, hc, h, ne_eq, not_true, not_false_eq_true, decide_false, decide_true,
    Bool.toNat_false, Bool.toNat_true, if_true, if_false]

end

theorem State.rowWrite_loop {s : State} {t l off : Nat} {ini : Initiator} (hl : l < 8) (h : s.servedTo t ini = true) (ho : isOwn off = true)
    (w : Word) : s.rowWrite t (okLoop l) ini (ftnPage l) off w = .next (s.put ((s.begun t).ownOf s.mem (ftnPage l) off w)) := by
  rw [show okLoop l = true from decide_eq_true hl, State.rowWrite_lowOf h (.inr (by unfold ftnPage; omega)) ho]

/-- Settles O36: each clause is what its command does at the sample, update or period that is due, and a write its register's own act. -/
theorem loopCommandsComplete : Obligations.LoopCommandsComplete := by
  unfold Obligations.LoopCommandsComplete
  refine ⟨fun s t l hl h => ?_, fun s t l x h => ?_, fun s t l a hl h => ?_, fun s t l ini w hl h => ?_⟩
  · intro d hon hnew hdue
    exact (State.cmd_ok h (decide_eq_true hl) fun d => d.loopSample l).trans (State.answers_congr (Dev.loopSample_due hon hnew hdue))
  · intro d hserved e
    obtain ⟨hcode, htemp, hmissing⟩ := Dev.loopUpdate_served hserved
    have hexec := State.cmd_up h Dev.loopUpdate
    exact ⟨fun c f hx => hexec.trans (State.answers_congr (hcode c f hx)), fun y f hx => hexec.trans (State.answers_congr (htemp y f hx)),
      fun hx => hexec.trans (State.answers_congr (hmissing hx))⟩
  · intro x hat hdue
    exact (State.cmd_ok h (decide_eq_true hl) fun d => d.pwmStart l).trans (State.answers_congr (Dev.pwmStart_due hat hdue))
  · intro d c e
    have hctrl := (State.rowWrite_loop hl h rfl w).trans (State.answers_congr (Dev.ownOf_ftnCtrl s.mem hl w))
    exact ⟨(State.rowWrite_loop hl h rfl w).trans (State.answers_congr ((Dev.ownOf_ftnSp s.mem hl w).trans (Dev.spWrite_eq w))), hctrl, hctrl⟩

end Sys2Proof.Machine
end

section
/-! Cascade's filters and Belvedere's capture (12_cascade_filters.md, 13_belvedere_capture.md). -/
namespace Sys2Proof.Machine
-- A `decide +kernel` waits for every proof before it: in turn, none of them waits in a thread of its own.
set_option Elab.async false

section
variable {d : Dev} {c : Nat}

theorem Dev.cscService_off (hdue : d.edgeTime % 64000 = 4000 * c) (h : d.cscOn c = false) :
    d.cscService c = (d.setCsc c { d.getCsc c with buf := [] }).cscFlush c := by
  simp only [Dev.cscService, hdue, h, bne_self_eq_false, Bool.not_false, Bool.false_eq_true, if_true, if_false]

/-- A running channel takes what is buffered after the flush, where one is due. -/
theorem Dev.cscService_on (hdue : d.edgeTime % 64000 = 4000 * c) (h : d.cscOn c = true) :
    d.cscService c =
      let e := if (d.getCsc c).flush then d.cscFlush c else d
      (e.getCsc c).buf.foldl (Dev.cscProcess c) (e.setCsc c { e.getCsc c with buf := [] }) := by
  simp only [Dev.cscService, hdue, h, bne_self_eq_false, Bool.not_true, Bool.false_eq_true, if_false]

theorem Dev.cscRelease_due {o : CscOut} {rest : List CscOut} (houts : (d.getCsc c).outs = o :: rest) (hdue : o.due ≤ d.now) :
    d.cscRelease c = (
      let e := (d.setCsc c { d.getCsc c with outs := rest, lastTime := o.time }).sampleTo (0x20 + c) o.value (blvFlags o.flags) o.time
      let e := if bitAt o.flags 0 = true ∧ e.bit 0x92 CSC_OVR c = false then (e.setBit 0x92 CSC_OVR c).raise 0x92 0 else e
      let e := ((e.cscPeak c o.value).cscRms c o.value).cscEnvelope c o.value
      e.resultOut (6 + c) (e.cf c CSC_CH_CFG_DMA) o.value o.value o.lin o.input 6 o.flags c o.time, true) := by
  simp only [Dev.cscRelease, houts, Nat.not_lt.2 hdue, if_false, Bool.and_eq_true, Bool.not_eq_true']

theorem Dev.ownOf_cscCtrl (m : Mem) (w : Word) :
    d.ownOf m 0x92 CSC_CTRL w = (Dev.merged 0x92 CSC_CTRL w d).cscCtrlWritten (d.reg 0x92 CSC_CTRL) := by
  rw [Dev.ownOf_analog (by decide) (by decide +kernel) rfl]
  rfl

theorem cscCfg_defined : ∀ c < 16, (regDef 0x92 (CSC_CH_CFG + 32 * c)).isSome = true := by decide +kernel

theorem Dev.ownOf_cscCfg (m : Mem) (hc : c < 16) (w : Word) :
    d.ownOf m 0x92 (CSC_CH_CFG + 32 * c) w
      = (Dev.merged 0x92 (CSC_CH_CFG + 32 * c) w d).cscCfgWritten c (d.reg 0x92 (CSC_CH_CFG + 32 * c)) := by
  have hoff : (CSC_CH_CFG + 32 * c == CSC_CTRL) = false := by
    simp only [beq_eq_false_iff_ne, CSC_CH_CFG, CSC_CTRL]; omega
  have hlo : CSC_CH_CFG ≤ CSC_CH_CFG + 32 * c := Nat.le_add_right _ _
  have hidx : 32 * c / 32 = c ∧ 32 * c % 32 = 0 := by omega
  rw [Dev.ownOf_analog (by decide) (cscCfg_defined c hc) rfl]
  simp only [Dev.afterAnalog, hoff, hlo, hidx, Nat.add_sub_cancel_left, decide_true, beq_self_eq_true, Bool.and_self, Bool.false_eq_true, if_true,
    if_false, Nat.reduceBEq]

/-- The bits ABORT, ARM and FORCE of BLV.CTRL act in this order. -/
theorem Dev.ownOf_blvCtrl (m : Mem) (v : Word) :
    d.ownOf m 0x93 BLV_CTRL v =
      let e := Dev.merged 0x93 BLV_CTRL v d
      let e := if bitAt v.toNat BLV_CTRL_ABORT.lo = true then e.blvAbort else e
      let e := if bitAt v.toNat BLV_CTRL_ARM.lo = true then e.blvArm else e
      if bitAt v.toNat BLV_CTRL_FORCE.lo = true then (e.blvTrigger 5 e.devTime).1.raiseAll 0x93 (e.blvTrigger 5 e.devTime).2 else e := by
  rw [Dev.ownOf_blv (by decide) (by decide +kernel)]
  rfl

theorem Dev.blvTimeoutEnd_due (hpost : d.blvState = blvPost) (hdue : d.blv.tTrig + 2 ^ 41 ≤ d.edgeTime) : d.blvTimeoutEnd = d.blvEndPost true := by
  simp only [Dev.blvTimeoutEnd, hpost, hdue, beq_self_eq_true, decide_true, Bool.and_self, if_true]

/-- A dump to shared SRAM, with room for the image. -/
theorem State.blvDumpDone_sram {s : State} (hdump : s.dev.blvState = blvDump) (hdest : s.dev.blv.dest = 2)
    (hroom : 4096 * s.dev.blv.base + s.dev.blvImage.length ≤ 0x800000) :
    s.blvDumpDone =
      let e := s.dev.setFld 0x93 BLV_STATUS_DUMP_ERR 0
      { s with mem := memPutBytes s.mem (4096 * s.dev.blv.base) s.dev.blvImage, dev := e.blvFinish.1.raiseAll 0x93 e.blvFinish.2 } := by
  have hlink : bitAt 2 0 = false := by decide
  have hsram : bitAt 2 1 = true := by decide
  have hroom' : 4096 * s.dev.blv.base + s.dev.blvImage.length ≤ Config.sramBytes := hroom
  simp only [State.blvDumpDone, State.blvCopy, hdump, hdest, hlink, hsram, hroom', bne_self_eq_false, Bool.not_true, Bool.false_eq_true,
    if_true, if_false]

/-- The word of the image at the address, which advances. -/
theorem Dev.blvReadData_image (hstate : d.blvState = blvDone ∨ d.blvState = blvStopped)
    (hin : 4 * d.fld 0x93 BLV_RD_ADDR_ADDR < d.blvImage.length) :
    d.blvReadData = (BitVec.ofNat 32 (ofLe ((d.blvImage.drop (4 * d.fld 0x93 BLV_RD_ADDR_ADDR)).take 4)),
      d.setFld 0x93 BLV_RD_ADDR_ADDR (d.fld 0x93 BLV_RD_ADDR_ADDR + 1)) := by
  have hstate' : (d.blvState == blvDone || d.blvState == blvStopped) = true := by
    rcases hstate with h | h <;> rw [h] <;> decide
  simp only [Dev.blvReadData, hstate', hin, if_true]

theorem Dev.cscOutput_due {o : CscOut} {rest : List CscOut} (houts : (d.getCsc c).outs = o :: rest) (hdue : o.due ≤ d.now) :
    let on (m : Nat) : Bool := match (d.getSd m).entry with
      | some w => (d.getSd m).bound && sdF w PMP_SD_LIST_CSC_CH == c
      | none => false
    d.cscOutput c = (
      let e := (d.setCsc c { d.getCsc c with outs := rest, lastTime := o.time }).sampleTo (0x20 + c) o.value (blvFlags o.flags) o.time
      let e := if bitAt o.flags 0 = true ∧ e.bit 0x92 CSC_OVR c = false then (e.setBit 0x92 CSC_OVR c).raise 0x92 0 else e
      let e := ((e.cscPeak c o.value).cscRms c o.value).cscEnvelope c o.value
      let e := e.resultOut (6 + c) (e.cf c CSC_CH_CFG_DMA) o.value o.value o.lin o.input 6 o.flags c o.time
      let e := if on 0 = true then e.sdDwell 0 else e
      if on 1 = true then e.sdDwell 1 else e) := by
  intro on
  simp only [Dev.cscOutput, Dev.cscRelease_due houts hdue, Bool.true_and] <;> rfl

/-- BLV.RD_DATA is formed when it is read. -/
theorem Dev.pageRead_blvRdData (ini : Initiator) : d.pageRead ini 0x93 BLV_RD_DATA = d.blvReadData := by
  rw [Dev.pageRead, Dev.dead_low d (by decide)]
  rfl

end

/-- A row of page 0x92 or 0x93. -/
theorem State.rowWrite_page {s : State} {t p off : Nat} {ini : Initiator} (h : s.servedTo t ini = true) (hp : 0x83 ≤ p ∧ p < 0xB0)
    (ho : isOwn off = true) (w : Word) : s.rowWrite t true ini p off w = .next (s.put ((s.begun t).ownOf s.mem p off w)) :=
  State.rowWrite_lowOf h (.inr ⟨hp.1, .inl hp.2⟩) ho w

theorem isOwn_cscCfg : ∀ c < 16, isOwn (CSC_CH_CFG + 32 * c) = true := by decide +kernel

theorem exec_blvDumpDone {s : State} {t : Nat} (h : s.up t = true) : exec (.blvDumpDone t) s = .next (s.ready t).blvDumpDone :=
  State.cmdS_up h State.blvDumpDone

theorem exec_blvReadData {s : State} {t : Nat} (h : s.up t = true) :
    exec (.blvReadData t .control) s
      = .next (s.put ((s.begun t).blvReadData.2.deliver2 .control [(s.begun t).blvReadData.1])) := by
  have hplace : placeOf .control (regAddr 0x93 BLV_RD_DATA) = .reg 0x93 BLV_RD_DATA := by decide
  refine (State.cmdS_up h fun s => s.portRead .control 1 (regAddr 0x93 BLV_RD_DATA)).trans (congrArg _ ?_)
  rw [State.portRead_reg (s := s.ready t) rfl hplace (by decide), Dev.pageRead_blvRdData]
  rfl

/-- Settles O39: each clause is what its command does when it is due, and a write its register's merge and own act. -/
theorem cascadeAndCaptureCommandsComplete : Obligations.CascadeAndCaptureCommandsComplete := by
  unfold Obligations.CascadeAndCaptureCommandsComplete
  refine ⟨fun s t c hc h => ?_, fun s t c o rest hc h => ?_, fun s t c ini w hc h => ?_, fun s t x hx h => ?_, fun s t ini w h => ?_,
    fun s t h => ?_, fun s t h => ?_, fun s t h => ?_⟩
  · intro d hdue
    have hexec := State.cmd_ok h (decide_eq_true hc) fun d => d.cscService c
    refine ⟨fun hoff => hexec.trans (State.answers_congr (Dev.cscService_off hdue hoff)), fun hon hkept => ?_, fun hon hflush => ?_⟩
    · exact hexec.trans (State.answers_congr ((Dev.cscService_on hdue hon).trans (by rw [hkept]; rfl)))
    · exact hexec.trans (State.answers_congr ((Dev.cscService_on hdue hon).trans (by rw [hflush]; rfl)))
  · intro d on houts hdue
    exact (State.cmd_ok h (decide_eq_true hc) fun d => d.cscOutput c).trans (State.answers_congr (Dev.cscOutput_due houts hdue))
  · have hcfg : exec (.cscChannelConfigWrite t ini c w) s = s.rowWrite t true ini 0x92 (CSC_CH_CFG + 32 * c) w :=
      congrArg (fun ok => s.rowWrite t ok ini 0x92 (CSC_CH_CFG + 32 * c) w) (decide_eq_true hc)
    exact ⟨(State.rowWrite_page h (by decide) rfl w).trans (State.answers_congr (Dev.ownOf_cscCtrl s.mem w)),
      (hcfg.trans (State.rowWrite_page h (by decide) (isOwn_cscCfg c hc) w)).trans (State.answers_congr (Dev.ownOf_cscCfg s.mem hc w))⟩
  · exact State.cmd_ok h (decide_eq_true hx) fun d => d.withBlv (Dev.blvTimeout x)
  · intro act
    have hctrl (v : Word) : s.rowWrite t true ini 0x93 BLV_CTRL v = .next (s.put (act v)) :=
      (State.rowWrite_page h (by decide) rfl v).trans (State.answers_congr (Dev.ownOf_blvCtrl s.mem v))
    exact ⟨hctrl _, hctrl _, hctrl _⟩
  · intro d
    refine ⟨fun hpost hdue => ?_, fun _ => State.cmd_up h fun d => d.withBlv Dev.blvMaskDone⟩
    refine (State.cmd_up h fun d => d.withBlv Dev.blvTimeoutEnd).trans (State.answers_congr ?_)
    rw [Dev.withBlv, Dev.blvTimeoutEnd_due hpost hdue]
  · intro d base hdump hdest hroom
    exact (exec_blvDumpDone h).trans (congrArg _ (State.blvDumpDone_sram (s := s.ready t) hdump hdest hroom))
  · intro d hstate hin
    rw [exec_blvReadData h, Dev.blvReadData_image hstate hin]

end Sys2Proof.Machine
end

section
/-! Starts, stops, modes, loads and memory accesses of the cores (14_pergola_dsp.md). -/
namespace Sys2Proof.Machine
-- A `decide +kernel` waits for every proof before it: in turn, none of them waits in a thread of its own.
set_option Elab.async false

section
variable {d : Dev} {k tr : Nat}

/-- A write of PGL.CTRL of a core outside the safety pair: SATST, a permitted MODE, RUN. -/
theorem Dev.pglCtrlWrite_customer (hcust : d.safetyCore k = false) (w : Word) :
    let p := pglPage k
    let e := d.setFld p PGL_CTRL_SATST (bitsOf w 4 4)
    let e := if bitsOf w 3 2 ≠ e.coreMode k ∧ e.modeAllowed k (bitsOf w 3 2) = true then e.setFld p PGL_CTRL_MODE (bitsOf w 3 2) else e
    let e := e.setFld p PGL_CTRL_RUN (bitsOf w 0 0)
    d.pglCtrlWrite k w =
      if bitsOf w 0 0 = 0 then
        if e.coreRuns k = true then e.coreStop k pglStopped else if e.coreState k = pglTrapped then e.setCoreState k pglStopped else e
      else if e.coreRuns k = false ∧ e.coreState k ≠ pglParked ∧ e.on (pglTerrace k) PGL_LOAD_STATUS_CODE_VALID = true then
        e.coreStart k (e.fld p PGL_ENTRY_ENTRY) else e := by
  intro p e0 e1 e
  have hmode : (d.pglModeWrite k w).setFld p PGL_CTRL_RUN (bitsOf w 0 0) = e := by
    simp only [Dev.pglModeWrite, hcust, Bool.false_eq_true, if_false, Bool.and_eq_true, bne_iff_ne, e, e1, e0, p]
  rw [Dev.pglCtrlWrite, hcust, if_neg (by decide)]
  simp only [hmode, p, beq_iff_eq, Bool.and_eq_true, Bool.not_eq_true', bne_iff_ne, and_assoc]

theorem pglCtrl_defined : ∀ k < 32, (regDef (pglPage k) PGL_CTRL).isSome = true := by decide +kernel
theorem pglLoadCtrl_defined : ∀ tr < 4, (regDef (pglTerrace (8 * tr)) PGL_LOAD_CTRL).isSome = true := by decide +kernel

theorem Dev.ownOf_pergola (m : Mem) {p off : Nat} {w : Word} (hp : 0x58 ≤ p ∧ p < 0x78) {r : RegDef} (hr : regDef p off = some r) :
    d.ownOf m p off w = d.pglWrite m r p off w := by
  simp only [Dev.ownOf, hr, Dev.ownWrite, Bool.and_eq_true, decide_eq_true_eq, show ¬ p < 8 by omega, show ¬ (16 ≤ p ∧ p < 80) by omega,
    show ¬ p < 88 by omega, show p < 120 by omega, if_true, if_false]

theorem Dev.ownOf_pglCtrl (m : Mem) (hk : k < 32) (w : Word) : d.ownOf m (pglPage k) PGL_CTRL w = d.pglCtrlWrite k w := by
  obtain ⟨r, hr⟩ := Option.isSome_iff_exists.1 (pglCtrl_defined k hk)
  rw [Dev.ownOf_pergola m (by unfold pglPage; omega) hr, Dev.pglWrite, if_pos (beq_self_eq_true _), pglPage, Nat.add_sub_cancel_left]

theorem Dev.ownOf_pglLoad (m : Mem) (htr : tr < 4) :
    d.ownOf m (pglTerrace (8 * tr)) PGL_LOAD_CTRL 1 = d.loadBegin m tr (4096 * d.fld (pglTerrace (8 * tr)) PGL_LOAD_SRC_BASE) := by
  obtain ⟨r, hr⟩ := Option.isSome_iff_exists.1 (pglLoadCtrl_defined tr htr)
  have hfirst : (pglTerrace (8 * tr) % 8 == 0) = true ∧ (pglTerrace (8 * tr) - 0x58) / 8 = tr := by
    simp only [pglTerrace, beq_iff_eq]; omega
  have hoff : (PGL_LOAD_CTRL == PGL_CTRL) = false := by decide
  have hset : bitAt (1 : Word).toNat 0 = true := by decide
  rw [Dev.ownOf_pergola m (by unfold pglTerrace; omega) hr]
  simp only [Dev.pglWrite, hoff, hfirst, hset, beq_self_eq_true, Bool.and_self, Bool.false_eq_true, if_true, if_false, Dev.pglLoad]

/-- A load of customer code that passed its checks. -/
theorem Dev.loadEnd_good {l : PglLoad} (hload : SMap.get none d.pglLoads tr = some l) (hcode : l.code = 0) :
    let p := pglTerrace (8 * tr)
    let e := Dev.setFld { d with pglLoads := SMap.put none d.pglLoads tr none } p PGL_LOAD_STATUS_BUSY 0
    e.isSafetyLoad tr l = false →
    d.loadEnd tr =
      let e := (List.range 8).foldl (fun (e : Dev) j => if e.safetyCore (8 * tr + j) = false
        then e.setFld (pglPage (8 * tr + j)) PGL_ENTRY_ENTRY l.entry else e)
        ((e.setFld p PGL_LOAD_STATUS_CODE_VALID 1).setFld p PGL_LOAD_STATUS_ERR 0)
      ((e.setRegN p PGL_CODE_VERSION l.version).noteImage (1 + tr) l.digest l.signer).raise p 8 := by
  intro p e hcust
  simp only [e, p] at hcust
  simp only [e, p, Dev.loadEnd, hload, hcode, hcust, Bool.false_eq_true, if_true, if_false, beq_iff_eq]

/-- A load that failed a check clears its range and records the error. -/
theorem Dev.loadEnd_bad {l : PglLoad} (hload : SMap.get none d.pglLoads tr = some l) (hcode : l.code ≠ 0) :
    let p := pglTerrace (8 * tr)
    let e := Dev.setFld { d with pglLoads := SMap.put none d.pglLoads tr none } p PGL_LOAD_STATUS_BUSY 0
    d.loadEnd tr =
      let c := (List.range l.count).foldl (fun (c : SMap (BitVec 48)) i => SMap.put 0 c (65536 * tr + l.first + i) 0) e.code
      ((Dev.setFld { e with code := c } p PGL_LOAD_STATUS_ERR 5).verifyNote l.code).raise p 9 := by
  intro p e
  simp only [Dev.loadEnd, hload, hcode, if_false]
  rfl

theorem Dev.pglAccess_waits {ini : Initiator} {n : Nat} (hk : k < 32) (hn : n < 49152) (hlive : d.gated (4 + k / 8) = false)
    (hrun : d.coreState k = pglRunning) (v : Option W24) :
    d.pglAccess ini k n v = d.setCore k { d.getCore k with access := (d.getCore k).access ++ [⟨ini, n, v, 0⟩] } := by
  simp only [Dev.pglAccess, Nat.not_le.2 hk, Nat.not_le.2 hn, hlive, hrun, decide_false, Bool.or_self, beq_self_eq_true, Bool.false_eq_true,
    if_true, if_false]

theorem Dev.pglAccess_now {ini : Initiator} {n : Nat} (hk : k < 32) (hn : n < 49152) (hlive : d.gated (4 + k / 8) = false)
    (hrun : d.coreState k ≠ pglRunning) (v : Option W24) : d.pglAccess ini k n v = d.accessDo k ⟨ini, n, v, 0⟩ := by
  simp only [Dev.pglAccess, Nat.not_le.2 hk, Nat.not_le.2 hn, hlive, beq_eq_false_iff_ne.2 hrun, decide_false, Bool.or_self,
    Bool.false_eq_true, if_false]

end

/-- Words of code memory. -/
theorem placeOf_code {tr off : Nat} (htr : tr < 4) (hoff : off < 0x80000) (hal : off % 4 = 0) :
    placeOf .control ((0x20800000 + 0x80000 * tr + off) % 2 ^ 32) = .code tr off := by
  have hplace : (0x20800000 + 0x80000 * tr + off - 0x20800000) / 0x80000 = tr ∧ (0x20800000 + 0x80000 * tr + off) % 0x80000 = off := by omega
  have hal4 : (0x20800000 + 0x80000 * tr + off) % 4 = 0 := by omega
  rw [Nat.mod_eq_of_lt (by omega)]
  simp only [placeOf, hal4, hplace, bne_self_eq_false, Bool.false_eq_true, if_false, Bool.and_eq_true, decide_eq_true_eq,
    show ¬ 0x20800000 + 0x80000 * tr + off < 0x800000 by omega,
    show ¬ (0x10000000 ≤ 0x20800000 + 0x80000 * tr + off ∧ 0x20800000 + 0x80000 * tr + off < 0x14000000) by omega,
    show ¬ (0x18000000 ≤ 0x20800000 + 0x80000 * tr + off ∧ 0x20800000 + 0x80000 * tr + off < 0x18100000) by omega,
    show ¬ (0x18200000 ≤ 0x20800000 + 0x80000 * tr + off ∧ 0x20800000 + 0x80000 * tr + off < 0x18208000) by omega,
    show ¬ (0x20000000 ≤ 0x20800000 + 0x80000 * tr + off ∧ 0x20800000 + 0x80000 * tr + off < 0x20800000) by omega,
    show 0x20800000 ≤ 0x20800000 + 0x80000 * tr + off ∧ 0x20800000 + 0x80000 * tr + off < 0x20A00000 by omega, and_self, if_true,
    beq_self_eq_true, Bool.true_or]

theorem exec_codeWindowWrite {s : State} {t a : Nat} (h : s.up t = true) (hlo : 0x20800000 ≤ a) (hhi : a < 0x20A00000) (w : Word) :
    exec (.codeWindowWrite t a w) s = .next ((s.ready t).portWrites .control [w] a) := by
  have hexec : exec (.codeWindowWrite t a w) s = s.cmdS t (okCodeWindow a) (fun s => s.portWrites .control [w] a) := rfl
  rw [hexec, show okCodeWindow a = true by simp [okCodeWindow, hlo, hhi], State.cmdS_up h]

theorem State.placeWrite_code {s : State} {tr off : Nat} (hlive : s.dev.down (4 + tr) = false) (w : Word) :
    s.placeWrite .control (.code tr off) w = s.put (s.dev.bumpFirst (pglTerrace (8 * tr)) PGL_CODE_WR_IGN 11) := by
  have hdead : s.dev.placeDead (.code tr off) = false := hlive
  simp only [State.placeWrite, hdead, Bool.false_eq_true, if_false, State.put]

/-- A row of PGL.CTRL of a core. -/
theorem State.rowWrite_core {s : State} {t k : Nat} {ini : Initiator} (hk : k < 32) (h : s.writable t ini (pglPage k) PGL_CTRL = true) (w : Word) :
    s.rowWrite t (okCore k) ini (pglPage k) PGL_CTRL w = .next (s.put ((s.landed t (pglPage k) PGL_CTRL).pglCtrlWrite k w)) := by
  rw [show okCore k = true from decide_eq_true hk, State.rowWrite_ownOf h rfl, Dev.ownOf_pglCtrl s.mem hk]

theorem exec_pglMemoryAccess {s : State} {t k : Nat} {ini : Initiator} (h : s.up t = true) (hk : k < 32) (hini : ini = .control ∨ ini = .dma)
    (n : Nat) (v : Option W24) : exec (.pglMemoryAccess t ini k n v) s = .next (s.put ((s.begun t).pglAccess ini k n v)) := by
  have hok : (okCore k && okFabric ini) = true := by
    rw [show okCore k = true from decide_eq_true hk]
    rcases hini with rfl | rfl <;> rfl
  exact State.cmd_ok h hok fun d => d.pglAccess ini k n v

/-- Settles O49: writes of PGL.CTRL and of the load register, the end of a load, and the accesses to a core's memories. -/
theorem coreCommandsComplete : Obligations.CoreCommandsComplete := by
  unfold Obligations.CoreCommandsComplete
  refine ⟨fun s t k ini w hk h => ?_, fun s t tr ini htr h => ?_, fun s t tr l htr h => ?_, fun s t k n ini v hk hn h hini => ?_,
    fun s t tr off w htr hoff hal h hlive => ?_⟩
  · intro d hcust after
    have hctrl (v : Word) : s.rowWrite t (okCore k) ini (pglPage k) PGL_CTRL v = .next (s.put (after v)) :=
      (State.rowWrite_core hk h v).trans (State.answers_congr (Dev.pglCtrlWrite_customer hcust v))
    exact ⟨hctrl _, hctrl _, hctrl _⟩
  · exact (State.rowWrite_terrace htr h rfl _).trans (State.answers_congr (Dev.ownOf_pglLoad s.mem htr))
  · intro d p hload e
    have hexec := State.cmd_ok h (show okTerrace tr = true from decide_eq_true htr) fun d => d.loadEnd tr
    exact ⟨fun hcode hcust => hexec.trans (State.answers_congr (Dev.loadEnd_good hload hcode hcust)),
      fun hcode => hexec.trans (State.answers_congr (Dev.loadEnd_bad hload hcode))⟩
  · intro d hlive e
    have hexec := exec_pglMemoryAccess h hk hini n
    exact ⟨fun hrun => ⟨(hexec _).trans (State.answers_congr (Dev.pglAccess_waits hk hn hlive hrun _)),
        (hexec _).trans (State.answers_congr (Dev.pglAccess_waits hk hn hlive hrun _))⟩,
      fun hrun => ⟨(hexec _).trans (State.answers_congr (Dev.pglAccess_now hk hn hlive hrun _)),
        (hexec _).trans (State.answers_congr (Dev.pglAccess_now hk hn hlive hrun _))⟩⟩
  · rw [exec_codeWindowWrite h (by omega) (by omega), State.portWrites_reached (s := s.ready t) rfl, State.writeWords_one,
      placeOf_code htr hoff hal, State.placeWrite_code (s := s.ready t) hlive]
    rfl

end Sys2Proof.Machine
end

section
/-! The DMA channels (15_dma.md). -/
namespace Sys2Proof.Machine
-- A `decide +kernel` waits for every proof before it: in turn, none of them waits in a thread of its own.
set_option Elab.async false

/-! ### Descriptors, responses and errors -/

section
variable {d : Dev} {c : Nat}

theorem Dev.dmaFetchDesc_eq {m : Mem} (hc : c < 24) (hstate : d.dmaState c = dmaFetch) (hreset : (d.getDma c).resetDue = false)
    (hpwr : (d.getDma c).pwr = false) (hdesc : (d.getDma c).desc = none) :
    let x := d.getDma c
    let p := dmaPage c
    let w (i : Nat) : Word := memWord m (x.fetchAt + 4 * i)
    let ds := parseDesc x.fetchAt w
    ((descReserved w = true ∨ ds.ok = false) →
      d.dmaFetchDesc m c = (d.setDma c { x with desc := none, fetchTries := 0 }).dmaHaltKeep c 4 ds.addr ds.addr ds.count) ∧
    (descReserved w = false → ds.ok = true → d.dmaFetchDesc m c =
      let e := d.setDma c { x with
        desc := some ds, moved := 0, ord := x.ord + 1, fetchTries := 0, last := false
        opens := x.opens ++ [⟨x.ord + 1, ds.addr, ds.doneEv, ds.retry, false, ds.count⟩] }
      let e := (e.setRegN p DMA_CUR_DESC ds.addr).setFld p DMA_COUNT_REM_COUNT ds.count
      if ds.waitTrig = false then e.setDmaState c dmaRun
      else if e.on p DMA_STATUS_TRIG_PENDING = true then (e.setFld p DMA_STATUS_TRIG_PENDING 0).setDmaState c dmaRun
      else e.setDmaState c dmaWait) := by
  intro x p w ds
  refine ⟨fun hbad => ?_, fun hres hok => ?_⟩
  · have hbad' : (descReserved w || !ds.ok) = true := by
      rcases hbad with h | h <;> rw [h]
      · rfl
      · exact Bool.or_true _
    simp only [w, ds, x] at hbad' ⊢
    simp only [Dev.dmaFetchDesc, Nat.not_le.2 hc, hstate, hreset, hpwr, hdesc, hbad', decide_false, bne_self_eq_false, Bool.or_self,
      Bool.false_and, Bool.false_eq_true, if_true, if_false]
  · simp only [w, ds, x] at hres hok ⊢
    simp only [Dev.dmaFetchDesc, Nat.not_le.2 hc, hstate, hreset, hpwr, hdesc, hres, hok, p, decide_false, bne_self_eq_false, Bool.or_self,
      Bool.not_true, Bool.not_eq_true', Bool.false_and, Bool.false_eq_true, if_false]

theorem Dev.dmaResponse_good (hc : c < 24) {b : DmaBeat} {bs : List DmaBeat} (hbeats : (d.getDma c).beats = b :: bs) (hgood : b.err = false) :
    d.dmaResponse c =
      let e := d.setDma c { d.getDma c with beats := bs }
      (if b.ring = 0 then e else e.setRegN (dmaPage c) DMA_WR_PTR ((e.fld (dmaPage c) DMA_WR_PTR_PTR + b.ring) % e.ringLen c)).dmaSettle c := by
  simp only [Dev.dmaResponse, hbeats, hgood, Nat.not_le.2 hc, decide_false, Bool.or_self, Bool.false_eq_true, if_false]

theorem Dev.dmaFetchFails_fetch (hstate : d.dmaState c = dmaFetch) :
    let x := d.getDma c
    d.dmaFetchFails c = if x.fetchTries < 3 then (d.setDma c { x with fetchTries := x.fetchTries + 1 }).bump (dmaPage c) DMA_RETRY_CNT
      else (d.setDma c { x with desc := none, fetchTries := 0 }).dmaHaltKeep c 3 x.fetchAt x.fetchAt (d.fld (dmaPage c) DMA_COUNT_REM_COUNT) := by
  simp only [Dev.dmaFetchFails, hstate, bne_self_eq_false, Bool.false_eq_true, if_false]

end

section
variable {s : State} {c : Nat} {b : DmaBeat} {bs : List DmaBeat} (hbeats : (s.dev.getDma c).beats = b :: bs)
include hbeats

theorem State.dmaBeatFails_drain (hstate : s.dev.dmaState c = dmaDrain) :
    s.dmaBeatFails c = s.put (((s.dev.bump (dmaPage c) DMA_RETRY_CNT).setDma c { s.dev.getDma c with beats := [], opens := [] }).dmaSettle c) := by
  simp only [State.dmaBeatFails, hbeats, hstate, beq_self_eq_true, if_true, State.put]

/-- The last try of a beat. -/
theorem State.dmaBeatFails_last (hstate : s.dev.dmaState c ≠ dmaDrain) (hpwr : (s.dev.getDma c).pwr = false) (hlast : b.desc.retry ≤ b.tries)
    {o : DmaOpen} (hopen : (s.dev.getDma c).opens.find? (fun o => o.ord == b.ord) = some o) :
    s.dmaBeatFails c = s.put (s.dev.dmaHalt c (if o.issued = true then 2 else 1) (if b.data = none then b.src else b.dst) b.desc.addr o.rem) := by
  have haddr : b.failAddr = if b.data = none then b.src else b.dst := by
    cases h : b.data <;> simp [DmaBeat.failAddr, h]
  simp only [State.dmaBeatFails, hbeats, beq_eq_false_iff_ne.2 hstate, hpwr, Nat.not_lt.2 hlast, hopen, haddr, Bool.false_eq_true, if_false,
    State.put]

end

theorem exec_dmaErrorResponse {s : State} {t c : Nat} (h : s.up t = true) (hc : c < 24) (fetch : Bool) :
    exec (.dmaErrorResponse t c fetch) s
      = .next (if fetch then s.put ((s.begun t).dmaFetchFails c) else (s.ready t).dmaBeatFails c) := by
  have hexec : exec (.dmaErrorResponse t c fetch) s = s.cmdS t (okDma c) (fun s => s.dmaError c fetch) := rfl
  rw [hexec, show okDma c = true from decide_eq_true hc, State.cmdS_up h, State.dmaError, if_neg (Nat.not_le.2 hc)]
  rfl

/-! ### Writes of the channels' registers -/

theorem dma_defined : ∀ off ∈ [DMA_CTRL, DMA_RING_BASE, DMA_RING_CFG, DMA_RD_PTR], ∀ c < 24, (regDef (dmaPage c) off).isSome = true := by
  decide +kernel

section
variable {d : Dev} {c : Nat} (m : Mem)

theorem Dev.ownOf_dma {p off : Nat} {w : Word} (hp : 0x97 ≤ p ∧ p < 0xB0) {r : RegDef} (hr : regDef p off = some r) :
    d.ownOf m p off w = d.dmaWrite r p off w := by
  simp only [Dev.ownOf, hr, Dev.ownWrite, Bool.and_eq_true, decide_eq_true_eq, beq_iff_eq, show ¬ p < 8 by omega, show ¬ (16 ≤ p ∧ p < 80) by omega,
    show ¬ p < 88 by omega, show ¬ p < 120 by omega, show ¬ p < 133 by omega, show ¬ p = 133 by omega, show ¬ p < 142 by omega,
    show ¬ p < 147 by omega, show ¬ p < 151 by omega, show p < 176 by omega, if_true, if_false]

/-- A register of a channel's page but RD_PTR: its merge, and then what it does. -/
theorem Dev.ownOf_dmaChannel {off : Nat} (hoff : off ∈ [DMA_CTRL, DMA_RING_BASE, DMA_RING_CFG]) (hc : c < 24) (w : Word) :
    d.ownOf m (dmaPage c) off w = if off = DMA_CTRL then (Dev.merged (dmaPage c) off w d).dmaCtrlWritten c
      else (Dev.merged (dmaPage c) off w d).ringWritten c := by
  have hp : (dmaPage c == 0xAF) = false ∧ dmaPage c - 0x97 = c := by simp only [dmaPage, beq_eq_false_iff_ne]; omega
  obtain ⟨r, hr⟩ := Option.isSome_iff_exists.1 (dma_defined off (List.mem_append_left [DMA_RD_PTR] hoff) c hc)
  rw [Dev.ownOf_dma m (by unfold dmaPage; omega) hr]
  simp only [Dev.dmaWrite, Dev.merged, hr, hp, Bool.false_eq_true, if_false]
  simp only [List.mem_cons, List.not_mem_nil, or_false] at hoff
  rcases hoff with rfl | rfl | rfl <;> rfl

theorem Dev.ownOf_dmaRdPtr (hc : c < 24) (w : Word) : d.ownOf m (dmaPage c) DMA_RD_PTR w = d.rdPtrWrite c (bitsOf w 22 0) := by
  have hp : (dmaPage c == 0xAF) = false ∧ dmaPage c - 0x97 = c := by simp only [dmaPage, beq_eq_false_iff_ne]; omega
  obtain ⟨r, hr⟩ := Option.isSome_iff_exists.1 (dma_defined DMA_RD_PTR (by decide) c hc)
  rw [Dev.ownOf_dma m (by unfold dmaPage; omega) hr]
  simp only [Dev.dmaWrite, hp, beq_self_eq_true, Bool.false_eq_true, if_true, if_false]

theorem Dev.ownOf_dmaCommon (w : Word) : d.ownOf m 0xAF DMA_COMMON_CTRL w = (Dev.merged 0xAF DMA_COMMON_CTRL w d).dmaCommonWritten := by
  obtain ⟨r, hr⟩ := Option.isSome_iff_exists.1 (show (regDef 0xAF DMA_COMMON_CTRL).isSome = true by decide +kernel)
  rw [Dev.ownOf_dma m (by decide) hr, Dev.merged_some hr]
  rfl

end

/-- A row of a channel's page. -/
theorem State.rowWrite_dma {s : State} {t c off : Nat} {ini : Initiator} (hc : c < 24) (h : s.servedTo t ini = true) (ho : isOwn off = true)
    (w : Word) : s.rowWrite t (okDma c) ini (dmaPage c) off w = .next (s.put ((s.begun t).ownOf s.mem (dmaPage c) off w)) := by
  rw [show okDma c = true from decide_eq_true hc, State.rowWrite_page h (by unfold dmaPage; omega) ho]

/-- Settles O50: fetches, responses and errors by their cases, and writes by the register's merge and own act. -/
theorem dmaCommandsComplete : Obligations.DmaCommandsComplete := by
  unfold Obligations.DmaCommandsComplete
  refine ⟨fun s t n ini w hn h => ?_, fun s t ini h => ?_, fun s t n hn h => ?_, fun s t n b bs hn h => ?_, fun s t n hn h => ?_,
    fun s t n ini base w hn h => ?_, fun s t n ini w hn h => ?_⟩
  · intro after
    have hctrl (v : Word) : s.rowWrite t (okDma n) ini (dmaPage n) DMA_CTRL v = .next (s.put (after v)) := by
      refine (State.rowWrite_dma hn h rfl v).trans (State.answers_congr ?_)
      rw [Dev.ownOf_dmaChannel s.mem (by decide) hn, if_pos rfl]
      simp only [Dev.dmaCtrlWritten, Bool.not_eq_true', beq_iff_eq]
      rfl
    exact ⟨hctrl _, hctrl _⟩
  · intro e hoff
    refine (State.rowWrite_page h (by decide) rfl 0).trans (State.answers_congr ?_)
    rw [Dev.ownOf_dmaCommon, Dev.dmaCommonWritten, if_neg (by rw [show Dev.on _ _ _ = false from hoff]; decide)]
  · intro d x p w ds hstate hreset hpwr hdesc
    obtain ⟨hbad, hgood⟩ := Dev.dmaFetchDesc_eq (m := s.mem) hn hstate hreset hpwr hdesc
    have hexec : exec (.dmaDescriptorFetch t n) s = .next (s.put (d.dmaFetchDesc s.mem n)) := by
      have hrow : exec (.dmaDescriptorFetch t n) s = s.cmdM t (okDma n) (fun m d => d.dmaFetchDesc m n) := rfl
      rw [hrow, show okDma n = true from decide_eq_true hn, State.cmdM_up h]
    exact ⟨fun h => hexec.trans (State.answers_congr (hbad h)), fun hres hok => hexec.trans (State.answers_congr (hgood hres hok))⟩
  · intro d x p hbeats
    refine ⟨fun hgood => ?_, fun hstate => ?_, fun o hstate hpwr hlast hopen => ?_⟩
    · exact (State.cmd_ok h (decide_eq_true hn) fun d => d.dmaResponse n).trans (State.answers_congr (Dev.dmaResponse_good hn hbeats hgood))
    · exact (exec_dmaErrorResponse h hn false).trans (congrArg _ (State.dmaBeatFails_drain (s := s.ready t) hbeats hstate))
    · exact (exec_dmaErrorResponse h hn false).trans (congrArg _ (State.dmaBeatFails_last (s := s.ready t) hbeats hstate hpwr hlast hopen))
  · intro d x hstate
    have hexec := (exec_dmaErrorResponse h hn true).trans (State.answers_congr (Dev.dmaFetchFails_fetch hstate))
    exact ⟨fun hmore => hexec.trans (State.answers_congr (if_pos hmore)), fun hlast => hexec.trans (State.answers_congr (if_neg (Nat.not_lt.2 hlast)))⟩
  · intro off e
    have hoff : off ∈ [DMA_CTRL, DMA_RING_BASE, DMA_RING_CFG] ∧ off ≠ DMA_CTRL ∧ isOwn off = true := by cases base <;> decide
    obtain ⟨hmem, hnot, hown⟩ := hoff
    refine (State.rowWrite_dma hn h hown w).trans (State.answers_congr ?_)
    rw [Dev.ownOf_dmaChannel s.mem hmem hn, if_neg hnot]
    simp only [Dev.ringWritten, Bool.not_eq_true', List.isEmpty_iff]
    rfl
  · intro d v
    refine (State.rowWrite_dma hn h rfl w).trans (State.answers_congr ?_)
    rw [Dev.ownOf_dmaRdPtr s.mem hn]
    simp only [Dev.rdPtrWrite, Bool.or_eq_true, bne_iff_ne, decide_eq_true_eq]
    rfl

end Sys2Proof.Machine
end

section
/-! Lodge's verdicts, field sets and coverage (16_lodge_safety.md). -/
namespace Sys2Proof.Machine

theorem Config.us_1300 : Config.us 1300 = 104000000 := rfl
theorem Config.us_500 : Config.us 500 = 40000000 := rfl
theorem Config.ms_2 : Config.ms 2 = 160000000 := rfl

section
variable {d : Dev} {m : Mem}

/-- The oldest slot whose records are all in is judged, its evaluated cells counted, the comparison and the outputs follow. -/
theorem Dev.channelA_oldest {x : LdgSlot} (h : d.ldg.slots.find? (fun y => y.a.isNone && y.due == 0) = some x) :
    let n := d.fld 0xB0 LDG_CTRL_OBJ_M1 + 1
    let mask := bedMask x.det0 n + bedMask x.det1 n * 2 ^ 64 + bedMask x.det2 n * 2 ^ 128
    let judged := d.ldgSlot x.num (fun y => { y with a := some (d.now, mask) })
    let counted := match x.sector with
      | none => judged
      | some sec => (List.range 64).foldl (fun (e : Dev) b => if x.evaluated b = true then
          (if e.coverageLate m (512 * b + sec) = true then e.ldgFault 6 else e).countCell mask (512 * b + sec) b else e) judged
    let after := counted.fieldFollow.contamSlot x
    d.channelA m = ((if x.trigAt + 104000000 < after.now then after.ldgFault 2 else after).ldgCompare x.num).ldgDecide m := by
  intro n mask judged counted after
  simp only [Dev.channelA, h, Config.us_1300, Dev.evalCell, cellOf] <;> rfl

theorem Dev.latencyExpiry_late {x : LdgSlot} (hx : x ∈ d.ldg.slots) (hlate : x.trigAt + 104000000 < d.now) :
    d.latencyExpiry = Dev.ldgFault 2
      { d with ldg := { d.ldg with slots := d.ldg.slots.filter (fun y => decide (d.now ≤ y.trigAt + 104000000)) } } :=
  if_pos (List.any_eq_true.2 ⟨x, hx, decide_eq_true hlate⟩)

theorem Dev.channelBTimeout_late {x : LdgSlot} (hx : x ∈ d.ldg.slots) {ta mask : Nat} (ha : x.a = some (ta, mask)) (hlate : ta + 40000000 < d.now) :
    d.channelBTimeout = d.ldgFault 1 := by
  refine if_pos (List.any_eq_true.2 ⟨x, hx, ?_⟩)
  simp only [ha, Config.us_500, hlate, decide_true]

theorem Dev.outputTimeout_late {k ta : Nat} (hk : k = 30 ∨ k = 31) (hat : (SMap.get {} d.ldg.cores k).outAt = some ta)
    (hlate : ta + 160000000 < d.now) : d.outputTimeout = d.ldgFault 1 := by
  refine if_pos (List.any_eq_true.2 ⟨k, by simpa using hk, ?_⟩)
  simp only [hat, Config.ms_2, hlate, decide_true]

theorem Dev.fsRecheck_active {n : Nat} (h : d.ldg.active = some n) :
    d.fsRecheck m = if d.fsCheckA m n = true ∧ d.fsCheckB (d.ldg.ready.getD n) = true then d else d.ldgFault 5 := by
  simp only [Dev.fsRecheck, h, Bool.and_eq_true]

/-- A protected cell not evaluated for SCAN_MAX while a pair is ON. -/
theorem Dev.coverageExpiry_late {p cell : Nat} (hp : p < 2) (hcell : cell < 32768) (hon : (d.ldgPair p).on = true)
    (hprot : d.protectedCell m cell = true)
    (hlate : (if SMap.get 0 d.ldg.lastEval cell = 0 then d.ldg.tookAt else SMap.get 0 d.ldg.lastEval cell) + d.scanMax < d.now) :
    d.coverageExpiry m cell = d.ldgFault 6 := by
  have hany : ((List.range 2).any fun p => (d.ldgPair p).on) = true := List.any_eq_true.2 ⟨p, List.mem_range.2 hp, hon⟩
  have hcover : d.coverageLate m cell = true := by
    simp only [Dev.coverageLate, hany, hcell, hprot, hlate, decide_true, Bool.and_self]
  rw [Dev.coverageExpiry, if_pos hcover]

theorem Dev.kind3_on (hon : d.ldgOn = true) :
    let lanes (o : Nat) : Nat := (List.range 8).foldl (fun a n => if bitAt d.ldg.raw (2 * n + o) = true then a + 2 ^ n else a) 0
    let e : PglEntry := ⟨[0xC00000, BitVec.ofNat 24 (lanes 1 + 256 * lanes 0 + 65536 * d.fld 0xB3 LDG_OSSD_STATUS_RB),
      BitVec.ofNat 24 (d.regN 0xB2 LDG_RX_CMD % 256 + 256 * d.netOk.toNat), BitVec.ofNat 24 (d.devTime / 80000000), 0, 0], none⟩
    d.kind3 = (d.pairPush 30 e).pairPush 31 e := by
  intro lanes e
  simp only [Dev.kind3, hon, Bool.not_true, Bool.false_eq_true, if_false, lanes, e, Config.ms, Nat.mul_one]

theorem Dev.fsPrepared_due {n : Nat} (hprep : d.ldg.prep = some n) (hon : d.ldgOn = true) :
    let e := Dev.copyHalves m n { d with ldg := { d.ldg with prep := none } }
    d.fsPrepared m = if e.fsCheckA m n = true ∧ e.fsCheckB n = true then Dev.switchFlag { e with ldg := { e.ldg with ready := some n } }
      else (e.ldgFault 5).switchFlag := by
  simp only [Dev.fsPrepared, hprep, hon, Bool.not_true, Bool.and_eq_true, Bool.false_eq_true, if_false]

/-- Pairs that have been clear for RESTART_MS may return, where the restart is not manual. -/
theorem Dev.restartExpiry_automatic (hon : d.ldgOn = true) (hauto : d.manualRestart = false) :
    d.restartExpiry m =
      let e := d.ldgDecide m
      ((List.range 2).foldl (fun (e : Dev) p =>
        match (e.ldgPair p).clearSince with
        | some a => if a + Config.ms (e.fld 0xB0 LDG_SCAN_CFG_RESTART_MS) ≤ e.now then e.setLdgPair p { e.ldgPair p with met := true } else e
        | none => e) e).ldgDecide m := by
  simp only [Dev.restartExpiry, hon, hauto, Bool.not_true, Bool.or_self, Bool.false_eq_true, if_false] <;> rfl

end

/-- Settles O52: each clause is what its command does when its condition has come. -/
theorem protectiveFieldCommandsComplete : Obligations.ProtectiveFieldCommandsComplete := by
  unfold Obligations.ProtectiveFieldCommandsComplete
  refine ⟨fun s t x h => ?_, fun s t x h => ?_, fun s t k ta h hk => ?_, fun s t n h => ?_, fun s t p cell h hp hcell => ?_, fun s t h => ?_,
    fun s t n h => ?_, fun s t h => ?_, fun s t h => ?_⟩
  · intro d hx n mask judged counted after
    exact (State.cmdM_up h fun m d => d.channelA m).trans (State.answers_congr (Dev.channelA_oldest hx))
  · intro d hx
    exact ⟨fun hlate => (State.cmd_up h Dev.latencyExpiry).trans (State.answers_congr (Dev.latencyExpiry_late hx hlate)),
      fun ta mask ha hlate => (State.cmd_up h Dev.channelBTimeout).trans (State.answers_congr (Dev.channelBTimeout_late hx ha hlate))⟩
  · intro d hat hlate
    exact (State.cmd_up h Dev.outputTimeout).trans (State.answers_congr (Dev.outputTimeout_late hk hat hlate))
  · intro d hactive
    exact (State.cmdM_up h fun m d => d.fsRecheck m).trans (State.answers_congr (Dev.fsRecheck_active hactive))
  · intro d hon hprot hlate
    have hexec : exec (.coverageExpiry t cell) s = .next (s.put (d.coverageExpiry s.mem cell)) := by
      have hrow : exec (.coverageExpiry t cell) s = s.cmdM t (okFieldCell cell) (fun m d => d.coverageExpiry m cell) := rfl
      rw [hrow, show okFieldCell cell = true from decide_eq_true hcell, State.cmdM_up h]
    exact hexec.trans (State.answers_congr (Dev.coverageExpiry_late hp hcell hon hprot hlate))
  · intro d hon lanes e
    exact (State.cmd_up h Dev.kind3).trans (State.answers_congr (Dev.kind3_on hon))
  · intro d hprep hon e
    exact (State.cmdM_up h fun m d => d.fsPrepared m).trans (State.answers_congr (Dev.fsPrepared_due hprep hon))
  · exact State.cmd_up h Dev.overlapEnd
  · intro d hon hauto
    exact (State.cmdM_up h fun m d => d.restartExpiry m).trans (State.answers_congr (Dev.restartExpiry_automatic hon hauto))

end Sys2Proof.Machine
end

section
/-! Lodge's outputs, test pulses and inputs (16_lodge_safety.md). -/
namespace Sys2Proof.Machine

theorem Config.us_100 : Config.us 100 = 8000000 := rfl
theorem Config.us_300 : Config.us 300 = 24000000 := rfl
theorem Config.ms_1 : Config.ms 1 = 80000000 := rfl

section
variable {d : Dev} {m : Mem} {o : Nat}

/-! ### Outputs -/

theorem Dev.windowStart_due (ho : o < 4) (hon : d.ldgOn = true) (hdue : d.edgeTime % 8000000000 = 2000000000 * o) :
    d.windowStart o =
      (d.setLdgOut o { d.ldgOut o with
        window := some d.now, pulse := d.ossdHigh o
        dueHigh := if d.ossdHigh o = true then none else (d.ldgOut o).dueHigh }).setFld
        0xB3 ⟨LDG_OSSD_STATUS, 8 + o, 8 + o⟩ (d.ossdHigh o).toNat := by
  have hdue' : (d.edgeTime % Config.ms 100 != Config.ms 25 * o) = false := by
    rw [bne_eq_false_iff_eq]; exact hdue
  simp only [Dev.windowStart, hon, hdue', show ¬ 3 < o by omega, decide_false, Bool.not_true, Bool.or_self, Bool.false_eq_true, if_false]

theorem Dev.windowEnd_due {a : Nat} (hwindow : (d.ldgOut o).window = some a) (hdue : a + 24000000 ≤ d.now) :
    let x := d.ldgOut o
    let e := (d.setLdgOut o { x with
      window := none, pulse := false, held := false
      dueHigh := if x.pulse = true ∨ x.held = true then some (d.now + 8000000, x.pulse) else x.dueHigh }).setFld
        0xB3 ⟨LDG_OSSD_STATUS, 8 + o, 8 + o⟩ 0
    d.windowEnd m o = Dev.ldgDecide m ((List.range 2).foldl Dev.pairFollow
      (if x.pulse = true ∧ d.bit 0xB3 LDG_OSSD_STATUS (4 + o) = true then e.ldgFault 16 else e)) := by
  simp only [Dev.windowEnd, hwindow, Config.us_300, Config.us_100, Nat.not_lt.2 hdue, if_false, Bool.or_eq_true, Bool.and_eq_true]

/-- With no readback outstanding nothing of it falls due. -/
theorem Dev.readbackDue_none (hhigh : (d.ldgOut o).dueHigh = none) (hlow : (d.ldgOut o).dueLow = none) : d.readbackDue o = d := by
  simp only [Dev.readbackDue, hhigh, hlow]

/-- A readback within the first 100 us of a pulse is taken. -/
theorem Dev.readbackChange_pulse {level : Bool} (ho : o < 4) (hlodge : d.hasLodge = true) (hhigh : (d.ldgOut o).dueHigh = none)
    (hlow : (d.ldgOut o).dueLow = none) {a : Nat} (hpulse : (d.ldgOut o).pulse = true) (hwindow : (d.ldgOut o).window = some a)
    (hearly : d.now ≤ a + 8000000) :
    d.readbackChange m o level = (d.setFld 0xB3 ⟨LDG_OSSD_STATUS, 4 + o, 4 + o⟩ level.toNat).ldgDecide m := by
  have hlate : ¬ a + 8000000 < (d.setFld 0xB3 ⟨LDG_OSSD_STATUS, 4 + o, 4 + o⟩ level.toNat).now := Nat.not_lt.2 hearly
  simp only [Dev.readbackChange, hlodge, show ¬ 3 < o by omega, decide_false, Bool.not_true, Bool.or_self, Bool.false_eq_true, if_false,
    Dev.readbackDue_none hhigh hlow, hpulse, hwindow, Config.us_100, hlate, if_true, ite_self]

/-- A low reading of a steady high output is OSSD. -/
theorem Dev.readbackChange_low (ho : o < 4) (hlodge : d.hasLodge = true) (hhigh : (d.ldgOut o).dueHigh = none)
    (hlow : (d.ldgOut o).dueLow = none) (hpulse : (d.ldgOut o).pulse = false) (hwas : d.bit 0xB3 LDG_OSSD_STATUS (4 + o) = true) :
    let e := d.setFld 0xB3 ⟨LDG_OSSD_STATUS, 4 + o, 4 + o⟩ 0
    e.ossdHigh o = true → (List.range 4).any (fun q => q != o && (e.ldgOut q).pulse) = false →
    d.readbackChange m o false = (e.ldgFault 9).ldgDecide m := by
  intro e hsteady hothers
  simp only [e] at hsteady hothers ⊢
  simp only [Dev.readbackChange, hlodge, show ¬ 3 < o by omega, decide_false, Bool.not_true, Bool.or_self, Bool.false_eq_true, if_false,
    Dev.readbackDue_none hhigh hlow, hpulse, hwas, hhigh, hsteady, hothers, Bool.toNat_false, Bool.not_false, Option.isSome_none, if_true,
    Bool.true_beq]

/-! ### Test pulses and inputs -/

theorem Dev.tpoStart_due (ho : o < 4) (hon : d.ldgOn = true) (hdue : d.edgeTime % 640000000 = 160000000 * o) :
    d.tpoStart o = { d with ldg := { d.ldg with tpo := SMap.put none d.ldg.tpo o (some d.now) } } := by
  have hdue' : (d.edgeTime % Config.ms 8 != Config.ms 2 * o) = false := by
    rw [bne_eq_false_iff_eq]; exact hdue
  simp only [Dev.tpoStart, hon, hdue', show ¬ 3 < o by omega, decide_false, Bool.not_true, Bool.or_self, Bool.false_eq_true, if_false]

/-- What a test pulse of output o says of input i: shorted, or not. -/
def Dev.tpoJudge (o before during after : Nat) (e : Dev) (i : Nat) : Dev :=
  let n := i / 2
  let own := e.sinFld n (if i % 2 = 0 then LDG_SIN_CFG_TPO_A else LDG_SIN_CFG_TPO_B)
  let bad := if own = o then bitAt before i && bitAt during i else bitAt before i && !bitAt during i && bitAt after i
  let x := SMap.get {} e.ldg.pins n
  let b := 2 * o + i % 2
  let e : Dev := { e with ldg := { e.ldg with
    pins := SMap.put {} e.ldg.pins n { x with short := if bad = true then withBit x.short b else withoutBit x.short b } } }
  if bad = true then
    Dev.ldgFault 18 (Dev.setFld { e with ldg := { e.ldg with shortBits := withBit e.ldg.shortBits n } }
      0xB3 ⟨LDG_SIN_STATE, 24 + n, 24 + n⟩ 1)
  else e

theorem Dev.tpoEnd_due {a before during after : Nat} (htpo : SMap.get none d.ldg.tpo o = some a) (hdue : a + 24000000 ≤ d.now) :
    d.tpoEnd m o before during after =
      ((List.range 16).foldl (Dev.tpoJudge o before during after)
        { d with ldg := { d.ldg with tpo := SMap.put none d.ldg.tpo o none, raw := after % 65536 } }).ldgDecide m := by
  simp only [Dev.tpoEnd, htpo, Config.us_300, Nat.not_lt.2 hdue, if_false, beq_iff_eq]
  rfl

theorem Dev.filterChange_on {i : Nat} {level : Bool} (hi : i < 16) (hon : d.ldgOn = true) :
    let e : Dev := { d with ldg := { d.ldg with raw := if level = true then withBit d.ldg.raw i else withoutBit d.ldg.raw i } }
    let was := e.bit 0xB3 LDG_SIN_STATE (i / 2) == e.bit 0xB3 LDG_SIN_STATE (8 + i / 2)
    let e := e.setFld 0xB3 ⟨LDG_SIN_STATE, i / 2 + 8 * (i % 2), i / 2 + 8 * (i % 2)⟩ level.toNat
    let x : LdgPin := SMap.get {} e.ldg.pins (i / 2)
    let e := if was = false ∧ e.bit 0xB3 LDG_SIN_STATE (i / 2) = e.bit 0xB3 LDG_SIN_STATE (8 + i / 2) then
      { e with ldg := { e.ldg with pins := SMap.put {} e.ldg.pins (i / 2) { x with agreeSince := e.now } } } else e
    d.filterChange m i level = ((e.pinFollow (i / 2)).ldgSelect).ldgDecide m := by
  simp only [Dev.filterChange, hon, show ¬ 15 < i by omega, decide_false, Bool.not_true, Bool.or_self, Bool.false_eq_true, if_false,
    Bool.and_eq_true, Bool.not_eq_true', beq_iff_eq]

/-- What a ms does to the discrepancy count of a pair. -/
def Dev.tickPair (e : Dev) (n : Nat) : Dev :=
  let x := SMap.get {} e.ldg.pins n
  let same := e.bit 0xB3 LDG_SIN_STATE n == e.bit 0xB3 LDG_SIN_STATE (8 + n)
  Dev.pinFollow n { e with ldg := { e.ldg with pins := SMap.put {} e.ldg.pins n { x with
    disc := if same = true then 0 else min 511 (x.disc + 1)
    agreeSince := if same = true ∧ x.disc ≠ 0 then e.now else x.agreeSince } } }

theorem Dev.msTick_due (hon : d.ldgOn = true) (hdue : d.edgeTime % 80000000 = 0) :
    d.msTick m = (((List.range 4).foldl Dev.readbackDue ((List.range 8).foldl Dev.tickPair d)).ldgSelect).ldgDecide m := by
  have hdue' : (d.edgeTime % Config.ms 1 != 0) = false := by
    rw [bne_eq_false_iff_eq]; exact hdue
  have hpair : Dev.tickPair = fun (d : Dev) n =>
      let x := SMap.get {} d.ldg.pins n
      let differ := d.bit 0xB3 LDG_SIN_STATE n != d.bit 0xB3 LDG_SIN_STATE (8 + n)
      let x := { x with disc := if differ then min 511 (x.disc + 1) else 0
                        agreeSince := if !differ && x.disc != 0 then d.now else x.agreeSince }
      Dev.pinFollow n { d with ldg := { d.ldg with pins := SMap.put {} d.ldg.pins n x } } := by
    funext e n
    simp only [Dev.tickPair, bne, Bool.not_not, Bool.not_eq_true', Bool.eq_false_iff, ne_eq, ite_not, Bool.and_eq_true, beq_iff_eq]
  rw [hpair]
  simp only [Dev.msTick, hon, hdue', Bool.not_true, Bool.or_self, Bool.false_eq_true, if_false]

theorem Dev.discFault_due {n : Nat} (hn : n < 8) (hon : d.ldgOn = true) (hdue : d.discOf n ≤ (SMap.get {} d.ldg.pins n).disc) :
    d.discFault m n = Dev.ldgDecide m (Dev.ldgFault 17 (Dev.setFld
      { d with ldg := { d.ldg with discBits := withBit d.ldg.discBits n } } 0xB3 ⟨LDG_SIN_STATE, 24 + n, 24 + n⟩ 1)) := by
  simp only [Dev.discFault, hon, hn, hdue, decide_true, Bool.and_self, if_true]

end

/-- A command of the device that reads shared SRAM, with well-formed operands. -/
theorem State.cmdM_ok {s : State} {t : Nat} {ok : Bool} (h : s.up t = true) (hok : ok = true) (f : Mem → Dev → Dev) :
    s.cmdM t ok f = .next (s.put (f s.mem (s.begun t))) := by
  rw [hok, State.cmdM_up h]

/-- Settles O53: each clause is what its command does when its time has come or the level has changed. -/
theorem safetyPinCommandsComplete : Obligations.SafetyPinCommandsComplete := by
  unfold Obligations.SafetyPinCommandsComplete
  refine ⟨fun s t o h ho => ?_, fun s t o a h ho => ?_, fun s t o level h ho => ?_, fun s t o h ho => ?_,
    fun s t o a before during after h ho => ?_, fun s t i level h hi => ?_, fun s t h => ?_, fun s t n h hn => ?_⟩
  · intro d hon hdue
    exact (State.cmd_ok h (decide_eq_true ho) fun d => d.windowStart o).trans (State.answers_congr (Dev.windowStart_due ho hon hdue))
  · intro d x hwindow hdue e
    exact (State.cmdM_ok h (decide_eq_true ho) fun m d => d.windowEnd m o).trans (State.answers_congr (Dev.windowEnd_due hwindow hdue))
  · intro d x e hlodge hhigh hlow
    have hexec := State.cmdM_ok h (show okOutput o = true from decide_eq_true ho) fun m d => d.readbackChange m o level
    refine ⟨fun a hpulse hwindow hearly => ?_, fun hlevel hpulse hwas hsteady hothers => ?_⟩
    · exact hexec.trans (State.answers_congr (Dev.readbackChange_pulse ho hlodge hhigh hlow hpulse hwindow hearly))
    · subst hlevel
      exact hexec.trans (State.answers_congr (Dev.readbackChange_low ho hlodge hhigh hlow hpulse hwas hsteady hothers))
  · intro d hon hdue
    exact (State.cmd_ok h (decide_eq_true ho) fun d => d.tpoStart o).trans (State.answers_congr (Dev.tpoStart_due ho hon hdue))
  · intro d htpo hdue
    exact (State.cmdM_ok h (decide_eq_true ho) fun m d => d.tpoEnd m o before during after).trans
      (State.answers_congr (Dev.tpoEnd_due htpo hdue))
  · intro d hon
    exact (State.cmdM_ok h (decide_eq_true hi) fun m d => d.filterChange m i level).trans (State.answers_congr (Dev.filterChange_on hi hon))
  · intro d hon hdue
    exact (State.cmdM_up h fun m d => d.msTick m).trans (State.answers_congr (Dev.msTick_due hon hdue))
  · intro d hon hdue
    exact (State.cmdM_ok h (decide_eq_true hn) fun m d => d.discFault m n).trans (State.answers_congr (Dev.discFault_due hn hon hdue))

end Sys2Proof.Machine
end

section
/-! The safety network and the clearing of Lodge faults (16_lodge_safety.md). -/
namespace Sys2Proof.Machine
-- A `decide +kernel` waits for every proof before it: in turn, none of them waits in a thread of its own.
set_option Elab.async false

theorem getLsbD_eq_bitAt (w : Word) (b : Nat) : w.getLsbD b = bitAt w.toNat b := by
  rw [BitVec.getLsbD, Nat.testBit_eq_decide_div_mod_eq, bitAt, Nat.shiftRight_eq_div_pow, Bool.beq_eq_decide_eq]

section
variable {d : Dev} {m : Mem}

theorem Dev.statusSend_due (hon : d.ldgOn = true) (hen : d.on 0xB2 LDG_NET_CFG_EN = true) (hdue : d.edgeTime % 800000000 = 0) :
    let n := if d.ldg.sentAny = true then (d.regN 0xB2 LDG_TX_COUNTER + 1) % 2 ^ 32 else 0
    let frame (b : Bool) : List Nat := if d.safetySends b = true
      then ethFrame (d.macBytes LDG_PEER_MAC_LO) (d.macBytes LDG_OWN_MAC_LO) b (pduCopy b (d.statusBody n)) else []
    d.statusSend = Dev.setRegN
      { d with ldg := { d.ldg with
        sentAny := true, sent := [frame false, frame true], groups := [frameGroups (frame false), frameGroups (frame true)] } }
      0xB2 LDG_TX_COUNTER n := by
  have hdue' : (d.edgeTime % Config.ms 10 != 0) = false := by
    rw [bne_eq_false_iff_eq]; exact hdue
  simp only [Dev.statusSend, hon, hen, hdue', Bool.not_true, Bool.or_self, Bool.false_eq_true, if_false]

/-! ### Received copies of a command -/

section
variable {b : Bool} {frame : List Nat} (hon : d.ldgOn = true) (hen : d.on 0xB2 LDG_NET_CFG_EN = true) (hlink : d.safetyLink b = true)
  (hown : frame.take 6 = d.macBytes LDG_OWN_MAC_LO) (htype : (frame.drop 12).take 2 = [0x88, if b = true then 0xB6 else 0xB5])
  (hlen : 64 ≤ frame.length)
  (hcrc : frame.drop (frame.length - 4) = leBytes 4 (crc32 (frame.take (frame.length - 4))).toNat)
include hon hen hlink hown htype hlen hcrc

theorem Dev.commandReceive_bad (hcopy : d.copyOk b ((frame.drop 14).take 36) = false) :
    d.commandReceive m b frame = d.bump 0xB2 (if b = true then LDG_RX_REJ_B else LDG_RX_REJ_A) := by
  simp only [Dev.commandReceive, hon, hen, hlink, hown, htype, hlen, hcrc, hcopy, beq_self_eq_true, decide_true, Bool.and_self, Bool.not_true,
    Bool.not_false, Bool.or_self, Bool.false_eq_true, if_true, if_false, Dev.rxReject]

/-- A good copy waits for its partner, or meets it. -/
theorem Dev.commandReceive_good (hcopy : d.copyOk b ((frame.drop 14).take 36) = true) :
    let raw := (frame.drop 14).take 36
    let body := if b = true then (raw.take 32).map (fun x => 255 - x % 256) else raw.take 32
    let waiting := if b = true then d.ldg.rxA else d.ldg.rxB
    let partner := waiting.find? (fun x => pduCounter x.2 == pduCounter body && decide (d.now ≤ x.1 + 1600000000))
    let without (x : Nat × List Nat) : Dev := { d with ldg := if b = true
      then { d.ldg with rxA := d.ldg.rxA.filter (fun y => y != x) } else { d.ldg with rxB := d.ldg.rxB.filter (fun y => y != x) } }
    (partner = none → d.commandReceive m b frame =
      { d with ldg := if b = true then { d.ldg with rxB := d.ldg.rxB ++ [(d.now, body)] } else { d.ldg with rxA := d.ldg.rxA ++ [(d.now, body)] } }) ∧
    (∀ x, partner = some x → d.commandReceive m b frame =
      if x.2 = body then (without x).acceptCommand m body else (without x).bump 0xB2 LDG_RX_MISMATCH) := by
  intro raw body waiting partner without
  have hms : ∀ r, partner = r → waiting.find? (fun x => pduCounter x.2 == pduCounter body && decide (d.now ≤ x.1 + Config.ms 20)) = r := fun _ h => h
  simp only [waiting, body, raw] at hms
  refine ⟨fun hnone => ?_, fun x hsome => ?_⟩
  · have hfind := hms none hnone
    simp only [Dev.commandReceive, hon, hen, hlink, hown, htype, hlen, hcrc, hcopy, hfind, body, raw, beq_self_eq_true, decide_true,
      Bool.and_self, Bool.not_true, Bool.or_self, Bool.false_eq_true, if_false]
  · have hfind := hms (some x) hsome
    simp only [Dev.commandReceive, hon, hen, hlink, hown, htype, hlen, hcrc, hcopy, hfind, body, raw, without, beq_self_eq_true, decide_true,
      Bool.and_self, Bool.not_true, Bool.or_self, Bool.false_eq_true, if_false, beq_iff_eq]

end

theorem Dev.watchdog_late {a : Nat} (hlast : d.ldg.lastAccept = some a) (hok : d.netOk = true)
    (hlate : a + 80000000 * max 20 (d.fld 0xB2 LDG_NET_CFG_WD_MS) < d.now) :
    d.watchdog m = ((((Dev.setNetOk false { d with ldg := { d.ldg with anyCounter := true } }).bump 0xB2 LDG_WD_CNT).raise 0xB0 6).ldgSelect).ldgDecide m := by
  simp only [Dev.watchdog, hlast, hok, Config.ms, hlate, decide_true, Bool.and_self, if_true]

/-! ### LDG.FAULT -/

theorem Dev.faultClear_eq (w : Word) :
    d.faultClear m w =
      let e := [16, 17, 18, 19].foldl (fun (e : Dev) b =>
        if bitAt w.toNat b = true ∧ e.causePersists b = false then e.clrBit 0xB0 LDG_FAULT b else e) d
      let l := { e.ldg with
        discBits := if e.bit 0xB0 LDG_FAULT 17 = true then e.ldg.discBits else 0
        shortBits := if e.bit 0xB0 LDG_FAULT 18 = true then e.ldg.shortBits else 0 }
      Dev.ldgDecide m (Dev.setFld { e with ldg := l } 0xB3 LDG_SIN_STATE_FAULT (l.discBits ||| l.shortBits)) := by
  simp only [Dev.faultClear, getLsbD_eq_bitAt, Bool.and_eq_true, Bool.not_eq_true']

theorem Dev.ownOf_ldgFault (w : Word) : d.ownOf m 0xB0 LDG_FAULT w = d.faultClear m w := by
  obtain ⟨r, hr⟩ := Option.isSome_iff_exists.1 (show (regDef 0xB0 LDG_FAULT).isSome = true by decide +kernel)
  simp only [Dev.ownOf, hr]
  rfl

/-- A page of Lodge is there on the variant that has Lodge. -/
theorem Dev.dead_lodge (h : d.hasLodge = true) (off : Nat) : d.dead 0xB0 off = false := by
  have hthere : d.absent 0xB0 = false := by simp only [Dev.absent, h, Bool.not_true, Bool.and_false]
  simp only [Dev.dead, hthere, Dev.powered, show pageDomain 0xB0 = none from rfl, Bool.not_true, Bool.false_and, Bool.or_self]

end

theorem State.rowWrite_ldgFault {s : State} {t : Nat} {ini : Initiator} (h : s.servedTo t ini = true) (hlodge : (s.begun t).hasLodge = true) (w : Word) :
    s.rowWrite t true ini 0xB0 LDG_FAULT w = .next (s.put ((s.begun t).faultClear s.mem w)) := by
  have hlanded : s.landed t 0xB0 LDG_FAULT = s.begun t := Dev.landing_out _ (by decide)
  have hw : s.writable t ini 0xB0 LDG_FAULT = true := by
    rw [State.writable, h, hlanded, Dev.dead_lodge hlodge]
    rfl
  rw [State.rowWrite_outOf hw (by decide) rfl, Dev.ownOf_ldgFault]

/-- Settles O54: the network's commands by their cases, and the W1C of LDG.FAULT. -/
theorem safetyNetworkCommandsComplete : Obligations.SafetyNetworkCommandsComplete := by
  unfold Obligations.SafetyNetworkCommandsComplete
  refine ⟨fun s t h => ?_, fun s t b frame h => ?_, fun s t h => ?_, fun s t a h => ?_, fun s t ini w h hlodge => ?_⟩
  · intro d hon hen hdue n frame
    exact (State.cmd_up h Dev.statusSend).trans (State.answers_congr (Dev.statusSend_due hon hen hdue))
  · intro d raw body waiting partner hon hen hlink hown htype hlen hcrc without
    have hexec := State.cmdM_up h fun m d => d.commandReceive m b frame
    have hgood := Dev.commandReceive_good (m := s.mem) hon hen hlink hown htype hlen hcrc
    refine ⟨fun hcopy => ?_, fun hcopy hnone => ?_, fun x hcopy hsome hbody => ?_, fun x hcopy hsome hbody => ?_⟩
    · exact hexec.trans (State.answers_congr (Dev.commandReceive_bad hon hen hlink hown htype hlen hcrc hcopy))
    · exact hexec.trans (State.answers_congr ((hgood hcopy).1 hnone))
    · exact hexec.trans (State.answers_congr (((hgood hcopy).2 x hsome).trans (if_pos hbody)))
    · exact hexec.trans (State.answers_congr (((hgood hcopy).2 x hsome).trans (if_neg hbody)))
  · exact State.cmd_up h Dev.pairTimeout
  · intro d hlast hok hlate
    exact (State.cmdM_up h fun m d => d.watchdog m).trans (State.answers_congr (Dev.watchdog_late hlast hok hlate))
  · exact (State.rowWrite_ldgFault h hlodge w).trans (State.answers_congr (Dev.faultClear_eq w))

end Sys2Proof.Machine
end

section
/-! Bed tests and temperatures (17_calibration.md, 18_thermal_otp.md). -/
namespace Sys2Proof.Machine
-- A `decide +kernel` waits for every proof before it: in turn, none of them waits in a thread of its own.
set_option Elab.async false

/-! ### Bed tests -/

section
variable {d : Dev}

theorem Dev.calStart_eq :
    d.calStart = if d.on 0x07 CAL_CTRL_EN = false ∨ d.cal.bed ≠ none then d
      else if d.calSpaced = true then d.calBegin (d.fld 0x07 CAL_CDT_CFG_BED) else { d with cal := { d.cal with waits := true } } := by
  simp only [Dev.calStart, Bool.or_eq_true, Bool.not_eq_true', Option.isSome_iff_ne_none]

/-- START acts before ABORT. -/
theorem Dev.afterManagement_calCtrl (m : Mem) (old v : Word) :
    d.afterManagement m 0x07 CAL_CTRL old v =
      let e := if bitAt v.toNat CAL_CTRL_START.lo = false ∨ d.on 0x07 CAL_CTRL_EN = false ∨ d.cal.bed ≠ none then d
        else if d.calSpaced = true then d.calBegin (d.fld 0x07 CAL_CDT_CFG_BED)
        else { d with cal := { d.cal with waits := true } }
      if bitAt v.toNat CAL_CTRL_ABORT.lo = true then e.calFail 5 else e := by
  have hafter : d.afterManagement m 0x07 CAL_CTRL old v =
      let e := if bitAt v.toNat CAL_CTRL_START.lo = true then d.calStart else d
      if bitAt v.toNat CAL_CTRL_ABORT.lo = true then e.calAbort else e := rfl
  rw [hafter, Dev.calStart_eq]
  cases bitAt v.toNat CAL_CTRL_START.lo with
  | false => simp only [Bool.false_eq_true, if_false, true_or, if_true, Dev.calAbort]
  | true => simp only [Bool.true_eq_false, false_or, if_true, Dev.calAbort]

theorem Dev.calAuto_due (hidle : d.cal.bed = none) (hen : d.on 0x07 CAL_CTRL_EN = true) (hauto : d.on 0x07 CAL_CTRL_AUTO = true)
    (hdue : ∀ a, d.cal.startAt = some a → a + 800000000 * max 25 (d.fld 0x07 CAL_SCHED_INTERVAL) ≤ d.now) :
    d.calAuto = Dev.calBegin d.cal.next { d with cal := { d.cal with next := (d.cal.next + 1) % 64 } } := by
  have hgap : Config.ms (10 * max 25 (d.fld 0x07 CAL_SCHED_INTERVAL)) = 800000000 * max 25 (d.fld 0x07 CAL_SCHED_INTERVAL) := by
    rw [Config.ms, ← Nat.mul_assoc]
  cases hstart : d.cal.startAt with
  | none => simp only [Dev.calAuto, hstart, hidle, hen, hauto, Option.isNone_none, Bool.and_self, if_true]
  | some a => simp only [Dev.calAuto, hstart, hidle, hen, hauto, hgap, hdue a hstart, decide_true, Option.isNone_none, Bool.and_self, if_true]

theorem Dev.calLate_waits (hidle : d.cal.bed = none) (hwaits : d.cal.waits = true) (hen : d.on 0x07 CAL_CTRL_EN = true)
    (hspaced : d.calSpaced = true) : d.calLate = d.calBegin (d.fld 0x07 CAL_CDT_CFG_BED) := by
  simp only [Dev.calLate, hidle, hwaits, hen, hspaced, Option.isNone_none, Bool.and_self, if_true]

/-- A run is over with every channel's hits in, or at its limit of time. -/
theorem Dev.calRunOver_iff (hruns : d.calRuns = true)
    (hover : (d.cal.chans.all (fun k => decide (d.cal.hits ≤ SMap.get 0 d.cal.total k))) = true ∨
      d.cal.runAt + 80000000000 * d.cal.tlim ≤ d.now) : d.calRunOver = true := by
  have hlimit : Config.ms (1000 * d.cal.tlim) = 80000000000 * d.cal.tlim := by
    rw [Config.ms, ← Nat.mul_assoc]
  simp only [Dev.calRunOver, hruns, hlimit, Bool.true_and, Bool.or_eq_true, decide_eq_true_eq]
  exact hover

theorem Dev.calRunEnd_first {b : Nat} (hbed : d.cal.bed = some b) (hover : d.calRunOver = true) (hstate : d.calState = 1) :
    d.calRunEnd = Dev.setFld { d with cal := { d.cal with
      runAt := d.now, passA := d.cal.passSet, tallyA := d.cal.tally, total := [], tally := [] } } 0x07 CAL_STATUS_STATE 2 := by
  simp only [Dev.calRunEnd, hover, hbed, hstate, Bool.not_true, Bool.false_eq_true, beq_self_eq_true, if_true, if_false]

theorem Dev.calRunEnd_second {b : Nat} (hbed : d.cal.bed = some b) (hover : d.calRunOver = true) (hstate : d.calState = 2) :
    d.calRunEnd = d.calCheck b := by
  simp only [Dev.calRunEnd, hover, hbed, hstate, Bool.not_true, Bool.false_eq_true, Nat.reduceBEq, if_false]

end

/-! ### Temperatures -/

/-- A conversion of sensor n has found it broken or not: the sensors that are off show a fault, and a new fault raises its event. -/
def Dev.tsFound (n : Nat) (bad : Bool) (d : Dev) : Dev :=
  let e := (List.range 8).foldl (fun (e : Dev) k => if e.tsEnabled k = true then e
    else (e.setBit 0x06 THM_FAULT k).setFld 0x06 (THM_READ_FAULT.plus (4 * k)) 1) { d with thmAt := SMap.put 0 d.thmAt n (d.now + 1) }
  if (List.range 8).any (fun k => !d.tsEnabled k && !d.bit 0x06 THM_FAULT k) = true ∨ (bad = true ∧ d.bit 0x06 THM_FAULT n = false)
  then e.raise 0x06 3 else e

/-- The sensor's reading, its level and what follows. -/
def Dev.tsReads (n : Nat) (d : Dev) (temp : Int) : Dev :=
  let e := ((d.tsFound n false).clrBit 0x06 THM_FAULT n).setFld 0x06 (THM_READ_FAULT.plus (4 * n)) 0
  let e := (e.setFld 0x06 (THM_READ_VALID.plus (4 * n)) 1).setFld 0x06 (THM_READ_T.plus (4 * n)) (toBits 16 temp)
  ((e.setFld 0x06 (tsLevelFld n) (e.nextLevel n temp)).thermalFollow).chargingWindow

/-- The sensor's fault and what follows. -/
def Dev.tsBroken (n : Nat) (d : Dev) : Dev :=
  let f := (((d.tsFound n true).setBit 0x06 THM_FAULT n).setFld 0x06 (THM_READ_FAULT.plus (4 * n)) 1).setFld 0x06 (THM_READ_VALID.plus (4 * n)) 0
  ((f.setFld 0x06 (tsLevelFld n) 3).thermalFollow).chargingWindow

section
variable {d : Dev} {n : Nat}

theorem Dev.tsConvert_reads (e : Dev) (temp : Int) : ((e.tsConvert n (some temp)).thermalFollow).chargingWindow = e.tsReads n temp := by
  simp only [Dev.tsConvert, Dev.tsReads, Dev.tsFound, Option.isNone_some, Bool.or_eq_true, Bool.false_and, Bool.false_eq_true, false_and,
    or_false]

theorem Dev.tsConvert_broken (e : Dev) : ((e.tsConvert n none).thermalFollow).chargingWindow = e.tsBroken n := by
  simp only [Dev.tsConvert, Dev.tsBroken, Dev.tsFound, Option.isNone_none, Bool.or_eq_true, Bool.true_and, Bool.not_eq_true', true_and]

theorem Dev.thermalDone_some (hn : n < 14) (hen : d.tsEnabled n = true) {x : Measured} {r : Option Int} {e : Dev}
    (hx : d.tsMeasured n x = some (r, e)) : d.thermalDone n x = ((e.tsConvert n r).thermalFollow).chargingWindow := by
  simp only [Dev.thermalDone, Nat.not_le.2 hn, hen, hx, decide_false, Bool.not_true, Bool.or_self, Bool.false_eq_true, if_false]

theorem Dev.thermalDone_die (hn : n < 14) (hdie : 8 ≤ n) (hen : d.tsEnabled n = true) (r : Option Int) :
    d.thermalDone n (.die r) = ((d.tsConvert n r).thermalFollow).chargingWindow := by
  have hmeasured : d.tsMeasured n (.die r) = some (r, d) := if_pos hdie
  exact Dev.thermalDone_some hn hen hmeasured

theorem Dev.thermalDone_diode (hn : n < 8) (hen : d.tsEnabled n = true) (htype : d.fld 0x06 (THM_TS_CFG_TYPE.plus (4 * n)) = 0) (uv : Nat)
    (temp : Int) : d.thermalDone n (.diode uv temp) = if 150000 ≤ uv ∧ uv ≤ 1200000 then d.tsReads n temp else d.tsBroken n := by
  have hmeasured : d.tsMeasured n (.diode uv temp) = some (if uv < 150000 || 1200000 < uv then none else some temp, d) := by
    simp only [Dev.tsMeasured, htype, Nat.not_le.2 hn, decide_false, bne_self_eq_false, Bool.or_self, Bool.false_eq_true, if_false]
  by_cases hin : 150000 ≤ uv ∧ uv ≤ 1200000
  · rw [if_neg (by simp only [Bool.or_eq_true, decide_eq_true_eq]; omega)] at hmeasured
    rw [if_pos hin, Dev.thermalDone_some (by omega) hen hmeasured, Dev.tsConvert_reads]
  · rw [if_pos (by simp only [Bool.or_eq_true, decide_eq_true_eq]; omega)] at hmeasured
    rw [if_neg hin, Dev.thermalDone_some (by omega) hen hmeasured, Dev.tsConvert_broken]

theorem Dev.thermalDone_thermistor (hn : n < 8) (hen : d.tsEnabled n = true) (htype : d.fld 0x06 (THM_TS_CFG_TYPE.plus (4 * n)) = 1) (z : Nat) :
    d.thermalDone n (.thermistor z) =
      if 20000 ≤ z ∧ z ≤ 5000000000 then (d.thermistor n z).2.tsReads n (d.thermistor n z).1 else d.tsBroken n := by
  have hmeasured : d.tsMeasured n (.thermistor z) = if z < 20000 || 5000000000 < z then some (none, d)
      else some (some (d.thermistor n z).1, (d.thermistor n z).2) := by
    simp only [Dev.tsMeasured, htype, Nat.not_le.2 hn, decide_false, bne_self_eq_false, Bool.or_self, Bool.false_eq_true, if_false]
  by_cases hin : 20000 ≤ z ∧ z ≤ 5000000000
  · rw [if_neg (by simp only [Bool.or_eq_true, decide_eq_true_eq]; omega)] at hmeasured
    rw [if_pos hin, Dev.thermalDone_some (by omega) hen hmeasured, Dev.tsConvert_reads]
  · rw [if_pos (by simp only [Bool.or_eq_true, decide_eq_true_eq]; omega)] at hmeasured
    rw [if_neg hin, Dev.thermalDone_some (by omega) hen hmeasured, Dev.tsConvert_broken]

theorem Dev.readingStale_old {a : Nat} (hage : d.tsAge n = some a) (hold : 1600000000 < a) :
    d.readingStale n = (d.setFld 0x06 THM_STATUS_OTP_OK d.otpWindow.toNat).chargingWindow := by
  have hms : Config.ms 20 = 1600000000 := rfl
  simp only [Dev.readingStale, hage, hms, Nat.not_le.2 hold, if_false]

end

theorem exec_thermalConversionDone {s : State} {t n : Nat} (h : s.up t = true) {x : Measured} (hok : okMeasured n x = true) :
    exec (.thermalConversionDone t n x) s = .next (s.put ((s.begun t).thermalDone n x)) :=
  State.cmd_ok h hok fun d => d.thermalDone n x

/-- Settles O55: the bed test's commands and the conversions by their cases. -/
theorem calibrationAndTemperatureCommandsComplete : Obligations.CalibrationAndTemperatureCommandsComplete := by
  unfold Obligations.CalibrationAndTemperatureCommandsComplete
  refine ⟨fun s t ini w h => ?_, fun s t h => ?_, fun s t b h => ?_, fun s t n h hn => ?_, fun s t n a h hn => ?_⟩
  · intro after
    have hctrl (v : Word) : s.rowWrite t true ini 0x07 CAL_CTRL v = .next (s.put (after v)) := by
      rw [State.rowWrite_management h (by decide) rfl (by decide +kernel) rfl, Dev.afterManagement_calCtrl]
    exact ⟨hctrl _, hctrl _⟩
  · intro d hidle
    exact ⟨fun hen hauto hdue => (State.cmd_up h Dev.calAuto).trans (State.answers_congr (Dev.calAuto_due hidle hen hauto hdue)),
      fun hwaits hen hspaced => (State.cmd_up h Dev.calLate).trans (State.answers_congr (Dev.calLate_waits hidle hwaits hen hspaced))⟩
  · intro d c hbed hover
    have hexec := State.cmd_up h Dev.calRunEnd
    refine ⟨fun hstate => ?_, fun hstate => ?_⟩
    · have hruns : d.calRuns = true := by rw [Dev.calRuns, hstate]; rfl
      exact hexec.trans (State.answers_congr (Dev.calRunEnd_first hbed (Dev.calRunOver_iff hruns hover) hstate))
    · have hruns : d.calRuns = true := by rw [Dev.calRuns, hstate]; rfl
      exact hexec.trans (State.answers_congr (Dev.calRunEnd_second hbed (Dev.calRunOver_iff hruns hover) hstate))
  · intro d hen found reads broken
    refine ⟨fun hdie => ?_, fun hn8 htype uv temp => ?_, fun hn8 htype z => ?_⟩
    · have hok (r : Option Int) : okMeasured n (.die r) = true := by
        simp only [okMeasured, hdie, hn, decide_true, Bool.and_self]
      exact ⟨(exec_thermalConversionDone h (hok none)).trans (State.answers_congr
          ((Dev.thermalDone_die hn hdie hen none).trans (Dev.tsConvert_broken d))),
        fun temp => (exec_thermalConversionDone h (hok _)).trans (State.answers_congr
          ((Dev.thermalDone_die hn hdie hen (some temp)).trans (Dev.tsConvert_reads d temp)))⟩
    · have hok : okMeasured n (.diode uv temp) = true := decide_eq_true hn8
      exact (exec_thermalConversionDone h hok).trans (State.answers_congr (Dev.thermalDone_diode hn8 hen htype uv temp))
    · have hok : okMeasured n (.thermistor z) = true := decide_eq_true hn8
      exact (exec_thermalConversionDone h hok).trans (State.answers_congr (Dev.thermalDone_thermistor hn8 hen htype z))
  · intro d hage hold
    exact (State.cmd_ok h (decide_eq_true hn) fun d => d.readingStale n).trans (State.answers_congr (Dev.readingStale_old hage hold))

end Sys2Proof.Machine
end

section
/-! One-time programmable memory, boot and attestation (18_thermal_otp.md, 19_security.md). -/
namespace Sys2Proof.Machine
-- A `decide +kernel` waits for every proof before it: in turn, none of them waits in a thread of its own.
set_option Elab.async false

theorem Dev.on_setFld_self (d : Dev) (p : Nat) (f : Fld) (v : Nat) (hl : f.lo ≤ f.hi) (hh : f.hi < 32) :
    (d.setFld p f v).on p f = (v % 2 ^ (f.hi - f.lo + 1) != 0) := by
  rw [Dev.on, Dev.fld_setFld_self _ _ _ _ hl hh]

/-! ### Programming and reading -/

section
variable {d : Dev}

theorem Dev.otpGo_eq :
    let a := d.fld 0x05 OTP_PROG_ADDR_WORD
    let v := d.reg 0x05 OTP_PROG_DATA
    d.otpGo = if d.otpRefusal a v ≠ 0 then (d.setFld 0x05 OTP_PROG_STATUS_ERR (d.otpRefusal a v)).raise 0x05 1
      else if v = 0 then d.setFld 0x05 OTP_PROG_STATUS_ERR 0
      else Dev.setFld { d.setFld 0x05 OTP_PROG_STATUS_ERR 0 with otp := { d.otp with job := some (a, v, false) } } 0x05 OTP_STATUS_BUSY 1 := by
  simp only [Dev.otpGo, Dev.otpError, bne_iff_ne, beq_iff_eq]
  rfl

theorem Dev.afterManagement_otpGo (m : Mem) (old w : Word) :
    d.afterManagement m 0x05 OTP_PROG_CTRL old (forced OTP_PROG_CTRL_GO 1 w) = d.otpGo := by
  have hgo : bitAt (forced OTP_PROG_CTRL_GO 1 w).toNat 0 = true := bitAt_forced OTP_PROG_CTRL_GO w rfl (by decide)
  have hafter (v : Word) : d.afterManagement m 0x05 OTP_PROG_CTRL old v = if bitAt v.toNat 0 then d.otpGo else d := rfl
  rw [hafter, hgo, if_pos rfl]

/-- The end of the programming of a word that closes no group. -/
theorem Dev.otpDone_word {a : Nat} {v : Word} (hjob : d.otp.job = some (a, v, false)) (hword : a % 512 ≠ 511) :
    let e := Dev.setFld { d with otp := { d.otp with job := none } } 0x05 OTP_STATUS_BUSY 0
    d.otpDone true = (((e.otpPut a v).clrBit 0x05 OTP_STATUS (4 + (a - 1024) / 512)).bump 0x05 OTP_PROG_CNT).raise 0x05 0 := by
  have hlast : (a == 1024 + 512 * ((a - 1024) / 512) + 511) = false := by
    rw [beq_eq_false_iff_ne]; omega
  simp only [Dev.otpDone, hjob, hlast, Bool.true_and, Bool.false_eq_true, if_true, if_false]

theorem Dev.otpRead_good (hgood : d.otpErr (d.fld 0x05 OTP_RD_ADDR_WORD) = 0) :
    let a := d.fld 0x05 OTP_RD_ADDR_WORD
    d.otpRead = (if (3072 ≤ a ∧ a < 3328) ∨ 6144 ≤ a then 0 else d.otpWord a, d.setFld 0x05 OTP_RD_ADDR_WORD (a + 1)) := by
  intro a
  have hlost : d.otpLost a = false := by rw [Dev.otpLost, hgood]; rfl
  have hone : (d.otpErr a == 1) = false := by rw [hgood]; rfl
  by_cases hkey : (3072 ≤ a ∧ a < 3328) ∨ 6144 ≤ a
  · have hkey' : (decide (3072 ≤ a) && decide (a < 3328) || decide (6144 ≤ a)) = true := by
      simpa only [Bool.or_eq_true, Bool.and_eq_true, decide_eq_true_eq] using hkey
    rw [if_pos hkey]
    exact if_pos hkey'
  · have hkey' : (decide (3072 ≤ a) && decide (a < 3328) || decide (6144 ≤ a)) = false := by
      rw [Bool.eq_false_iff]
      simpa only [ne_eq, Bool.or_eq_true, Bool.and_eq_true, decide_eq_true_eq] using hkey
    rw [if_neg hkey]
    simp only [Dev.otpRead, show d.fld 0x05 OTP_RD_ADDR_WORD = a from rfl, hkey', hlost, hone, Bool.false_eq_true, if_false]

theorem Dev.pageRead_otp (ini : Initiator) : d.pageRead ini 0x05 OTP_RD_DATA = d.otpRead := by
  rw [Dev.pageRead, Dev.dead_low d (by decide)]
  rfl

theorem Dev.pageRead_rpt (ini : Initiator) : d.pageRead ini 0x04 SEC_RPT_DATA = d.rptRead := by
  rw [Dev.pageRead, Dev.dead_low d (by decide)]
  rfl

end

theorem exec_otpReadData {s : State} {t : Nat} {ini : Initiator} (h : s.servedTo t ini = true) :
    exec (.otpReadData t ini) s = .next (s.put ((s.begun t).otpRead.2.deliver2 ini [(s.begun t).otpRead.1])) := by
  have hplace : placeOf ini (regAddr 0x05 OTP_RD_DATA) = .reg 0x05 OTP_RD_DATA := by cases ini <;> decide
  refine (State.cmdS_up (State.servedTo_up h) fun s => s.portRead ini 1 (regAddr 0x05 OTP_RD_DATA)).trans (congrArg _ ?_)
  rw [State.portRead_reg (State.reaches_ready h) hplace (by decide), Dev.pageRead_otp]
  rfl

theorem exec_secReportRead {s : State} {t : Nat} {ini : Initiator} (h : s.servedTo t ini = true) :
    exec (.secReportRead t ini) s = .next (s.put ((s.begun t).rptRead.2.deliver2 ini [(s.begun t).rptRead.1])) := by
  have hplace : placeOf ini (regAddr 0x04 SEC_RPT_DATA) = .reg 0x04 SEC_RPT_DATA := by cases ini <;> decide
  refine (State.cmdS_up (State.servedTo_up h) fun s => s.portRead ini 1 (regAddr 0x04 SEC_RPT_DATA)).trans (congrArg _ ?_)
  rw [State.portRead_reg (State.reaches_ready h) hplace (by decide), Dev.pageRead_rpt]
  rfl

/-! ### Boot -/

section
variable {d : Dev}

theorem Dev.afterManagement_bootGo (m : Mem) (old : Word) : d.afterManagement m 0x04 SEC_BOOT_CTRL old 1 = d.bootGoThen := rfl

/-- With a word of the identity area lost no key is derived. -/
theorem Dev.bootGoThen_lost (hstate : d.devState = stBoot) (hloaded : d.otp.loaded = true) (hidle : d.sec.booting = false)
    (hlost : d.identityLost = true) :
    d.bootGoThen.on 0x04 SEC_STATUS_ID_BAD = true ∧ d.bootGoThen.sec.kd = none := by
  have hgo : ∃ e : Dev, e.sec.kd = none ∧ d.bootGo = (e.setFld 0x04 SEC_STATUS_ID_BAD 1).setFld 0x54 GZB_SEQ_STATUS_KEY_OK 0 := by
    refine ⟨_, ?_, by simp only [Dev.bootGo, hstate, hloaded, hidle, hlost, bne_self_eq_false, Bool.not_true, Bool.or_self, Bool.false_eq_true,
      if_true, if_false]; rfl⟩
    rfl
  obtain ⟨e, hkd, hgo⟩ := hgo
  have hstill : d.bootGo.on 0x54 GZB_SEQ_STATUS_KEY_OK = false := by
    rw [hgo, Dev.on_setFld_self _ _ _ _ (by decide) (by decide)]; rfl
  have hthen : d.bootGoThen = d.bootGo := by
    simp only [Dev.bootGoThen, hstill, Bool.and_false, Bool.false_eq_true, if_false]
  rw [hthen, hgo]
  refine ⟨?_, hkd⟩
  rw [Dev.on, Dev.fld_setFld_other _ _ _ _ _ _ (by decide), ← Dev.on, Dev.on_setFld_self _ _ _ _ (by decide) (by decide)]
  rfl

theorem Dev.bootGoThen_kept (hstate : d.devState = stBoot) (hloaded : d.otp.loaded = true) (hidle : d.sec.booting = false)
    (hkey : d.on 0x54 GZB_SEQ_STATUS_KEY_OK = false) (hkept : d.identityLost = false) :
    d.bootGoThen =
      let e : Dev := { d with sec := { d.sec with
        booting := true
        kd := some (hmac256 (d.identity 3084 8) ([0x4B, 0x44] ++ beBytes 4 1)) } }
      let e := (e.setFld 0x04 SEC_BOOT_STATUS_IMAGE 0).setFld 0x04 SEC_BOOT_STATUS_ERR 0
      (((e.setFld 0x04 SEC_BOOT_STATUS_STEP 1).setFld 0x54 GZB_SEQ_STATUS_KEY_OK 1).setFld 0x04 SEC_STATUS_KEY_OK 1).seqStart := by
  have hset (e : Dev) : ((e.setFld 0x54 GZB_SEQ_STATUS_KEY_OK 1).setFld 0x04 SEC_STATUS_KEY_OK 1).on 0x54 GZB_SEQ_STATUS_KEY_OK = true := by
    rw [Dev.on, Dev.fld_setFld_other _ _ _ _ _ _ (by decide), ← Dev.on, Dev.on_setFld_self _ _ _ _ (by decide) (by decide)]
    rfl
  simp only [Dev.bootGoThen, hkey, Dev.bootGo, hstate, hloaded, hidle, hkept, hset, Dev.deriveKd, bne_self_eq_false, Bool.not_true,
    Bool.not_false, Bool.or_self, Bool.and_self, Bool.false_eq_true, if_true, if_false]

theorem Dev.idReady_due (hkd : d.sec.kd ≠ none) (hnot : d.on 0x04 SEC_STATUS_ID_READY = false) (hgood : d.on 0x04 SEC_STATUS_ID_BAD = false) :
    d.idReady =
      let e := ((List.range 15).foldl (fun (e : Dev) i =>
        e.setRegN 0x04 (SEC_ID_PUB + 4 * i) (ofLe ((d.idPub.drop (4 * i)).take 4))) d).setFld 0x04 SEC_STATUS_ID_READY 1
      if e.fld 0x04 SEC_BOOT_STATUS_STEP = 5 then e.setFld 0x04 SEC_BOOT_STATUS_STEP 6 else e := by
  have hkd' : d.sec.kd.isNone = false := by
    rw [Bool.eq_false_iff, ne_eq, Option.isNone_iff_eq_none]; exact hkd
  have hset (e : Dev) : (e.setFld 0x04 SEC_STATUS_ID_READY 1).on 0x04 SEC_STATUS_ID_READY = true := by
    rw [Dev.on_setFld_self _ _ _ _ (by decide) (by decide)]; rfl
  simp only [Dev.idReady, hkd', hnot, hgood, Dev.bootStepSix, hset, Bool.or_self, Bool.and_true, Bool.false_eq_true, if_false, beq_iff_eq]

end

/-! ### The variant through a boot -/

theorem Dev.foldl_variant {α : Type} {f : Dev → α → Dev} (h : ∀ e x, (f e x).variant = e.variant) (l : List α) (d : Dev) :
    (l.foldl f d).variant = d.variant := by
  induction l generalizing d with
  | nil => rfl
  | cons x l ih => rw [List.foldl_cons, ih, h]

section
variable {d : Dev} {m : Mem}

theorem Dev.bootReport_variant (d : Dev) (i e : Nat) : (d.bootReport i e).variant = d.variant := by
  unfold Dev.bootReport
  rw [Dev.raise_variant]
  split <;> rfl

theorem Dev.codeWrite_variant (d : Dev) (m : Mem) (t a first count : Nat) : (d.codeWrite m t a first count).variant = d.variant := rfl

theorem Dev.noteImage_variant (d : Dev) (i : Nat) (digest : List Nat) (signer : Nat × Nat) : (d.noteImage i digest signer).variant = d.variant := rfl

theorem Dev.setRegN_variant (d : Dev) (p off v : Nat) : (d.setRegN p off v).variant = d.variant := rfl

theorem Dev.coreStart_variant (d : Dev) (k entry : Nat) : (d.coreStart k entry).variant = d.variant := by
  simp only [Dev.coreStart, Dev.setCoreState, Dev.setFld_variant, Dev.setCore_variant]

theorem Dev.verifyNote_variant (d : Dev) (code : Nat) : (d.verifyNote code).variant = d.variant := by
  unfold Dev.verifyNote
  split
  · rfl
  · exact Dev.setFld_variant _ _ _ _

theorem Dev.loadBegin_variant (d : Dev) (m : Mem) (t a : Nat) : (d.loadBegin m t a).variant = d.variant := by
  unfold Dev.loadBegin
  dsimp only
  split
  · rw [Dev.raise_variant, Dev.setFld_variant]
  · simp only [Dev.codeWrite_variant, Dev.setFld_variant]

theorem Dev.loadEnd_variant (d : Dev) (t : Nat) : (d.loadEnd t).variant = d.variant := by
  unfold Dev.loadEnd
  cases SMap.get none d.pglLoads t with
  | none => rfl
  | some l =>
    have hentries (safe : Bool) (e : Dev) : ((List.range 8).foldl (fun (d : Dev) j =>
        if d.safetyCore (8 * t + j) == safe then d.setFld (pglPage (8 * t + j)) PGL_ENTRY_ENTRY l.entry else d) e).variant = e.variant :=
      Dev.foldl_variant (fun e j => by split <;> rfl) _ _
    dsimp only
    split
    · split <;> simp only [Dev.raise_variant, Dev.noteImage_variant, Dev.setRegN_variant, hentries, Dev.setFld_variant]
    · simp only [Dev.raise_variant, Dev.verifyNote_variant, Dev.setFld_variant]

theorem Dev.bootImage_variant (d : Dev) (m : Mem) (i t a : Nat) : (d.bootImage m i t a).1.variant = d.variant := by
  unfold Dev.bootImage
  dsimp only
  cases SMap.get none (d.loadBegin m t a).pglLoads t with
  | none => exact (Dev.bootReport_variant _ _ _).trans (Dev.loadBegin_variant _ _ _ _)
  | some l =>
    dsimp only
    split
    · exact ((Dev.bootReport_variant _ _ _).trans (Dev.loadEnd_variant _ _)).trans (Dev.loadBegin_variant _ _ _ _)
    · exact (Dev.loadEnd_variant _ _).trans (Dev.loadBegin_variant _ _ _ _)

theorem Dev.bootCores_variant (d : Dev) (x : Nat × PglLoad) : (d.bootCores x).variant = d.variant := by
  unfold Dev.bootCores
  dsimp only
  split
  · rfl
  · refine Dev.foldl_variant (fun e j => ?_) _ _
    split
    · rfl
    · rw [Dev.coreStart_variant, Dev.setFld_variant]

/-- The loaded terraces' cores start, and boot shows its step 5, or 6 with the identity ready. -/
theorem Dev.bootStepSix_five (d : Dev) :
    (d.setFld 0x04 SEC_BOOT_STATUS_STEP 5).bootStepSix =
      let g := d.setFld 0x04 SEC_BOOT_STATUS_STEP 5
      if g.on 0x04 SEC_STATUS_ID_READY = true then g.setFld 0x04 SEC_BOOT_STATUS_STEP 6 else g := by
  have hstep : (d.setFld 0x04 SEC_BOOT_STATUS_STEP 5).fld 0x04 SEC_BOOT_STATUS_STEP = 5 := by
    rw [Dev.fld_setFld_self _ _ _ _ (by decide) (by decide)]
    rfl
  simp only [Dev.bootStepSix, hstep, beq_self_eq_true, Bool.true_and]

theorem Dev.bootSafety_variant (d : Dev) (m : Mem) : (d.bootSafety m).1.variant = d.variant := by
  unfold Dev.bootSafety
  dsimp only
  split
  · split
    · exact Dev.bootReport_variant _ _ _
    · split
      · exact Dev.bootReport_variant _ _ _
      · exact Dev.bootImage_variant _ _ _ _ _
  · split
    · rw [Dev.bootReport_variant, Dev.raise_variant, Dev.setFld_variant]
    · rfl

/-- After the images: the cores of the loaded terraces start, and boot shows its step 5 or 6. -/
def Dev.bootFinish (loads : List (Nat × PglLoad)) (g : Dev) : Dev :=
  let g := (loads.foldl Dev.bootCores g).setFld 0x04 SEC_BOOT_STATUS_STEP 5
  if g.on 0x04 SEC_STATUS_ID_READY = true then g.setFld 0x04 SEC_BOOT_STATUS_STEP 6 else g

theorem Dev.bootFinish_eq (loads : List (Nat × PglLoad)) (g : Dev) :
    ((loads.foldl Dev.bootCores g).setFld 0x04 SEC_BOOT_STATUS_STEP 5).bootStepSix = g.bootFinish loads := Dev.bootStepSix_five _

theorem Dev.bootFinish_variant (loads : List (Nat × PglLoad)) (g : Dev) : (g.bootFinish loads).variant = g.variant := by
  have hcores := Dev.foldl_variant Dev.bootCores_variant loads g
  unfold Dev.bootFinish
  dsimp only
  split <;> simp only [Dev.setFld_variant, hcores]

/-- With a good management image the terraces' and the safety image are loaded, and the device leaves BOOT. -/
theorem Dev.imagesVerified_good (h : d.sec.booting = true) :
    let e : Dev := { d with sec := { d.sec with booting := false } }
    let v := e.verifyMgmt m (4096 * e.fld 0x04 SEC_IMG_MGMT_BASE)
    let f := (Dev.noteImage 0 v.digest v.signer { e with sec := { e.sec with mgmtRuns := true } }).bootTerraces m
    let g := (f.1.bootSafety m).1.bootFinish f.2
    e.on 0x04 SEC_IMG_MGMT_EN = true → v.code = 0 →
    d.imagesVerified m = if f.1.variant ≠ .is then g.enterState stStandby
      else if (f.1.bootSafety m).2 = true then g.startPair.enterState stStandby else g.enterFault DEV_FAULT_CAUSE_SAFETY_IMAGE := by
  intro e v f g hen hcode
  have hvariant : g.variant = f.1.variant := (Dev.bootFinish_variant _ _).trans (Dev.bootSafety_variant _ _)
  have hboot : d.imagesVerified m = if (g.variant != .is) = true then g.enterState stStandby
      else if (f.1.bootSafety m).2 = true then g.startPair.enterState stStandby else g.enterFault DEV_FAULT_CAUSE_SAFETY_IMAGE := by
    simp only [g, f, v, e] at hen hcode ⊢
    simp only [Dev.imagesVerified, h, hen, hcode, Dev.verifyNote, bne_self_eq_false, Bool.not_true, Bool.false_eq_true, if_true, if_false,
      Dev.bootFinish_eq]
  rw [hboot, hvariant]
  simp only [bne_iff_ne]

/-- The safety image, on the variant that has Lodge: loaded, or what keeps it from being. -/
theorem Dev.bootSafety_lodge (h : d.variant = .is) :
    let a := 4096 * d.fld 0x04 SEC_IMG_SAFE_BASE
    let safe := d.bootImage m 5 3 a
    let loaded := d.on 0x04 SEC_IMG_SAFE_EN
    let good := loaded = true ∧ (pglHeader m a).safety = true ∧ safe.2 ≠ none
    (good → d.bootSafety m = (safe.1, true)) ∧
    (¬ good → d.bootSafety m = (if loaded = false then d.bootReport 5 7 else if (pglHeader m a).safety = true then safe.1 else d.bootReport 5 6,
      false)) := by
  intro a safe loaded good
  have hsafety : d.bootSafety m = if loaded = false then (d.bootReport 5 7, false)
      else if (pglHeader m a).safety = false then (d.bootReport 5 6, false) else (safe.1, safe.2.isSome) := by
    simp only [safe, a, loaded, Dev.bootSafety, h, beq_self_eq_true, if_true, Bool.not_eq_true']
  refine ⟨fun hgood => ?_, fun hnot => ?_⟩
  · obtain ⟨hloaded, hheader, hsome⟩ := hgood
    rw [hsafety, hloaded, hheader, if_neg (by decide), if_neg (by decide), Option.isSome_iff_ne_none.2 hsome]
  · rw [hsafety]
    cases hloaded : loaded with
    | false => rw [if_pos rfl, if_pos rfl]
    | true =>
      cases hheader : (pglHeader m a).safety with
      | false => rfl
      | true =>
        have hnone : safe.2.isSome = false := by
          rw [Bool.eq_false_iff, ne_eq, Option.isSome_iff_ne_none]
          exact fun hsome => hnot ⟨hloaded, hheader, hsome⟩
        rw [if_neg (by decide), if_neg (by decide), if_neg (by decide), if_pos rfl, hnone]

/-- A safety image on the variant without Lodge is an error of terrace 3's load, and none is no fault. -/
theorem Dev.bootSafety_plain (h : d.variant ≠ .is) :
    d.bootSafety m = (if d.on 0x04 SEC_IMG_SAFE_EN = true then ((d.setFld 0x70 PGL_LOAD_STATUS_ERR 6).raise 0x70 9).bootReport 5 6 else d, true) := by
  simp only [Dev.bootSafety, beq_eq_false_iff_ne.2 h, Bool.false_eq_true, if_false]
  split <;> rfl

theorem Dev.imagesVerified_eq (h : d.sec.booting = true) :
    let e : Dev := { d with sec := { d.sec with booting := false } }
    let v := e.verifyMgmt m (4096 * e.fld 0x04 SEC_IMG_MGMT_BASE)
    let stops (e : Dev) (code : Nat) : Dev := (e.bootReport 0 code).setFld 0x04 SEC_BOOT_STATUS_STEP 2
    let f := (Dev.noteImage 0 v.digest v.signer { e with sec := { e.sec with mgmtRuns := true } }).bootTerraces m
    let a := 4096 * f.1.fld 0x04 SEC_IMG_SAFE_BASE
    let safe := f.1.bootImage m 5 3 a
    let done (g : Dev) : Dev :=
      let g := (f.2.foldl Dev.bootCores g).setFld 0x04 SEC_BOOT_STATUS_STEP 5
      if g.on 0x04 SEC_STATUS_ID_READY = true then g.setFld 0x04 SEC_BOOT_STATUS_STEP 6 else g
    let loaded := f.1.on 0x04 SEC_IMG_SAFE_EN
    d.imagesVerified m =
      if e.on 0x04 SEC_IMG_MGMT_EN = false then stops e 7
      else if v.code ≠ 0 then stops (e.setFld 0x04 SEC_VERIFY_LAST_CODE v.code) v.code
      else if f.1.variant = .is then
        if loaded = true ∧ (pglHeader m a).safety = true ∧ safe.2 ≠ none then (done safe.1).startPair.enterState stStandby
        else (done (if loaded = false then f.1.bootReport 5 7
          else if (pglHeader m a).safety = true then safe.1 else f.1.bootReport 5 6)).enterFault DEV_FAULT_CAUSE_SAFETY_IMAGE
      else if loaded = true then (done (((f.1.setFld 0x70 PGL_LOAD_STATUS_ERR 6).raise 0x70 9).bootReport 5 6)).enterState stStandby
      else (done f.1).enterState stStandby := by
  intro e v stops f a safe done loaded
  rw [show done = Dev.bootFinish f.2 from rfl]
  by_cases hen : e.on 0x04 SEC_IMG_MGMT_EN = false
  · rw [if_pos hen]
    simp only [stops, e] at hen ⊢
    simp only [Dev.imagesVerified, h, hen, Bool.not_true, Bool.not_false, Bool.false_eq_true, if_true, if_false]
  rw [if_neg hen]
  rw [Bool.not_eq_false] at hen
  by_cases hcode : v.code = 0
  · rw [if_neg (Decidable.not_not.2 hcode), Dev.imagesVerified_good h hen hcode]
    by_cases hvariant : f.1.variant = .is
    · obtain ⟨hsafe, hfault⟩ := Dev.bootSafety_lodge (m := m) hvariant
      rw [if_neg (Decidable.not_not.2 hvariant), if_pos hvariant]
      by_cases hgood : loaded = true ∧ (pglHeader m a).safety = true ∧ safe.2 ≠ none
      · rw [if_pos hgood, hsafe hgood, if_pos rfl]
      · rw [if_neg hgood, hfault hgood, if_neg Bool.false_ne_true]
    · rw [if_pos hvariant, if_neg hvariant, Dev.bootSafety_plain hvariant]
      by_cases hloaded : loaded = true
      · rw [if_pos hloaded, if_pos hloaded]
      · rw [if_neg hloaded, if_neg hloaded]
  · rw [if_pos hcode]
    simp only [stops, e, v] at hen hcode ⊢
    simp only [Dev.imagesVerified, h, hen, Dev.verifyNote, hcode, bne_iff_ne, ne_eq, not_false_eq_true, Bool.not_true, Bool.false_eq_true, if_true,
      if_false]

end

/-! ### Attestation -/

section
variable {d : Dev}

theorem Dev.reserve_due (hatt : d.sec.att ≠ none) (hblock : d.sec.block = none) (hjob : d.otp.job = none) (hwindow : d.otpWindow = true)
    (haborted : d.on 0x05 OTP_STATUS_ABORTED = false) (hfree : d.nextBlock < 65536) :
    let b := d.nextBlock
    d.reserve =
      let e := d.otpPut (4096 + b / 32) (d.otpWord (4096 + b / 32) ||| BitVec.ofNat 32 (2 ^ (b % 32)))
      let e := (Dev.nextFollow { e with sec := { e.sec with block := some (512 * b, 512 * b + 512) } }).blocksFollow
      if e.fld 0x04 SEC_ID_BLOCKS_FREE < 1024 then e.raise 0x04 5 else e := by
  have hatt' : d.sec.att.isNone = false := by
    rw [Bool.eq_false_iff, ne_eq, Option.isNone_iff_eq_none]; exact hatt
  simp only [Dev.reserve, hatt', hblock, hjob, hwindow, haborted, Nat.not_le.2 hfree, Option.isSome_none, Bool.or_self, Bool.not_true,
    Bool.false_eq_true, if_false]

theorem Dev.attGo_ready (hidle : d.on 0x04 SEC_ATT_STATUS_BUSY = false) :
    let e := d.setFld 0x04 SEC_ATT_STATUS_VALID 0
    e.on 0x04 SEC_STATUS_ID_BAD = false → e.devState ≠ stReset → e.devState ≠ stBoot → e.on 0x04 SEC_STATUS_ID_READY = true →
    d.attGo =
      let e := (e.setFld 0x04 SEC_ATT_STATUS_ERR 0).setFld 0x04 SEC_ATT_STATUS_BUSY 1
      { e with sec := { e.sec with att := some e.attBody } } := by
  intro e hgood hreset hboot hready
  simp only [e] at hgood hreset hboot hready ⊢
  simp only [Dev.attGo, hidle, hgood, beq_eq_false_iff_ne.2 hreset, beq_eq_false_iff_ne.2 hboot, hready, Bool.not_true, Bool.or_self,
    Bool.false_eq_true, if_false]

theorem Dev.attDone_signed {q last : Nat} {body : List Nat} (hatt : d.sec.att = some body) (hblock : d.sec.block = some (q, last)) :
    d.attDone =
      let e := (d.idSign q body).2
      let e := Dev.nextFollow { e with sec := { e.sec with
        att := none
        report := body ++ (d.idSign q body).1
        block := if q + 1 < last then some (q + 1, last) else none } }
      let e := (e.setFld 0x04 SEC_ATT_STATUS_BUSY 0).setFld 0x04 SEC_ATT_STATUS_VALID 1
      ((e.setFld 0x04 SEC_ATT_STATUS_SEQ (e.fld 0x04 SEC_ATT_STATUS_SEQ + 1)).bump 0x04 SEC_ATT_CNT).raise 0x04 1 := by
  simp only [Dev.attDone, hatt, hblock]

theorem Dev.afterManagement_attGo (m : Mem) (old : Word) : d.afterManagement m 0x04 SEC_ATT_CTRL old 1 = d.attGo := rfl

end

/-- Settles O56: programming and reading, the boot, and attestation, each by the cases of its command. -/
theorem otpAndBootCommandsComplete : Obligations.OtpAndBootCommandsComplete := by
  unfold Obligations.OtpAndBootCommandsComplete
  refine ⟨fun s t ini w h => ?_, fun s t a v h => ?_, fun s t ini h => ?_, fun s t ini h => ?_, fun s t h => ?_, fun s t h => ?_, fun s t h => ?_,
    fun s t ini h => ?_, fun s t q last body h => ?_⟩
  · intro d a v
    refine (State.rowWrite_management h (by decide) rfl (by decide +kernel) rfl _).trans (State.answers_congr ?_)
    rw [Dev.afterManagement_otpGo]
    exact Dev.otpGo_eq
  · intro d hjob hword
    exact (State.cmd_up h fun d => d.otpDone true).trans (State.answers_congr (Dev.otpDone_word hjob hword))
  · intro d a
    refine ⟨fun hgood => ?_, exec_secReportRead h⟩
    rw [exec_otpReadData h, Dev.otpRead_good hgood]
  · intro d hstate hloaded hidle hkey
    have hexec : exec (.secBootGo t ini) s = .next (s.put d.bootGoThen) :=
      State.rowWrite_management h (by decide) rfl (by decide +kernel) rfl 1
    exact ⟨fun hlost => ⟨_, hexec, Dev.bootGoThen_lost hstate hloaded hidle hlost⟩,
      fun hkept => hexec.trans (State.answers_congr (Dev.bootGoThen_kept hstate hloaded hidle hkey hkept))⟩
  · intro d hbooting
    have hexec : exec (.imagesVerified t) s = .next (s.put (d.imagesVerified s.mem)) := State.cmdM_up h fun m d => d.imagesVerified m
    have hverified := Dev.imagesVerified_eq (m := s.mem) hbooting
    clear_value d
    exact hexec.trans (State.answers_congr hverified)
  · intro d hkd hnot hgood
    exact (State.cmd_up h Dev.idReady).trans (State.answers_congr (Dev.idReady_due hkd hnot hgood))
  · intro d b hatt hblock hjob hwindow haborted hfree
    exact (State.cmd_up h Dev.reserve).trans (State.answers_congr (Dev.reserve_due hatt hblock hjob hwindow haborted hfree))
  · intro d hidle e hgood hreset hboot hready
    have hexec : exec (.attestationGo t ini) s = .next (s.put d.attGo) :=
      State.rowWrite_management h (by decide) rfl (by decide +kernel) rfl 1
    exact hexec.trans (State.answers_congr (Dev.attGo_ready hidle hgood hreset hboot hready))
  · intro d hatt hblock
    have hexec : exec (.attestationDone t) s = .next (s.put d.attDone) := State.cmd_up h Dev.attDone
    clear_value d
    exact hexec.trans (State.answers_congr (Dev.attDone_signed hatt hblock))

end Sys2Proof.Machine
end

section
/-! Tokens (19_security.md). -/
namespace Sys2Proof.Machine
-- A `decide +kernel` waits for every proof before it: in turn, none of them waits in a thread of its own.
set_option Elab.async false

/-! ### What a token does -/

section
variable (d : Dev) (m : Mem)

/-- The device with a token's operation and code shown. -/
def Dev.tokenShown : Dev := (d.setFld 0x04 SEC_TOKEN_STATUS_OP (d.tokenOp m)).setFld 0x04 SEC_TOKEN_STATUS_ERR (d.tokenCode m)

/-- A rejected token: it is counted, and the challenge changes. -/
def Dev.tokenRejected : Dev :=
  (((if d.tokenCode m ≤ 5 then (d.tokenShown m).setFld 0x04 SEC_VERIFY_LAST_CODE (d.tokenCode m) else d.tokenShown m).bump
    0x04 SEC_TOKEN_REJ_CNT).raise 0x04 4).newChallenge

variable {d m}

theorem Dev.tokenGo_rejected (h : d.tokenCode m ≠ 0) : d.tokenGo m = d.tokenRejected m := by
  simp only [Dev.tokenGo, Dev.verifyNote, h, bne_iff_ne, ne_eq, not_false_eq_true, if_true, if_false, Dev.tokenRejected, Dev.tokenShown]

/-- What an accepted token of an operation does. -/
def Dev.tokenAct (m : Mem) (op : Nat) (e : Dev) : Dev :=
  if op == 1 then e.tokUnlock m else if op == 2 then e.tokInstall m else if op == 3 then e.tokRevoke m else e.tokRaise m

theorem Dev.fld_raiseApart_still (d : Dev) (p b : Nat) {q : Nat} {f : Fld} (h : isStill q f.off) : (d.raiseApart p b).fld q f = d.fld q f := by
  have hpulsed (e : Evm) : Dev.fld { d with evm := e } q f = d.fld q f := rfl
  rw [Dev.raiseApart, Dev.fld_raise_still _ _ _ h, hpulsed]

/-- Programming a word leaves the token's address. -/
theorem Dev.tokenAddr_secProgram (g : Dev) (w : Nat) (v : Word) : (g.secProgram w v).tokenAddr = g.tokenAddr := by
  have hstill : isStill 0x04 SEC_TOKEN_ADDR_ADDR.off := by unfold isStill; decide
  have hcount (e : Dev) : (e.bump 0x05 OTP_PROG_CNT).fld 0x04 SEC_TOKEN_ADDR_ADDR = e.fld 0x04 SEC_TOKEN_ADDR_ADDR := by
    rw [Dev.fld, Dev.reg_bump_other e (by decide), ← Dev.fld]
  have hput (u : Word) : (g.otpPut w u).fld 0x04 SEC_TOKEN_ADDR_ADDR = g.fld 0x04 SEC_TOKEN_ADDR_ADDR := rfl
  unfold Dev.secProgram
  split
  · rfl
  · rw [Dev.tokenAddr, Dev.fld_raiseApart_still _ _ _ hstill, hcount, hput, ← Dev.tokenAddr]

theorem Dev.tokUnlock_eq (e : Dev) :
    let byte (o : Nat) : Nat := (memByte m (e.tokenAddr + o)).toNat
    e.tokenAct m 1 =
      let g := e.setFld 0xB4 DBG_STATUS_UNLOCK (e.fld 0xB4 DBG_STATUS_UNLOCK ||| byte 56 % 8)
      ((g.setFld 0x04 SEC_STATUS_DBG_UNLOCKED 1).ossdOff).raise 0x04 6 := by
  have hact : e.tokenAct m 1 = e.tokUnlock m := if_pos rfl
  simp only [hact, Dev.tokUnlock]

theorem Dev.tokInstall_eq (e : Dev) :
    let byte (o : Nat) : Nat := (memByte m (e.tokenAddr + o)).toNat
    e.tokenAct m 2 = ((List.range 8).foldl (fun (g : Dev) i =>
      g.secProgram (3328 + 64 + 8 * (byte 6 % 8) + i) (memWord m (e.tokenAddr + 56 + 4 * i))) e).keysFollow := by
  have hact : e.tokenAct m 2 = e.tokInstall m := by rw [Dev.tokenAct, if_neg (by decide), if_pos (by decide)]
  have hfold (w : Nat) (l : List Nat) : ∀ g : Dev, g.tokenAddr = e.tokenAddr →
      l.foldl (fun (g : Dev) i => g.secProgram (w + i) (memWord m (g.tokenAddr + 56 + 4 * i))) g
        = l.foldl (fun (g : Dev) i => g.secProgram (w + i) (memWord m (e.tokenAddr + 56 + 4 * i))) g := by
    induction l with
    | nil =>
      intro g _
      rw [List.foldl_nil, List.foldl_nil]
    | cons i l ih =>
      intro g hg
      rw [List.foldl_cons, List.foldl_cons, hg]
      exact ih _ ((Dev.tokenAddr_secProgram _ _ _).trans hg)
  intro byte
  have hinstall : e.tokInstall m = Dev.keysFollow ((List.range 8).foldl (fun (g : Dev) i =>
      g.secProgram (slotWord 1 (byte 6 % 8) + i) (memWord m (g.tokenAddr + 56 + 4 * i))) e) := rfl
  have hslot (n : Nat) : slotWord 1 n = 3328 + 64 + 8 * n := rfl
  rw [hact, hinstall, hfold _ _ e rfl, hslot]

theorem Dev.tokRevoke_eq (e : Dev) :
    let byte (o : Nat) : Nat := (memByte m (e.tokenAddr + o)).toNat
    e.tokenAct m 3 = (e.secProgram (3456 + 8 * (byte 6 / 8 % 2) + byte 6 % 8) 0xDEAD).keysFollow := by
  have hact : e.tokenAct m 3 = e.tokRevoke m := by
    rw [Dev.tokenAct, if_neg (by decide), if_neg (by decide), if_pos (by decide)]
  simp only [hact, Dev.tokRevoke, revokeWord]

theorem Dev.tokRaise_eq (e : Dev) :
    let byte (o : Nat) : Nat := (memByte m (e.tokenAddr + o)).toNat
    let cls := byte 7 % 2
    e.tokenAct m 4 = ((List.range 32).foldl (fun (g : Dev) i =>
      if g.minSvn cls < byte 6 % 64 ∧ g.otpWord (3472 + 32 * cls + i) = 0 then
        Dev.secProgram (3472 + 32 * cls + i) (BitVec.ofNat 32 (max 1 (g.draw.1 % 2 ^ 32))) g.draw.2 else g) e).keysFollow := by
  have hact : e.tokenAct m 4 = e.tokRaise m := by
    rw [Dev.tokenAct, if_neg (by decide), if_neg (by decide), if_neg (by decide)]
  simp only [hact, Dev.tokRaise, svnWord, Bool.and_eq_true, decide_eq_true_eq, beq_iff_eq]

theorem Dev.tokenGo_accepted (h : d.tokenCode m = 0) :
    d.tokenGo m = (((d.tokenShown m).tokenAct m (d.tokenOp m)).raise 0x04 3).newChallenge := by
  simp only [Dev.tokenGo, Dev.verifyNote, h, bne_self_eq_false, Bool.false_eq_true, Nat.zero_le, if_true, if_false, Dev.tokenShown, Dev.tokenAct]

/-- An accepted token's operation, or the rejection. -/
theorem Dev.tokenGo_judged {op : Nat} {e : Dev} (hop : d.tokenOp m = op) (h : (d.tokenShown m).tokenAct m op = e) :
    d.tokenGo m = if d.tokenCode m = 0 then (e.raise 0x04 3).newChallenge else d.tokenRejected m := by
  by_cases hcode : d.tokenCode m = 0
  · rw [if_pos hcode, Dev.tokenGo_accepted hcode, hop, h]
  · rw [if_neg hcode, Dev.tokenGo_rejected hcode]

/-- A token of no operation meets no policy. -/
theorem Dev.tokenPolicy_unknown {op : Nat} (h : op = 0 ∨ 4 < op) (arg : Nat) : d.tokenPolicy op arg = false := by
  have hnot : (op == 1) = false ∧ (op == 2) = false ∧ (op == 3) = false ∧ (op == 4) = false := by
    simp only [beq_eq_false_iff_ne]; omega
  simp only [Dev.tokenPolicy, hnot, Bool.false_eq_true, if_false]

/-- The operation is byte 4 of the token. -/
theorem Dev.tokenOp_body : (memBytes m d.tokenAddr 96).getD 4 0 = d.tokenOp m := rfl

theorem Dev.tokenCode_unknown (h : d.tokenOp m = 0 ∨ 4 < d.tokenOp m) : d.tokenCode m ≠ 0 := by
  unfold Dev.tokenCode
  simp only [Dev.tokenOp_body, Dev.tokenPolicy_unknown h, Bool.not_false, if_true]
  generalize Dev.verify _ _ _ _ _ _ _ = v
  split
  next hv => exact bne_iff_ne.1 hv
  next =>
    split
    · decide
    · split <;> decide

end

/-! ### The rows -/

/-- A row whose operation the token names is a write of 1 to SEC.TOKEN_CTRL. -/
theorem State.tokenRow_named {s : State} {t : Nat} {ini : Initiator} {ops : Nat → Bool} (h : s.servedTo t ini = true)
    (hops : ops ((s.begun t).tokenOp s.mem) = true) :
    s.cmdS t true (fun s => s.tokenRow ops ini) = .next (s.put ((Dev.merged 0x04 SEC_TOKEN_CTRL 1 (s.begun t)).tokenGo s.mem)) := by
  have hup := State.servedTo_up h
  have hwrite : (s.ready t).tokenRow ops ini = (s.ready t).portWrite ini 0x04 SEC_TOKEN_CTRL 1 := if_pos hops
  have hrow : s.rowWrite t true ini 0x04 SEC_TOKEN_CTRL 1 = .next ((s.ready t).portWrite ini 0x04 SEC_TOKEN_CTRL 1) := State.cmdS_up hup _
  rw [State.cmdS_up hup, hwrite, ← hrow]
  exact State.rowWrite_management h (by decide) rfl (by decide +kernel) rfl 1

/-- The write of SEC.TOKEN_CTRL leaves the token's address. -/
theorem Dev.tokenOp_merged (m : Mem) (w : Word) (d : Dev) : (Dev.merged 0x04 SEC_TOKEN_CTRL w d).tokenOp m = d.tokenOp m := by
  unfold Dev.tokenOp Dev.tokenAddr Dev.fld
  rw [Dev.reg_merged_other d w (by decide)]

/-- Settles O57: a token that its row names does its operation when it is accepted, and is counted when it is not. -/
theorem tokenCommandsComplete : Obligations.TokenCommandsComplete := by
  unfold Obligations.TokenCommandsComplete
  intro s t ini h d
  have hop : d.tokenOp s.mem = (s.begun t).tokenOp s.mem := Dev.tokenOp_merged s.mem 1 (s.begun t)
  have hexec {ops : Nat → Bool} (hops : ops (d.tokenOp s.mem) = true) :
      s.cmdS t true (fun s => s.tokenRow ops ini) = .next (s.put (d.tokenGo s.mem)) := State.tokenRow_named h (by rw [← hop]; exact hops)
  rw [← hop]
  clear_value d
  intro op code shown bad judged byte
  refine ⟨fun h1 => ?_, fun h2 => ?_, fun h3 => ?_, fun h4 => ?_, fun hunknown => ?_⟩
  · exact (hexec (ops := fun op => op == 1) (beq_iff_eq.2 h1)).trans (State.answers_congr (Dev.tokenGo_judged h1 (Dev.tokUnlock_eq shown)))
  · exact (hexec (ops := fun op => op == 2) (beq_iff_eq.2 h2)).trans (State.answers_congr (Dev.tokenGo_judged h2 (Dev.tokInstall_eq shown)))
  · exact (hexec (ops := fun op => op == 3) (beq_iff_eq.2 h3)).trans (State.answers_congr (Dev.tokenGo_judged h3 (Dev.tokRevoke_eq shown)))
  · exact (hexec (ops := fun op => op == 4) (beq_iff_eq.2 h4)).trans (State.answers_congr (Dev.tokenGo_judged h4 (Dev.tokRaise_eq shown)))
  · have hcode : code ≠ 0 := Dev.tokenCode_unknown hunknown
    have hnone : (op == 0 || decide (4 < op)) = true := by
      simpa only [Bool.or_eq_true, beq_iff_eq, decide_eq_true_eq] using hunknown
    exact ⟨hcode, (hexec (ops := fun op => op == 0 || decide (4 < op)) hnone).trans (State.answers_congr (Dev.tokenGo_rejected hcode))⟩

end Sys2Proof.Machine
end
